-- ==== Sys2Proof/Word.lean ====
section
/-! DEFINITION. The word types of the Luteva GB3: the registers of the local port are 16 bits wide
(10_local_port_configuration_and_start.md, R182), a data byte of a frame 8 bits
(01_the_bay_line.md, R1). Quantities the manual counts or measures (mm, counts, ms) are Nat or Int. -/

namespace Sys2Proof

/-- One register word of the local port (R182). -/
abbrev Word := BitVec 16

/-- One data byte of a frame on the bay line (R1). -/
abbrev Byte := BitVec 8

end Sys2Proof
end

