-- ==== Sys2Proof/Syntax.lean ====
section
/-! DEFINITION. The commands of the GB3: one constructor of Instr per row of spec/opcode_table.json,
with the data the event brings from outside (encoder answers, stage codes, frames, written words).
The table gives its rows no fields; what each command carries is said in notes/assumptions/1.md. -/

namespace Sys2Proof

/-- The two hoists of a gate, left and right as seen from upstream (00_scope.md, Abbreviations). -/
inductive Hoist
  | left
  | right
  deriving DecidableEq, Repr

/-- What a stroke encoder gives at one read: no answer within the read, or a 16-bit value with its
check bit (R128). -/
inductive EncoderRead
  | noAnswer
  | answer (value : BitVec 16) (check : Bool)
  deriving DecidableEq, Repr

/-- A frame as it stands complete on the bay line: an 11-bit identifier and its data bytes (R1). -/
structure RawFrame where
  id : BitVec 11
  data : List Byte
  deriving DecidableEq, Repr

/-- The commands, one constructor per row of spec/opcode_table.json. `l` and `r` are the answers of
the left and right encoder at a servo sample; `u` and `d` the raw codes of the two stage channels. -/
inductive Instr
  -- resets (R198); the encoder answers are those of the servo sample that falls at the start (R131)
  | powerOnReset (l r : EncoderRead)
  | pinReset (l r : EncoderRead)
  -- servo samples (R162), and the rows that name one by what comes about in it
  | servoSample (l r : EncoderRead)
  | encoderFault (h : Hoist) (l r : EncoderRead)
  | stallWindowEnd (h : Hoist) (l r : EncoderRead)
  | settleCountFull (l r : EncoderRead)
  -- stage samples (R102), and the rows that name one by what comes about in it
  | stageSample (u d : BitVec 12)
  | tidalStateChange (u d : BitVec 12)
  | surgeRunComplete (u d : BitVec 12)
  -- discrete inputs and the supply sense
  | surgeInActive
  | holdTaken
  | holdReleased
  | supplyGoesLow
  | supplyGoesGood
  | goodTimer
  -- attempts on the line and the line state
  | attemptBegin
  | attemptSuccess
  | attemptLostContention (winner : RawFrame)
  | attemptFailure
  | lineOff
  | offTimer
  | statusAPeriod
  | statusBPeriod
  | orderRepeatTimer
  -- frames seen complete on the line; `bay` is identifier mod 64
  | frameDiscarded (frame : RawFrame)
  | statusAFrame (bay : BitVec 6) (data : List Byte)
  | statusBFrame (bay : BitVec 6) (data : List Byte)
  | surgeFrame (bay : BitVec 6) (data : List Byte)
  | verdictFrame (bay : BitVec 6) (data : List Byte)
  | claimFrame (bay : BitVec 6) (data : List Byte)
  | orderFrame (bay : BitVec 6) (data : List Byte)
  -- timer expiries
  | listenTimer
  | peerLapse (bay : Nat)
  | askingTimer
  | claimWindow
  | backoffTimer
  | settleTimer
  | pumpSettle
  | releaseTimer
  | settleTimeout
  | runOn
  | trimLimitTimeout
  | storeComplete
  -- register writes of the local port
  | attnCauseWrite (w : Word)
  | attnMaskWrite (w : Word)
  | resetCauseWrite (w : Word)
  | tableSelectWrite (w : Word)
  | tableIndexWrite (w : Word)
  | registerWrite (addr : BitVec 7) (w : Word)
  -- writes of COMMAND; `b` is the byte operand (R187)
  | setLocalOrder (b : Byte)
  | withdrawLocalOrder (b : Byte)
  | issueWeirOrder (b : Byte)
  | raiseSurge (b : Byte)
  | clearSurge (b : Byte)
  | setFloor (b : Byte)
  | declareBound (b : Byte)
  | withdrawDeclaration (b : Byte)
  | faultReset (b : Byte)
  | trim (b : Byte)
  -- COUNTER CONTROL by action; `n` is bits 3 to 0 of the byte operand (R205)
  | counterSelect (n : BitVec 4)
  | counterReset (n : BitVec 4)
  | counterRelease (n : BitVec 4)
  | freezeMode (n : BitVec 4)
  | enterCommissioning (b : Byte)
  | commissionWrite (b : Byte)
  | commissionStore (b : Byte)
  | leaveCommissioning (b : Byte)
  | restart (b : Byte) (l r : EncoderRead)
  | unknownCommand (code : Byte) (b : Byte)
  | surgeInInactive
  deriving DecidableEq, Repr

end Sys2Proof
end

