-- ==== Sys2Proof/WellFormed.lean ====
section
/-! DEFINITION. Which commands can come from outside as the spec gives them: a frame has at most 8
data bytes (R1), a lapsing bay has a number of 1 to 32 (00_scope.md), a plain register write goes to
a register with no behaviour of its own (R182), an unknown command has a code the table of R187 does
not list. exec is total all the same. -/

namespace Sys2Proof

/-- The command codes of the table of R187. -/
def commandCodes : List Byte :=
  [0x01, 0x02, 0x03, 0x04, 0x05, 0x06, 0x07, 0x08, 0x09, 0x0A, 0x0B, 0x10, 0x11, 0x12, 0x13, 0x1F]

/-- The addresses of the register window whose writes have a behaviour of their own (10.2):
ATTN_CAUSE, ATTN_MASK, RESET_CAUSE, COMMAND, TABLE_SELECT, TABLE_INDEX. -/
def behavedAddresses : List (BitVec 7) := [0x03, 0x04, 0x05, 0x08, 0x0C, 0x0D]

/-- A COMMAND word that no command of the table of R187 answers to: its code is absent from the table,
or it is COUNTER CONTROL with an action above 3 (R205). -/
def isUnknownCommand (code b : Byte) : Bool :=
  !commandCodes.contains code || (code == 0x0B && decide (3 < b.toNat / 16))

/-- A frame has 0 to 8 data bytes (00_scope.md, Terms). -/
def dataFits (data : List Byte) : Bool := decide (data.length ≤ 8)

/-- The check of one command's operands. -/
def Instr.wf : Instr → Bool
  | .attemptLostContention f => dataFits f.data
  | .frameDiscarded f => dataFits f.data
  | .statusAFrame _ d => dataFits d
  | .statusBFrame _ d => dataFits d
  | .surgeFrame _ d => dataFits d
  | .verdictFrame _ d => dataFits d
  | .claimFrame _ d => dataFits d
  | .orderFrame _ d => dataFits d
  | .peerLapse b => decide (1 ≤ b ∧ b ≤ 32)
  | .registerWrite a _ => !behavedAddresses.contains a
  | .unknownCommand c b => isUnknownCommand c b
  | .powerOnReset _ _ | .pinReset _ _ | .servoSample _ _ | .encoderFault _ _ _
  | .stallWindowEnd _ _ _ | .settleCountFull _ _ | .stageSample _ _ | .tidalStateChange _ _
  | .surgeRunComplete _ _ | .surgeInActive | .holdTaken | .holdReleased | .supplyGoesLow
  | .supplyGoesGood | .goodTimer | .attemptBegin | .attemptSuccess | .attemptFailure | .lineOff
  | .offTimer | .statusAPeriod | .statusBPeriod | .orderRepeatTimer | .listenTimer | .askingTimer
  | .claimWindow | .backoffTimer | .settleTimer | .pumpSettle | .releaseTimer | .settleTimeout
  | .runOn | .trimLimitTimeout | .storeComplete | .attnCauseWrite _ | .attnMaskWrite _
  | .resetCauseWrite _ | .tableSelectWrite _ | .tableIndexWrite _ | .setLocalOrder _
  | .withdrawLocalOrder _ | .issueWeirOrder _ | .raiseSurge _ | .clearSurge _ | .setFloor _
  | .declareBound _ | .withdrawDeclaration _ | .faultReset _ | .trim _ | .counterSelect _
  | .counterReset _ | .counterRelease _ | .freezeMode _ | .enterCommissioning _
  | .commissionWrite _ | .commissionStore _ | .leaveCommissioning _ | .restart _ _ _
  | .surgeInInactive => true

/-- A well-formed command. -/
abbrev Instr.WellFormed (i : Instr) : Prop := i.wf = true

end Sys2Proof
end

