-- ==== Sys2Proof/Decode.lean ====
section
/-! DEFINITION. Reading commands. The opcode table gives no row any bits, so no word of it spells a
command. What the spec does give bits is read here all the same: the word written to a register of the
local port (R182, R187, R205), the identifier of a frame (R1), and the bits of a local port transaction
(R182). -/

namespace Sys2Proof

/-- The command that a word of the opcode table spells: the table gives its rows no bits. -/
def decodeTableWord (_nbits _w : Nat) : Option Instr := none

/-- The command code of a word written to COMMAND, bits 15 to 8 (10.2, R187). -/
def commandCode (w : Word) : Byte := w.extractLsb' 8 8

/-- The byte operand of a word written to COMMAND, bits 7 to 0 (10.2, R187). -/
def commandByte (w : Word) : Byte := w.extractLsb' 0 8

/-- COUNTER CONTROL by its action, bits 7 to 4 of the byte operand (R205). -/
def counterControl (b : Byte) : Instr :=
  let n := b.extractLsb' 0 4
  match (b.extractLsb' 4 4).toNat with
  | 0 => .counterSelect n
  | 1 => .counterReset n
  | 2 => .counterRelease n
  | 3 => .freezeMode n
  | _ => .unknownCommand 0x0B b

/-- The command that a word written to COMMAND issues (R187). `l` and `r` are the encoder answers that a
RESTART would find at its start. -/
def instrOfCommand (w : Word) (l r : EncoderRead) : Instr :=
  let b := commandByte w
  match (commandCode w).toNat with
  | 0x01 => .setLocalOrder b
  | 0x02 => .withdrawLocalOrder b
  | 0x03 => .issueWeirOrder b
  | 0x04 => .raiseSurge b
  | 0x05 => .clearSurge b
  | 0x06 => .setFloor b
  | 0x07 => .declareBound b
  | 0x08 => .withdrawDeclaration b
  | 0x09 => .faultReset b
  | 0x0A => .trim b
  | 0x0B => counterControl b
  | 0x10 => .enterCommissioning b
  | 0x11 => .commissionWrite b
  | 0x12 => .commissionStore b
  | 0x13 => .leaveCommissioning b
  | 0x1F => .restart b l r
  | _ => .unknownCommand (commandCode w) b

/-- The command that a word written to a register is (R182, R184, R186, R187). -/
def instrOfWrite (addr : BitVec 7) (w : Word) (l r : EncoderRead) : Instr :=
  match addr.toNat with
  | 0x03 => .attnCauseWrite w
  | 0x04 => .attnMaskWrite w
  | 0x05 => .resetCauseWrite w
  | 0x08 => instrOfCommand w l r
  | 0x0C => .tableSelectWrite w
  | 0x0D => .tableIndexWrite w
  | _ => .registerWrite addr w

/-- The command that a frame seen complete on the line is, by the kind code of its identifier (R1); a
kind code outside 1 to 6 is discarded (R3). -/
def instrOfFrame (f : RawFrame) : Instr :=
  let bay := f.id.extractLsb' 0 6
  match (f.id.extractLsb' 6 5).toNat with
  | 1 => .surgeFrame bay f.data
  | 2 => .verdictFrame bay f.data
  | 3 => .claimFrame bay f.data
  | 4 => .orderFrame bay f.data
  | 5 => .statusAFrame bay f.data
  | 6 => .statusBFrame bay f.data
  | _ => .frameDiscarded f

/-! ## Transactions of the local port

The transaction bit by bit, with the words that a read shifts out, is State.portClock of
Sys2Proof/Machine/Port.lean. -/

/-- Bits, most significant first, as a number (R182). -/
def bitsToNat (l : List Bool) : Nat := l.foldl (fun n b => 2 * n + b.toNat) 0

/-- The address that follows in a transaction: 1Fh wraps to 10h, 7Fh to 00h (R182). -/
def nextAddr (a : BitVec 7) : BitVec 7 := if a = 0x1F then 0x10 else a + 1

/-- The complete words of a write with their addresses; a word cut short is not written (R182). -/
def wordsFrom (a : BitVec 7) : Nat → List Bool → List (BitVec 7 × Word)
  | 0, _ => []
  | fuel + 1, l =>
    if l.length < 16 then []
    else (a, BitVec.ofNat 16 (bitsToNat (l.take 16))) :: wordsFrom (nextAddr a) fuel (l.drop 16)

/-- The writes that a transaction's bits complete where no reset falls in it (R199): none for a read, or
for a transaction that ends within its header (R182). -/
def spiWrites (l : List Bool) : List (BitVec 7 × Word) :=
  match l with
  | rw :: rest =>
    if rw || rest.length < 7 then []
    else wordsFrom (BitVec.ofNat 7 (bitsToNat (rest.take 7))) rest.length (rest.drop 7)
  | [] => []

end Sys2Proof
end

