-- ==== Sys2Proof/Config.lean ====
section
/-! DEFINITION. The free values of the model: what the spec leaves open and the machine still
produces. Each is an opaque constant, so no proof can rest on its value (notes/assumptions/8.md and
9.md). What an installation fixes is not here: it is the working copy of the configuration, in
State. -/

namespace Sys2Proof.Config

/-- The places where a word is read whose value the spec does not state. -/
inductive Site
  /-- the level of the REST slot in the SLOTS table: "below every other level" (R85) -/
  | restLevel
  /-- a ring slot that holds the mark "rejected", in the STAGE table (R103, R185) -/
  | rejectedSample
  /-- the high end of the committed range, OPEN_MAX, in the CLAIM table of a station in OUT, where no
  block uses the working copy (R133, R190) -/
  | outOpenMax
  /-- the limit of a trim below stroke 0 in the MOTION table (R159, R185) -/
  | trimLimitBelowZero
  /-- a read of the write-only register COMMAND (10.2) -/
  | commandRead
  deriving DecidableEq, Repr

/-- DESIGN CHOICE (log 9): the value read at such a place, a free value. -/
opaque unstatedWord : Site → Word

/-- How far a store has come when a reset cuts it short (R195). -/
inductive CutStage
  /-- before step 1: the store is as it was -/
  | beforeMark
  /-- between steps 1 and 4: the write mark is set -/
  | marked
  /-- after step 4: the store is complete -/
  | complete
  deriving DecidableEq, Repr, Inhabited

/-- DESIGN CHOICE (log 8): the stage that the n-th use of the free value finds. -/
opaque cutStage : Nat → CutStage

/-- DESIGN CHOICE (log 8): whether, in the n-th use, word k had been written when a store was cut
between steps 1 and 4 ("whatever words have been written", R195); for the check word, whether step 3 had run
where step 2 was done. -/
opaque cutWritten : Nat → Nat → Bool

end Sys2Proof.Config
end

