-- ==== Sys2Proof/Machine/State.lean ====
section
/-! DEFINITION. The state of one GB3: one structure per block (00_scope.md, Block diagram), the input
pins, the queue of waiting commands, and State.reset. Every field is plain data. The rule that names
each field stands in its docstring; INVENTORY.md lists them all with their reset values. -/

namespace Sys2Proof.Machine

/-! ## Values -/

/-- A closed interval [lo, hi] of openings in mm, or of strokes in counts (00_scope.md, Conventions). -/
structure Span where
  lo : Nat
  hi : Nat
  deriving DecidableEq, Repr

/-- A verdict on a claim, in the order of its codes (R2). -/
inductive Verdict
  | consent
  | demurStagger
  | demurSurge
  | demurUnsure
  deriving DecidableEq, Repr

/-- A service state; the first eight in the order of their codes (R2), then OUT (R95). -/
inductive Service
  | starting
  | idle
  | sharing
  | tide
  | localOrder
  | held
  | faulted
  | surge
  | out
  deriving DecidableEq, Repr

/-- The outcome of a resolved claim, in the order of its codes (R2). -/
inductive ClaimOutcome
  | granted
  | demurred
  | lapsed
  | abandoned
  deriving DecidableEq, Repr

/-- The tidal state, in the order of its codes (R2, R109). -/
inductive Tidal
  | unknown
  | ebb
  | flood
  deriving DecidableEq, Repr

/-- The presence of a bay (R19). -/
inductive Presence
  | neverHeard
  | live
  | lapsed
  | declared
  deriving DecidableEq, Repr

/-- The line states (1.6), in the order of their codes in SUMMARY_A (10.2). -/
inductive LineState
  | on
  | off
  | rejoining
  deriving DecidableEq, Repr

/-- The states of the own claim (3.3), in the order of their codes in SUMMARY_B (10.2). -/
inductive ClaimState
  | still
  | asking
  | pending
  | granted
  deriving DecidableEq, Repr

/-- Where a recorded verdict comes from (3.3). -/
inductive Origin
  | line
  | selfJudged
  deriving DecidableEq, Repr

/-- The five order slots, in the order of their numbers (R85). -/
inductive Slot
  | surge
  | tidal
  | localOrder
  | weir
  | rest
  deriving DecidableEq, Repr

/-- The source of a stage channel (R105). -/
inductive Source
  | own
  | borrowed (bay : Nat)
  | unavailable
  deriving DecidableEq, Repr

/-- One entry of a stage ring: an accepted stage in mm, or the mark "rejected" (R103). -/
inductive Sample
  | accepted (stage : Int)
  | rejected
  deriving DecidableEq, Repr

/-- The motion states, in the order of their codes in SUMMARY_A (10.2). -/
inductive Motion
  | stopped
  | priming
  | running
  | stopping
  | settling
  | holding
  | faultStop
  | trim
  deriving DecidableEq, Repr

/-- Where a start sequence stands (8.1). -/
inductive Phase
  | settle
  | release
  | move
  deriving DecidableEq, Repr

/-- What the profile is serving (8.1). -/
inductive Movement
  | stride
  | closure
  deriving DecidableEq, Repr

/-- A stop that has been asked for (8.1). -/
inductive StopKind
  | target
  | abandon
  deriving DecidableEq, Repr

/-- The direction of a movement (8.1). -/
inductive Direction
  | raise
  | lower
  deriving DecidableEq, Repr

/-- The speed of a movement (8.1). -/
inductive Speed
  | normal
  | fast
  deriving DecidableEq, Repr

/-- The judgement of the most recent read of an encoder (7.4). -/
inductive LastRead
  | valid
  | invalid
  | none
  deriving DecidableEq, Repr

/-- The seven fault causes, in the order of R166. -/
inductive Cause
  | encoderL
  | encoderR
  | overtravel
  | skewTrip
  | stallL
  | stallR
  | duplicateBay
  deriving DecidableEq, Repr

/-- A set of fault causes (R166). -/
structure CauseSet where
  encoderL : Bool
  encoderR : Bool
  overtravel : Bool
  skewTrip : Bool
  stallL : Bool
  stallR : Bool
  duplicateBay : Bool
  deriving DecidableEq, Repr

/-- The events a counter can select, in the order of their codes 1 to 17 (R200). -/
inductive CountedEvent
  | frameSent
  | frameReceived
  | frameDiscarded
  | txRetry
  | claimSent
  | claimGranted
  | claimDemurred
  | claimLapsed
  | verdictConsentSent
  | verdictDemurSent
  | peerLapse
  | encoderInvalid
  | stageRejected
  | strideDone
  | skewMagnitude
  | followingError
  | staggerGap
  deriving DecidableEq, Repr

/-- The answers to a command, in the order of their codes in RESULT (10.2). -/
inductive Answer
  | none
  | inProgress
  | done
  | refusedState
  | refusedRange
  | refusedCausePersists
  | refusedBusy
  deriving DecidableEq, Repr

/-- The result of the configuration tests (R189). -/
inductive Report
  | passed
  | checkWord
  | range (index : Nat)
  | constraint (number : Nat)
  deriving DecidableEq, Repr

/-- The words of a configuration, indexes 0 to 52 (R188). -/
abbrev Words := List Word

/-- A timer: stopped, or the milliseconds still to run. -/
abbrev Timer := Option Nat

/-! ## Frames -/

/-- The content of a VERDICT frame (R2). -/
structure VerdictContent where
  claimant : Nat
  number : Nat
  verdict : Verdict
  deriving DecidableEq, Repr

/-- The content of a CLAIM frame (R2). -/
structure ClaimContent where
  number : Nat
  start : Nat
  stop : Nat
  deriving DecidableEq, Repr

/-- The content of an ORDER frame (R2). -/
structure OrderContent where
  stamp : Nat
  isRepeat : Bool
  aggregate : Nat
  deriving DecidableEq, Repr

/-- The content of a STATUS-A frame (R2). -/
structure StatusA where
  opening : Nat
  committed : Span
  number : Nat
  service : Service
  outcome : ClaimOutcome
  fresh : Bool
  moving : Bool
  degraded : Bool
  deriving DecidableEq, Repr

/-- The content of a STATUS-B frame (R2); an absent stage is sent as -32768. -/
structure StatusB where
  up : Option Int
  down : Option Int
  weight : Nat
  tidal : Tidal
  epoch : Nat
  deriving DecidableEq, Repr

/-- The content of a frame, by kind (R1). -/
inductive Frame
  | surge (epoch : Nat)
  | verdict (c : VerdictContent)
  | claim (c : ClaimContent)
  | order (c : OrderContent)
  | statusA (c : StatusA)
  | statusB (c : StatusB)
  deriving DecidableEq, Repr

/-- The classes of the transmit queue's slots; VERDICT has one slot for each claimant (R7). -/
inductive FrameClass
  | surge
  | verdict (claimant : Nat)
  | claim
  | order
  | statusA
  | statusB
  deriving DecidableEq, Repr

/-! ## Blocks -/

/-- The frame in attempt; `touched` says that its slot has been given a new frame, has been withdrawn
or has become due again during the attempt (R10). -/
structure Attempt where
  frame : Frame
  touched : Bool
  deriving DecidableEq, Repr

/-- The line interface (01_the_bay_line.md). -/
structure Lif where
  /-- the SURGE slot (R7) -/
  surgeSlot : Option Nat
  /-- the two VERDICT slots, the frame queued earlier first (R7, R8) -/
  verdictSlots : List VerdictContent
  /-- the CLAIM slot (R7) -/
  claimSlot : Option ClaimContent
  /-- the ORDER slot (R7); a frame with the repeat flag clear was queued by ISSUE WEIR ORDER (R73) -/
  orderSlot : Option OrderContent
  /-- the STATUS-A slot is marked occupied (R7) -/
  statusASlot : Bool
  /-- the STATUS-B slot is marked occupied (R7) -/
  statusBSlot : Bool
  /-- the attempt in progress (R8) -/
  attempt : Option Attempt
  /-- consecutive failures (R9) -/
  failures : Nat
  /-- the line state (1.6) -/
  line : LineState
  /-- ms since the own STATUS-A was last taken, or stopped (R12; log 25) -/
  sinceStatusA : Option Nat
  /-- ms since the own STATUS-B was last taken, or stopped (R13; log 25) -/
  sinceStatusB : Option Nat
  /-- the ORDER repeat timer (R14) -/
  repeatTimer : Timer
  /-- the OFF timer (R15) -/
  offTimer : Timer
  deriving DecidableEq, Repr

/-- What a declaration has saved (R31). -/
structure Saved where
  presence : Presence
  bound : Option Span
  deriving DecidableEq, Repr

/-- The last-judged record of a neighbour (R61). -/
structure Judged where
  number : Nat
  verdict : Verdict
  deriving DecidableEq, Repr

/-- One entry of the peer table (R19). The last four fields are used in neighbour entries only. -/
structure Entry where
  bay : Nat
  presence : Presence
  age : Nat
  service : Service
  opening : Option Nat
  committed : Option Span
  lastNumber : Nat
  lastOutcome : ClaimOutcome
  fresh : Bool
  moving : Bool
  degraded : Bool
  up : Option Int
  down : Option Int
  weight : Nat
  tidal : Tidal
  epoch : Nat
  /-- the bound (R29) -/
  bound : Option Span
  /-- present while the declared flag is set: what the declaration saved (R31) -/
  saved : Option Saved
  /-- the last-judged record (R35, R61) -/
  judged : Option Judged
  /-- the listen mark (R26) -/
  mark : Bool
  deriving DecidableEq, Repr

/-- The peer table (02_the_peer_table.md). -/
structure Ptb where
  /-- the entries, in rising order of their bays (R19, R37) -/
  entries : List Entry
  /-- the listen timer, which runs exactly while the listen period runs (R26, R27) -/
  listen : Timer
  deriving DecidableEq, Repr

/-- One side's verdict with its origin (3.3). -/
structure SideVerdict where
  verdict : Verdict
  origin : Origin
  deriving DecidableEq, Repr

/-- The required-verdict set: whether bay - 1 and bay + 1 belong to it (R44). -/
structure Required where
  below : Bool
  above : Bool
  deriving DecidableEq, Repr

/-- The claim unit (03_stagger_claims.md, 3.3). -/
structure Clu where
  number : Nat
  start : Option Nat
  stop : Option Nat
  state : ClaimState
  /-- the verdict toward bay - 1 -/
  below : Option SideVerdict
  /-- the verdict toward bay + 1 -/
  above : Option SideVerdict
  required : Option Required
  lastNumber : Nat
  lastOutcome : ClaimOutcome
  fresh : Bool
  /-- the own STATUS-A with the fresh flag set has been taken since start or rejoin (R41) -/
  freshTaken : Bool
  asking : Timer
  window : Timer
  backoff : Timer
  /-- a surge closure is in progress, row 3 of R38 (log 26) -/
  surgeClosure : Bool
  /-- the present opening at the last test of the claim conditions (R40; log 26) -/
  lastTest : Option Nat
  deriving DecidableEq, Repr

/-- The held weir order (R66). -/
structure WeirOrder where
  stamp : Nat
  aggregate : Nat
  origin : Nat
  deriving DecidableEq, Repr

/-- The share record (R79). -/
structure ShareRecord where
  own : Option Nat
  remainder : Nat
  members : Nat
  capped : Nat
  excess : Nat
  exceeds : Bool
  deriving DecidableEq, Repr

/-- One row of the input record (R75): the weight used of a member, the opening used of a
non-member. -/
structure InputRow where
  bay : Nat
  member : Bool
  weight : Option Nat
  opening : Option Nat
  deriving DecidableEq, Repr

/-- The share unit (04_weir_orders_and_shares.md). -/
structure Shu where
  order : Option WeirOrder
  share : ShareRecord
  inputs : List InputRow
  /-- the target last handed to the WEIR slot (R82) -/
  lastHanded : Option Nat
  deriving DecidableEq, Repr

/-- The order selector (05_order_selection.md). The targets of a pending SURGE or TIDAL slot are 0
(R85); LOCAL and WEIR are pending exactly while their target is present. -/
structure Osl where
  surge : Bool
  tidal : Bool
  localTarget : Option Nat
  weirTarget : Option Nat
  restTarget : Option Nat
  floor : Nat
  selected : Slot
  service : Service
  deriving DecidableEq, Repr

/-- The stage monitor (06_stage_tide_and_surge.md). -/
structure Stm where
  /-- the U ring, oldest first; slots not yet taken are empty (R103) -/
  ringU : List Sample
  /-- the D ring (R103) -/
  ringD : List Sample
  sourceU : Source
  sourceD : Source
  tidal : Tidal
  confirmRun : Nat
  surgeRun : Nat
  epoch : Nat
  settled : Bool
  settle : Timer
  deriving DecidableEq, Repr

/-- A channel record (7.4). -/
structure Channel where
  value : Option Nat
  invalidRun : Nat
  lastRead : LastRead
  deriving DecidableEq, Repr

/-- A stall history (R155). -/
structure Stall where
  run : Nat
  ref : Option Nat
  deriving DecidableEq, Repr

/-- The trim record (R159); the limit and the trim setpoint are exact integers, since nothing in R159
keeps a lowering limit above 0. -/
structure Trim where
  hoist : Hoist
  start : Nat
  limit : Int
  /-- the trim setpoint in q8, present in phase MOVE (R160) -/
  setpoint : Option Int
  deriving DecidableEq, Repr

/-- The motion controller with its two channel records (07_opening_geometry_and_position_sensing.md,
7.4; 08_hoist_motion.md, 8.1). -/
structure Mtc where
  left : Channel
  right : Channel
  motion : Motion
  phase : Option Phase
  movement : Option Movement
  /-- the profile setpoint in q8 -/
  setpoint : Option Nat
  v : Nat
  /-- where the setpoint is going, in q8 -/
  goal : Option Nat
  direction : Option Direction
  speed : Option Speed
  limits : Option Span
  stopKind : Option StopKind
  closureRequest : Bool
  skewHold : Bool
  settleCount : Nat
  stallL : Stall
  stallR : Stall
  trim : Option Trim
  pumpSettle : Timer
  release : Timer
  settleTimeout : Timer
  runOn : Timer
  trimLimit : Timer
  driveL : Int
  driveR : Int
  /-- the PUMP output (R139) -/
  pump : Bool
  /-- the HVLV output: on means the holding valve is released (R139) -/
  valve : Bool
  deriving DecidableEq, Repr

/-- The fault record (R169), while its present field is set. -/
structure FaultRecord where
  first : Cause
  recorded : CauseSet
  opening : Option Nat
  left : Option Nat
  right : Option Nat
  number : Nat
  motion : Motion
  deriving DecidableEq, Repr

/-- The fault monitor (09_faults_and_stops.md). -/
structure Fmn where
  causes : CauseSet
  record : Option FaultRecord
  hold : Bool
  supplyLow : Bool
  lineOff : Bool
  good : Timer
  /-- the FAULT output (R170) -/
  faultLine : Bool
  deriving DecidableEq, Repr

/-- The transaction on the local port (R182, R199), as far as its bits have come. -/
inductive Transaction
  /-- LP_CS_N is high -/
  | idle
  /-- the header bits so far, the first bit first -/
  | header (bits : List Bool)
  /-- a write: the address of the present word, and its bits so far, the first bit first -/
  | write (addr : BitVec 7) (bits : List Bool)
  /-- a read: the address of the next word, and the bits of the sampled word still to shift out -/
  | read (addr : BitVec 7) (bits : List Bool)
  /-- ended by a reset, with LP_CS_N still low (R199) -/
  | ended
  deriving DecidableEq, Repr

/-- The local port (10_local_port_configuration_and_start.md). -/
structure Lpt where
  command : Word
  operand0 : Word
  operand1 : Word
  resultCode : Byte
  clamped : Bool
  answer : Answer
  tableSelect : BitVec 4
  captureValid : Bool
  tableIndex : Byte
  /-- TABLE_DATA0 to TABLE_DATA15 -/
  data : List Word
  /-- RESET_CAUSE: POWER in bit 0, PIN in bit 1, RESTART in bit 2 (10.2, R198) -/
  resetCause : BitVec 3
  /-- the transaction in progress (R182) -/
  transaction : Transaction
  deriving DecidableEq, Repr

/-- The configuration store (10.5 to 10.7). -/
structure Cfs where
  store : Words
  writeMark : Bool
  working : Words
  /-- the check at start failed: the station is OUT (R190) -/
  out : Bool
  startReport : Report
  imageReport : Report
  /-- the commissioning image, present exactly in commissioning (R191) -/
  image : Option Words
  storeBusy : Bool
  deriving DecidableEq, Repr

/-- One activity counter (R200). -/
structure Counter where
  value : Nat
  selected : Option CountedEvent
  threshold : Nat
  invert : Bool
  edge : Bool
  last : Bool
  half : Bool
  full : Bool
  deriving DecidableEq, Repr

/-- The four counters (R200). -/
structure Counters where
  c0 : Counter
  c1 : Counter
  c2 : Counter
  c3 : Counter
  deriving DecidableEq, Repr

/-- Activity counters and attention (11_activity_counters_and_attention.md). -/
structure Act where
  counters : Counters
  freezeOnFull : Bool
  frozen : Bool
  /-- ATTN_CAUSE, one bit per cause in the order of R206 -/
  causes : BitVec 10
  /-- ATTN_MASK; 1 masks (10.2) -/
  mask : BitVec 10
  /-- the ATTN output (R207) -/
  attn : Bool
  deriving DecidableEq, Repr

/-- The levels of the inputs the part watches between events (R115, R175, R176). -/
structure Pins where
  surgeIn : Bool
  holdIn : Bool
  /-- the valve supply sense is at or above its threshold -/
  supplyGood : Bool
  deriving DecidableEq, Repr

/-- The state of one GB3. -/
structure State where
  lif : Lif
  ptb : Ptb
  clu : Clu
  shu : Shu
  osl : Osl
  stm : Stm
  mtc : Mtc
  fmn : Fmn
  lpt : Lpt
  cfs : Cfs
  act : Act
  pins : Pins
  /-- the number of free values used so far (log 8), the model's own -/
  freeCount : Nat
  /-- the commands that wait, first in, first out -/
  pending : List Instr
  deriving DecidableEq, Repr

/-! ## Updates of one block -/

/-- The state with its lif part replaced. -/
def State.setLif (s : State) (x : Lif) : State := { s with lif := x }

/-- The state with its ptb part replaced. -/
def State.setPtb (s : State) (x : Ptb) : State := { s with ptb := x }

/-- The state with its clu part replaced. -/
def State.setClu (s : State) (x : Clu) : State := { s with clu := x }

/-- The state with its shu part replaced. -/
def State.setShu (s : State) (x : Shu) : State := { s with shu := x }

/-- The state with its osl part replaced. -/
def State.setOsl (s : State) (x : Osl) : State := { s with osl := x }

/-- The state with its stm part replaced. -/
def State.setStm (s : State) (x : Stm) : State := { s with stm := x }

/-- The state with its mtc part replaced. -/
def State.setMtc (s : State) (x : Mtc) : State := { s with mtc := x }

/-- The state with its fmn part replaced. -/
def State.setFmn (s : State) (x : Fmn) : State := { s with fmn := x }

/-- The state with its lpt part replaced. -/
def State.setLpt (s : State) (x : Lpt) : State := { s with lpt := x }

/-- The state with its cfs part replaced. -/
def State.setCfs (s : State) (x : Cfs) : State := { s with cfs := x }

/-- The state with its act part replaced. -/
def State.setAct (s : State) (x : Act) : State := { s with act := x }

/-- The state with its pins part replaced. -/
def State.setPins (s : State) (x : Pins) : State := { s with pins := x }

/-- The state with its queue replaced. -/
def State.setPending (s : State) (q : List Instr) : State := { s with pending := q }

/-- Why a step ends the machine. No command of the table does: every rule of the spec that speaks of
a fault describes state of FMN, so this type has no constructor. -/
inductive Fault
  deriving DecidableEq

/-- Why a command has no meaning. -/
inductive Refusal
  /-- raised by exec for a command that has not been modelled yet; safe: the run stops -/
  | notModelled (mnemonic : String)
  deriving DecidableEq, Repr

/-! ## Reset values, block by block -/

/-- LIF after every reset (R18). -/
def lifReset : Lif :=
  { surgeSlot := none, verdictSlots := [], claimSlot := none, orderSlot := none,
    statusASlot := false, statusBSlot := false, attempt := none, failures := 0,
    line := .rejoining, sinceStatusA := none, sinceStatusB := none, repeatTimer := none,
    offTimer := none }

/-- An entry after every reset (R36). -/
def entryReset (bay : Nat) : Entry :=
  { bay := bay, presence := .neverHeard, age := 65535, service := .starting, opening := none,
    committed := none, lastNumber := 0, lastOutcome := .abandoned, fresh := false,
    moving := false, degraded := false, up := none, down := none, weight := 1,
    tidal := .unknown, epoch := 0, bound := none, saved := none, judged := none, mark := false }

/-- The entries of bays `first` to `last` after a reset (R19, R36). -/
def entriesReset (first last : Nat) : List Entry :=
  (List.range (last + 1 - first)).map fun i => entryReset (first + i)

/-- CLU after every reset (R64). -/
def cluReset : Clu :=
  { number := 0, start := none, stop := none, state := .still, below := none, above := none,
    required := none, lastNumber := 0, lastOutcome := .abandoned, fresh := true,
    freshTaken := false, asking := none, window := none, backoff := none,
    surgeClosure := false, lastTest := none }

/-- SHU after every reset (R83). -/
def shuReset : Shu :=
  { order := none,
    share := { own := none, remainder := 0, members := 0, capped := 0, excess := 0,
               exceeds := false },
    inputs := [], lastHanded := none }

/-- OSL after every reset (R100), with the service state given. -/
def oslReset (service : Service) : Osl :=
  { surge := false, tidal := false, localTarget := none, weirTarget := none,
    restTarget := none, floor := 0, selected := .rest, service := service }

/-- STM after every reset (R122); the settle timer is started by the start. -/
def stmReset : Stm :=
  { ringU := [], ringD := [], sourceU := .unavailable, sourceD := .unavailable,
    tidal := .unknown, confirmRun := 0, surgeRun := 0, epoch := 0, settled := false,
    settle := none }

/-- A channel record after every reset (R137). -/
def channelReset : Channel := { value := none, invalidRun := 0, lastRead := .none }

/-- MTC after every reset (R137, R164). -/
def mtcReset : Mtc :=
  { left := channelReset, right := channelReset, motion := .stopped, phase := none,
    movement := none, setpoint := none, v := 0, goal := none, direction := none, speed := none,
    limits := none, stopKind := none, closureRequest := false, skewHold := false,
    settleCount := 0, stallL := { run := 0, ref := none }, stallR := { run := 0, ref := none },
    trim := none, pumpSettle := none, release := none, settleTimeout := none, runOn := none,
    trimLimit := none, driveL := 0, driveR := 0, pump := false, valve := false }

/-- The empty cause set. -/
def noCauses : CauseSet :=
  { encoderL := false, encoderR := false, overtravel := false, skewTrip := false,
    stallL := false, stallR := false, duplicateBay := false }

/-- FMN after a reset, before the start (R180), with the fault record that the reset leaves. -/
def fmnReset (record : Option FaultRecord) : Fmn :=
  { causes := noCauses, record := record, hold := false, supplyLow := false, lineOff := false,
    good := none, faultLine := false }

/-- A reset ends the transaction in progress (R199). -/
def Transaction.afterReset (t : Transaction) : Transaction :=
  if t = .idle then .idle else .ended

/-- LPT after every reset (R199), with the reset-cause set that R198 gives and what the reset leaves of a
transaction. -/
def lptReset (resetCause : BitVec 3) (transaction : Transaction) : Lpt :=
  { command := 0, operand0 := 0, operand1 := 0, resultCode := 0, clamped := false,
    answer := .none, tableSelect := 0, captureValid := false, tableIndex := 0,
    data := List.replicate 16 0, resetCause := resetCause, transaction := transaction }

/-- A counter after a power-on or pin reset (R208). -/
def counterReset : Counter :=
  { value := 0, selected := none, threshold := 0, invert := false, edge := false, last := false,
    half := false, full := false }

/-- ACT after a power-on or pin reset (R208). -/
def actReset : Act :=
  { counters := { c0 := counterReset, c1 := counterReset, c2 := counterReset,
                  c3 := counterReset },
    freezeOnFull := false, frozen := false, causes := 0, mask := 0x3FF, attn := false }

/-- The store of a factory part. DESIGN CHOICE (log 6): the spec says that its write mark is set
(10.5) and gives its words no value. -/
def factoryWords : Words := List.replicate 53 0

/-- The machine right after the power-on reset of a part as it leaves the factory: its write mark is
set, so the check word test fails and the station is OUT (10.5, R189, R190). DESIGN CHOICE (log 6):
SURGE_IN and HOLD_IN inactive, the supply good. -/
def State.reset : State :=
  { lif := lifReset,
    ptb := { entries := entriesReset 1 32, listen := none },
    clu := cluReset,
    shu := shuReset,
    osl := oslReset .out,
    stm := { stmReset with settle := some 3000 },
    mtc := mtcReset,
    fmn := fmnReset none,
    lpt := lptReset 0b001 .idle,
    cfs := { store := factoryWords, writeMark := true, working := factoryWords, out := true,
             startReport := .checkWord, imageReport := .passed, image := none,
             storeBusy := false },
    act := actReset,
    pins := { surgeIn := false, holdIn := false, supplyGood := true },
    freeCount := 0,
    pending := [] }

end Sys2Proof.Machine
end

