-- ==== Sys2Proof/Machine/Params.lean ====
section
/-! DEFINITION. The configuration words: their names, ranges and defaults (R188), the tests of a
configuration (R189), and the parameters as the blocks read them from the working copy. -/

namespace Sys2Proof.Machine

/-- Word k read as an unsigned number. -/
def wordNat (w : Words) (k : Nat) : Nat := (w.getD k 0).toNat

/-- Word k read as a two's complement number (R188: words 12, 13, 16, 17 and 21). -/
def wordInt (w : Words) (k : Nat) : Int := (w.getD k 0).toInt

/-! ## Parameters (R188) -/

def Param.ownBay (w : Words) : Nat := wordNat w 0
def Param.bayFirst (w : Words) : Nat := wordNat w 1
def Param.bayLast (w : Words) : Nat := wordNat w 2
def Param.peerTimeout (w : Words) : Nat := wordNat w 3
def Param.stagger (w : Words) : Nat := wordNat w 4
def Param.tol (w : Words) : Nat := wordNat w 5
def Param.ownWeight (w : Words) : Nat := wordNat w 6
def Param.tidalLevel (w : Words) : Nat := wordNat w 7
def Param.localLevel (w : Words) : Nat := wordNat w 8
def Param.weirLevel (w : Words) : Nat := wordNat w 9
def Param.hFlood (w : Words) : Nat := wordNat w 18
def Param.hEbb (w : Words) : Nat := wordNat w 19
def Param.nConfirm (w : Words) : Nat := wordNat w 20
def Param.surgeLevel (w : Words) : Int := wordInt w 21
def Param.surgeHyst (w : Words) : Nat := wordNat w 22
def Param.nSurge (w : Words) : Nat := wordNat w 23
def Param.strokeMin (w : Words) : Nat := wordNat w 24
def Param.strokeMax (w : Words) : Nat := wordNat w 32
def Param.openMax (w : Words) : Nat := wordNat w 40
def Param.normalSpeed (w : Words) : Nat := wordNat w 41
def Param.fastSpeed (w : Words) : Nat := wordNat w 42
def Param.ramp (w : Words) : Nat := wordNat w 43
def Param.gain (w : Words) : Nat := wordNat w 44
def Param.offset (w : Words) : Nat := wordNat w 45
def Param.deadBand (w : Words) : Nat := wordNat w 46
def Param.skewWarn (w : Words) : Nat := wordNat w 47
def Param.skewTrip (w : Words) : Nat := wordNat w 48
def Param.stallWindow (w : Words) : Nat := wordNat w 49
def Param.pumpSettle (w : Words) : Nat := wordNat w 50
/-- RUN_ON in ms (the word holds seconds). -/
def Param.runOn (w : Words) : Nat := wordNat w 51 * 1000

/-- The scaling of a stage channel (6.1). -/
structure Scaling where
  raw4 : Nat
  raw20 : Nat
  st4 : Int
  st20 : Int
  deriving DecidableEq, Repr

/-- The scaling of channel U, words 10 to 13. -/
def Param.scalingU (w : Words) : Scaling :=
  { raw4 := wordNat w 10, raw20 := wordNat w 11, st4 := wordInt w 12, st20 := wordInt w 13 }

/-- The scaling of channel D, words 14 to 17. -/
def Param.scalingD (w : Words) : Scaling :=
  { raw4 := wordNat w 14, raw20 := wordNat w 15, st4 := wordInt w 16, st20 := wordInt w 17 }

/-- The speed of a movement in mm/min (8.1). -/
def Param.speed (w : Words) : Speed → Nat
  | .normal => Param.normalSpeed w
  | .fast => Param.fastSpeed w

/-- PEER_TIMEOUT as the blocks use it: in OUT its default of 3000 ms (R37, R123). -/
def State.peerTimeout (s : State) : Nat :=
  if s.cfs.out then 3000 else Param.peerTimeout s.cfs.working

/-- The first bay of the table, and of the check on received frames; in OUT bay 1 (R18, R37). -/
def State.firstBay (s : State) : Nat := if s.cfs.out then 1 else Param.bayFirst s.cfs.working

/-- The last bay of the table, and of the check on received frames; in OUT bay 32 (R18, R37). -/
def State.lastBay (s : State) : Nat := if s.cfs.out then 32 else Param.bayLast s.cfs.working

/-! ## Ranges and defaults (R188) -/

/-- The words held as two's complement (R188). -/
def signedWords : List Nat := [12, 13, 16, 17, 21]

/-- The ranges of words 0 to 51 (R188), in the order of their indexes. -/
def wordRanges : List (Int × Int) :=
  [(1, 32), (1, 32), (1, 32), (1000, 10000), (50, 2000), (2, 50), (1, 100), (0, 6), (0, 6),
   (0, 6)]
  ++ [(0, 4095), (0, 4095), (-10000, 20000), (-10000, 20000)]
  ++ [(0, 4095), (0, 4095), (-10000, 20000), (-10000, 20000)]
  ++ [(0, 1000), (0, 1000), (10, 600), (-10000, 20000), (0, 2000), (1, 100)]
  ++ List.replicate 9 (0, 60000)
  ++ List.replicate 8 (1, 15000)
  ++ [(50, 600), (100, 1200), (10, 250), (1, 255), (0, 400), (0, 20), (10, 2000), (10, 2000),
      (25, 250), (500, 5000), (0, 60)]

/-- The value of a word at index k: signed for the signed words, unsigned otherwise (R188). -/
def wordValue (k : Nat) (x : Word) : Int :=
  if signedWords.contains k then x.toInt else (x.toNat : Int)

/-- A value lies in the range of word k (R188); PEER_TIMEOUT is also a multiple of 100. -/
def wordInRange (k : Nat) (x : Word) : Bool :=
  match wordRanges[k]? with
  | none => false
  | some (lo, hi) =>
    decide (lo ≤ wordValue k x ∧ wordValue k x ≤ hi) && (k != 3 || x.toNat % 100 == 0)

/-- The defaults of words 0 to 51 (R188). -/
def defaultValues : List Int :=
  [1, 1, 32, 3000, 500, 10, 100, 6, 5, 3]
  ++ [780, 3800, -2000, 8000, 780, 3800, -2000, 8000]
  ++ [150, 100, 100, 4500, 300, 3]
  ++ [3000, 7000, 11500, 16000, 21000, 27000, 32500, 37500, 42000]
  ++ [300, 650, 1050, 1500, 2300, 2950, 3500, 4000]
  ++ [300, 600, 32, 24, 150, 3, 60, 150, 50, 2000, 10]

/-- The check word: the sum of words 0 to 51, each taken as unsigned, mod 65536 (R188). -/
def checkWord (w : Words) : Word := (w.take 52).foldl (· + ·) 0

/-- The default configuration with its check word (R191, operand 1). -/
def defaultWords : Words :=
  let d : Words := defaultValues.map (BitVec.ofInt 16)
  d ++ [checkWord d]

/-! ## The tests of a configuration (R189) -/

/-- A list rises strictly. -/
def risesStrictly : List Nat → Bool
  | a :: b :: rest => decide (a < b) && risesStrictly (b :: rest)
  | _ => true

/-- The strokes s_0 to s_8 of the geometry table, words 24 to 32. -/
def geometryStrokes (w : Words) : List Nat := (List.range 9).map fun i => wordNat w (24 + i)

/-- The openings o_0 = 0 to o_8 of the geometry table; o_0 is not stored, the others are words 33 to
40 (R188). -/
def geometryOpenings (w : Words) : List Nat :=
  0 :: (List.range 8).map fun i => wordNat w (33 + i)

/-- Every segment of the table gives at least one count of stroke per millimetre (R124):
s_{k+1} - s_k ≥ o_{k+1} - o_k. -/
def segmentsSteep : List Nat → List Nat → Bool
  | s0 :: s1 :: ss, o0 :: o1 :: os =>
    decide ((o1 : Int) - o0 ≤ (s1 : Int) - s0) && segmentsSteep (s1 :: ss) (o1 :: os)
  | _, _ => true

/-- Constraint 3 and 4: RAW4 < RAW20 and ST4 < ST20. -/
def Scaling.ok (c : Scaling) : Bool := decide (c.raw4 < c.raw20 ∧ c.st4 < c.st20)

/-- The constraints 1 to 8 of R189, in order. -/
def constraintResults (w : Words) : List Bool :=
  [decide (Param.bayFirst w < Param.bayLast w),
   decide (Param.bayFirst w ≤ Param.ownBay w ∧ Param.ownBay w ≤ Param.bayLast w),
   (Param.scalingU w).ok,
   (Param.scalingD w).ok,
   risesStrictly (geometryStrokes w),
   risesStrictly (geometryOpenings w).tail,
   segmentsSteep (geometryStrokes w) (geometryOpenings w),
   decide (Param.skewWarn w < Param.skewTrip w)]

/-- Tests 2 and 3 of R189: the lowest failing word, else the lowest failing constraint. -/
def rangeAndConstraintReport (w : Words) : Report :=
  match (List.range 52).find? fun k => !wordInRange k (w.getD k 0) with
  | some k => .range k
  | none =>
    match (List.range 8).find? fun k => !(constraintResults w).getD k false with
    | some k => .constraint (k + 1)
    | none => .passed

/-- The three tests of R189, in order; `test1` says whether the check word test passes. -/
def configReport (test1 : Bool) (w : Words) : Report :=
  if test1 then rangeAndConstraintReport w else .checkWord

/-- Word 52 equals the sum of words 0 to 51 (R189 test 1, without the write mark). -/
def checkWordMatches (w : Words) : Bool := w.getD 52 0 == checkWord w

/-- The report of the start's check on the store's words (R189, R190). -/
def startReportOf (writeMark : Bool) (w : Words) : Report :=
  configReport (!writeMark && checkWordMatches w) w

/-- A report as START_REPORT and IMAGE_REPORT show it (10.2). -/
def Report.toWord : Report → Word
  | .passed => 0
  | .checkWord => 0x1000
  | .range k => 0x2000 + BitVec.ofNat 16 (k % 256)
  | .constraint n => 0x3000 + BitVec.ofNat 16 (n % 256)

end Sys2Proof.Machine
end

