-- ==== Sys2Proof/Machine/Geometry.lean ====
section
/-! DEFINITION. The opening converter (07_opening_geometry_and_position_sensing.md): the geometry table,
the forward and inverse conversions (R125, R126), the gate stroke (R132), the present opening (R133)
and whether the own position is known (R134). -/

namespace Sys2Proof.Machine

/-- The nine points (s_k, o_k) of the geometry table (R124). -/
def geometryPoints (w : Words) : List (Nat × Nat) :=
  (geometryStrokes w).zip (geometryOpenings w)

/-- A value clamped to [lo, hi] (00_scope.md, Conventions). -/
def clampNat (lo hi x : Nat) : Nat := if x < lo then lo else if hi < x then hi else x

/-- The forward conversion of a clamped stroke along the remaining points (R125). -/
def forwardAlong : List (Nat × Nat) → Nat → Nat
  | (s0, o0) :: (s1, o1) :: rest, s =>
    if s < s1 then o0 + (s - s0) * (o1 - o0) / (s1 - s0)
    else forwardAlong ((s1, o1) :: rest) s
  | [(_, o)], _ => o
  | [], _ => 0

/-- The forward conversion: stroke in counts to opening in mm (R125). -/
def forward (w : Words) (s : Nat) : Nat :=
  forwardAlong (geometryPoints w) (clampNat (Param.strokeMin w) (Param.strokeMax w) s)

/-- The inverse conversion of a clamped opening along the remaining points, rounding half up
(R126). -/
def inverseAlong : List (Nat × Nat) → Nat → Nat
  | (s0, o0) :: (s1, o1) :: rest, t =>
    if t < o1 then s0 + ((t - o0) * (s1 - s0) * 2 + (o1 - o0)) / (2 * (o1 - o0))
    else inverseAlong ((s1, o1) :: rest) t
  | [(s, _)], _ => s
  | [], _ => 0

/-- The inverse conversion: opening in mm to stroke in counts (R126). -/
def inverse (w : Words) (t : Nat) : Nat :=
  inverseAlong (geometryPoints w) (clampNat 0 (Param.openMax w) t)

/-- The gate stroke (R132). -/
def Mtc.gateStroke (m : Mtc) : Option Nat :=
  match m.left.value, m.right.value with
  | some l, some r => some ((l + r) / 2)
  | some l, none => some l
  | none, some r => some r
  | none, none => none

/-- The present opening p, absent while unknown (R133); in OUT no conversion is made (R138). -/
def State.opening (s : State) : Option Nat :=
  if s.cfs.out then none else s.mtc.gateStroke.map (forward s.cfs.working)

/-- The own position is known (R134). DEDUCED (log 48): not in OUT, where p is unknown (R138), with a channel
value present too. -/
def State.positionKnown (s : State) : Bool :=
  s.opening.isSome && !s.fmn.causes.encoderL && !s.fmn.causes.encoderR

/-- The skew, left stroke minus right stroke, while both channels have a value (8.8). -/
def Mtc.skew (m : Mtc) : Option Int :=
  match m.left.value, m.right.value with
  | some l, some r => some ((l : Int) - r)
  | _, _ => none

/-- |skew|, or 0 while either channel has no value (R151). -/
def Mtc.skewSize (m : Mtc) : Nat := (m.skew.getD 0).natAbs

/-- A channel value lies outside [STROKE_MIN - 50, STROKE_MAX + 50] (R135). -/
def outsideLimits (w : Words) (c : Channel) : Bool :=
  match c.value with
  | none => false
  | some x => decide (x + 50 < Param.strokeMin w ∨ Param.strokeMax w + 50 < x)

end Sys2Proof.Machine
end

