-- ==== Sys2Proof/Machine/Flags.lean ====
section
/-! DEFINITION. Flags: sets of fault causes (R166), the attention causes with the ATTN line (R206,
R207), and the activity counters with their flags and freeze (R200 to R204). -/

namespace Sys2Proof.Machine

/-! ## Fault causes -/

/-- The cause is in the set. -/
def CauseSet.has (c : CauseSet) : Cause → Bool
  | .encoderL => c.encoderL
  | .encoderR => c.encoderR
  | .overtravel => c.overtravel
  | .skewTrip => c.skewTrip
  | .stallL => c.stallL
  | .stallR => c.stallR
  | .duplicateBay => c.duplicateBay

/-- The set with one cause added. -/
def CauseSet.add (c : CauseSet) : Cause → CauseSet
  | .encoderL => { c with encoderL := true }
  | .encoderR => { c with encoderR := true }
  | .overtravel => { c with overtravel := true }
  | .skewTrip => { c with skewTrip := true }
  | .stallL => { c with stallL := true }
  | .stallR => { c with stallR := true }
  | .duplicateBay => { c with duplicateBay := true }

/-- The set holds no cause. -/
def CauseSet.isEmpty (c : CauseSet) : Bool := c == noCauses

/-- The set {SKEW_TRIP}. -/
def onlySkewTrip : CauseSet := noCauses.add .skewTrip

/-- A set of causes as one word, the first cause of R166 at bit 0 (R185). -/
def CauseSet.toNat (c : CauseSet) : Nat :=
  (if c.encoderL then 1 else 0) + (if c.encoderR then 2 else 0) + (if c.overtravel then 4 else 0) +
    (if c.skewTrip then 8 else 0) + (if c.stallL then 16 else 0) + (if c.stallR then 32 else 0) +
    (if c.duplicateBay then 64 else 0)

/-- The position of a cause in the list of R166. -/
def Cause.code : Cause → Nat
  | .encoderL => 0
  | .encoderR => 1
  | .overtravel => 2
  | .skewTrip => 3
  | .stallL => 4
  | .stallR => 5
  | .duplicateBay => 6

/-! ## Attention causes -/

/-- The attention causes, in the order of their bits (10.2, R206). -/
inductive AttnCause
  | fault
  | surgeChange
  | tideChange
  | orderAdopted
  | peerLapse
  | neighbourUnknown
  | stageLost
  | counterHalf
  | counterFull
  | commandDone
  deriving DecidableEq, Repr

/-- The bit of an attention cause in ATTN_CAUSE and ATTN_MASK (10.2). -/
def AttnCause.mask : AttnCause → BitVec 10
  | .fault => 0x001
  | .surgeChange => 0x002
  | .tideChange => 0x004
  | .orderAdopted => 0x008
  | .peerLapse => 0x010
  | .neighbourUnknown => 0x020
  | .stageLost => 0x040
  | .counterHalf => 0x080
  | .counterFull => 0x100
  | .commandDone => 0x200

/-- The ATTN line: at least one cause is set and unmasked (R207). -/
def attnOf (causes mask : BitVec 10) : Bool := (causes &&& ~~~mask) != 0

/-- Causes become set, and ATTN is evaluated (R206, R207). -/
def Act.setCauses (a : Act) (bits : BitVec 10) : Act :=
  { a with causes := a.causes ||| bits, attn := attnOf (a.causes ||| bits) a.mask }

/-- An attention cause becomes set (R206). -/
def setAttention (c : AttnCause) (s : State) : State :=
  s.setAct (s.act.setCauses c.mask)

/-! ## Counters -/

/-- The code of a counter's selected event, 0 for NONE (R200). -/
def CountedEvent.code : CountedEvent → Nat
  | .frameSent => 1
  | .frameReceived => 2
  | .frameDiscarded => 3
  | .txRetry => 4
  | .claimSent => 5
  | .claimGranted => 6
  | .claimDemurred => 7
  | .claimLapsed => 8
  | .verdictConsentSent => 9
  | .verdictDemurSent => 10
  | .peerLapse => 11
  | .encoderInvalid => 12
  | .stageRejected => 13
  | .strideDone => 14
  | .skewMagnitude => 15
  | .followingError => 16
  | .staggerGap => 17

/-- The selected event of an event code of 0 to 17 (R200); 0 is NONE. -/
def eventOfCode : Nat → Option CountedEvent
  | 1 => some .frameSent
  | 2 => some .frameReceived
  | 3 => some .frameDiscarded
  | 4 => some .txRetry
  | 5 => some .claimSent
  | 6 => some .claimGranted
  | 7 => some .claimDemurred
  | 8 => some .claimLapsed
  | 9 => some .verdictConsentSent
  | 10 => some .verdictDemurSent
  | 11 => some .peerLapse
  | 12 => some .encoderInvalid
  | 13 => some .stageRejected
  | 14 => some .strideDone
  | 15 => some .skewMagnitude
  | 16 => some .followingError
  | 17 => some .staggerGap
  | _ => none

/-- The increase of a counter (R203). -/
def Counter.increase (c : Counter) : Counter :=
  if c.value = 2147483647 then { c with value := 2147483648, half := true }
  else if c.value = 4294967295 then { c with value := 0, full := true }
  else { c with value := c.value + 1 }

/-- The increase brings the counter to 2^31 (R203). -/
def Counter.reachesHalf (c : Counter) : Bool := c.value == 2147483647

/-- The increase wraps the counter (R203). -/
def Counter.wraps (c : Counter) : Bool := c.value == 4294967295

/-- Some counter meets the test. -/
def Counters.any (k : Counters) (p : Counter → Bool) : Bool :=
  p k.c0 || p k.c1 || p k.c2 || p k.c3

/-- Every counter changed alike. -/
def Counters.map (k : Counters) (f : Counter → Counter) : Counters :=
  { c0 := f k.c0, c1 := f k.c1, c2 := f k.c2, c3 := f k.c3 }

/-- One event increases every counter that meets the test, all before a freeze acts; the flags'
attention causes are set, and a wrap freezes under freeze-on-full (R201, R203, R204). -/
def Act.increaseWhere (a : Act) (p : Counter → Bool) : Act :=
  if a.frozen then a
  else
    let half := a.counters.any fun c => p c && c.reachesHalf
    let full := a.counters.any fun c => p c && c.wraps
    let bits := (if half then AttnCause.counterHalf.mask else 0) |||
      (if full then AttnCause.counterFull.mask else 0)
    { a.setCauses bits with
      counters := a.counters.map fun c => if p c then c.increase else c
      frozen := full && a.freezeOnFull }

/-- A block reports a count event (R201). -/
def countEvent (e : CountedEvent) (s : State) : State :=
  s.setAct (s.act.increaseWhere fun c => c.selected == some e)

/-- The three values of one hand-over (R151, R202). -/
structure SampleValues where
  skew : Nat
  following : Nat
  gap : Nat
  deriving DecidableEq, Repr

/-- The value a counter's selected sample event has at a hand-over; none for any other event. -/
def SampleValues.of (v : SampleValues) : Option CountedEvent → Option Nat
  | some .skewMagnitude => some v.skew
  | some .followingError => some v.following
  | some .staggerGap => some v.gap
  | _ => none

/-- The condition of a counter at a hand-over (R202). -/
def Counter.condition (c : Counter) (x : Nat) : Bool :=
  if c.invert then decide (x < c.threshold) else decide (c.threshold ≤ x)

/-- The counter selects a sample event and is counted at this hand-over (R202). -/
def Counter.countedAt (c : Counter) (v : SampleValues) : Bool :=
  match v.of c.selected with
  | none => false
  | some x => c.condition x && (!c.edge || !c.last)

/-- The last condition after a hand-over (R202); frozen counters keep their history too. -/
def Counter.remember (c : Counter) (v : SampleValues) : Counter :=
  match v.of c.selected with
  | none => c
  | some x => { c with last := c.condition x }

/-- ACT takes one hand-over (R202): all counters together. -/
def handOverSamples (v : SampleValues) (s : State) : State :=
  let a := s.act.increaseWhere fun c => c.countedAt v
  s.setAct { a with counters := a.counters.map fun c => c.remember v }

end Sys2Proof.Machine
end

