-- ==== Sys2Proof/Machine/Operands.lean ====
section
/-! DEFINITION. What commands bring from outside and how it is read: encoder answers and their
judgement (R128 to R130), the modular comparisons (00_scope.md, Conventions), and the frames of the
bay line with their layout and checks (R1 to R3). -/

namespace Sys2Proof.Machine

/-! ## Encoder reads -/

/-- The number of 1 bits among the 16 value bits and the check bit is even (7.4). -/
def evenParity (v : BitVec 16) (check : Bool) : Bool :=
  !((List.range 16).foldl (fun a i => a ^^ v.getLsbD i) check)

/-- The value of a read that R128 judges VALID for a channel that holds `held`; none for INVALID. -/
def judgeRead (held : Option Nat) : EncoderRead → Option Nat
  | .noAnswer => none
  | .answer v c =>
    let jump := match held with
      | none => false
      | some h => decide (200 < ((v.toNat : Int) - h).natAbs)
    if evenParity v c && decide (v.toNat ≤ 60000) && !jump then some v.toNat else none

/-- The channel record after a read (R129, R130). -/
def Channel.take (c : Channel) (r : EncoderRead) : Channel :=
  match judgeRead c.value r with
  | some v => { value := some v, invalidRun := 0, lastRead := .valid }
  | none => { c with invalidRun := min 65535 (c.invalidRun + 1), lastRead := .invalid }

/-- The read has just brought the channel's invalid run to 3 (R130). -/
def Channel.reachesThree (before after : Channel) : Bool :=
  before.invalidRun == 2 && after.invalidRun == 3

/-! ## Modular comparisons -/

/-- Weir order stamp a is newer than b (R67). -/
def stampNewer (a b : Nat) : Bool :=
  let d := (a + 4096 - b) % 4096
  decide (1 ≤ d ∧ d ≤ 2047)

/-- Surge epoch a is newer than b (R118). -/
def epochNewer (a b : Nat) : Bool :=
  let d := (a + 16 - b) % 16
  decide (1 ≤ d ∧ d ≤ 7)

/-! ## Codes (R2) -/

def Verdict.code : Verdict → Nat
  | .consent => 0
  | .demurStagger => 1
  | .demurSurge => 2
  | .demurUnsure => 3

def Verdict.ofCode : Nat → Option Verdict
  | 0 => some .consent
  | 1 => some .demurStagger
  | 2 => some .demurSurge
  | 3 => some .demurUnsure
  | _ => none

/-- The service state's code; OUT is 8 in SUMMARY_A and is never sent (R2, 10.2). -/
def Service.code : Service → Nat
  | .starting => 0
  | .idle => 1
  | .sharing => 2
  | .tide => 3
  | .localOrder => 4
  | .held => 5
  | .faulted => 6
  | .surge => 7
  | .out => 8

def Service.ofCode : Nat → Service
  | 0 => .starting
  | 1 => .idle
  | 2 => .sharing
  | 3 => .tide
  | 4 => .localOrder
  | 5 => .held
  | 6 => .faulted
  | 7 => .surge
  | _ => .out

def ClaimOutcome.code : ClaimOutcome → Nat
  | .granted => 0
  | .demurred => 1
  | .lapsed => 2
  | .abandoned => 3

def ClaimOutcome.ofCode : Nat → ClaimOutcome
  | 0 => .granted
  | 1 => .demurred
  | 2 => .lapsed
  | _ => .abandoned

def Tidal.code : Tidal → Nat
  | .unknown => 0
  | .ebb => 1
  | .flood => 2

def Tidal.ofCode : Nat → Option Tidal
  | 0 => some .unknown
  | 1 => some .ebb
  | 2 => some .flood
  | _ => none

/-- The verdict is one of the three demurs. -/
def Verdict.isDemur : Verdict → Bool
  | .consent => false
  | .demurStagger => true
  | .demurSurge => true
  | .demurUnsure => true

/-! ## Frame layout (R1, R2) -/

/-- A number as one data byte. -/
def byte (n : Nat) : Byte := BitVec.ofNat 8 n

/-- A number as two data bytes, most significant first (R2). -/
def bytes2 (n : Nat) : List Byte := [byte (n / 256), byte n]

/-- A number as three data bytes, most significant first (R2). -/
def bytes3 (n : Nat) : List Byte := [byte (n / 65536), byte (n / 256), byte n]

/-- Two data bytes as an unsigned number. -/
def nat2 (a b : Byte) : Nat := a.toNat * 256 + b.toNat

/-- Three data bytes as an unsigned number. -/
def nat3 (a b c : Byte) : Nat := a.toNat * 65536 + b.toNat * 256 + c.toNat

/-- A bit as 0 or 1. -/
def bit (b : Bool) : Nat := if b then 1 else 0

/-- A stage as its two's complement number; -32768 marks "no valid stage" (R2). -/
def stageCode (x : Option Int) : Nat := (BitVec.ofInt 16 (x.getD (-32768))).toNat

/-- A sent stage: an absent one, or one in range; none when R3 discards it. -/
def stageOfCode (n : Nat) : Option (Option Int) :=
  let v := (BitVec.ofNat 16 n).toInt
  if v = -32768 then some none
  else if -10000 ≤ v ∧ v ≤ 20000 then some (some v) else none

/-- The kind code of a frame (R1). -/
def Frame.kind : Frame → Nat
  | .surge _ => 1
  | .verdict _ => 2
  | .claim _ => 3
  | .order _ => 4
  | .statusA _ => 5
  | .statusB _ => 6

/-- The data bytes of a frame (R2). -/
def Frame.payload : Frame → List Byte
  | .surge e => [byte (e % 16)]
  | .verdict c => [byte c.claimant, byte c.number, byte c.verdict.code]
  | .claim c => byte c.number :: (bytes2 c.start ++ bytes2 c.stop)
  | .order c => bytes2 (c.stamp % 4096) ++ (byte (bit c.isRepeat) :: bytes3 c.aggregate)
  | .statusA c =>
    bytes2 c.opening ++ bytes2 c.committed.lo ++ bytes2 c.committed.hi ++
      [byte c.number,
       byte (c.service.code * 32 + c.outcome.code * 8 + bit c.fresh * 4 + bit c.moving * 2 +
         bit c.degraded)]
  | .statusB c =>
    bytes2 (stageCode c.up) ++ bytes2 (stageCode c.down) ++
      [byte c.weight, byte (c.tidal.code * 64 + c.epoch % 16)]

/-- A frame of bay `bay` as it goes onto the line: identifier 64 × kind code + bay (R1). -/
def encodeFrame (bay : Nat) (f : Frame) : RawFrame :=
  { id := BitVec.ofNat 11 (64 * f.kind + bay), data := f.payload }

/-- The kind code of an identifier (R1). -/
def rawKind (f : RawFrame) : Nat := f.id.toNat / 64

/-- The sender bay of an identifier (R1). -/
def rawSender (f : RawFrame) : Nat := f.id.toNat % 64

/-- Checks 3 and 4 of R3 on the data bytes of a frame of a kind, but for the claimant bay of a
VERDICT: the length of the kind, and every field within its values. -/
def parsePayload : Nat → List Byte → Option Frame
  | 1, [a] => some (.surge (a.toNat % 16))
  | 2, [a, b, c] =>
    (Verdict.ofCode c.toNat).map fun v =>
      .verdict { claimant := a.toNat, number := b.toNat, verdict := v }
  | 3, [n, s1, s0, e1, e0] =>
    if nat2 s1 s0 ≤ 15000 ∧ nat2 e1 e0 ≤ 15000 then
      some (.claim { number := n.toNat, start := nat2 s1 s0, stop := nat2 e1 e0 })
    else none
  | 4, [t1, t0, r, a2, a1, a0] =>
    if r.toNat ≤ 1 ∧ nat3 a2 a1 a0 ≤ 480000 then
      some (.order { stamp := nat2 t1 t0 % 4096, isRepeat := r.toNat == 1,
                     aggregate := nat3 a2 a1 a0 })
    else none
  | 5, [p1, p0, l1, l0, h1, h0, n, x] =>
    if nat2 p1 p0 ≤ 15000 ∧ nat2 h1 h0 ≤ 15000 ∧ nat2 l1 l0 ≤ nat2 h1 h0 then
      some (.statusA
        { opening := nat2 p1 p0, committed := { lo := nat2 l1 l0, hi := nat2 h1 h0 },
          number := n.toNat, service := Service.ofCode (x.toNat / 32),
          outcome := ClaimOutcome.ofCode (x.toNat / 8 % 4), fresh := x.getLsbD 2,
          moving := x.getLsbD 1, degraded := x.getLsbD 0 })
    else none
  | 6, [u1, u0, d1, d0, w, x] =>
    match stageOfCode (nat2 u1 u0), stageOfCode (nat2 d1 d0), Tidal.ofCode (x.toNat / 64) with
    | some up, some down, some tidal =>
      if 1 ≤ w.toNat ∧ w.toNat ≤ 100 then
        some (.statusB { up := up, down := down, weight := w.toNat, tidal := tidal,
                         epoch := x.toNat % 16 })
      else none
    | _, _, _ => none
  | _, _ => none

/-- The claimant bay of a VERDICT lies within the bays of the weir (R3, check 4). -/
def claimantInRange (first last : Nat) : Frame → Bool
  | .verdict c => decide (first ≤ c.claimant ∧ c.claimant ≤ last)
  | .surge _ => true
  | .claim _ => true
  | .order _ => true
  | .statusA _ => true
  | .statusB _ => true

/-- Check 1 of R3: a kind code of 1 to 6 and a sender bay of the weir. -/
def kindAndBayOk (first last : Nat) (f : RawFrame) : Bool :=
  decide (1 ≤ rawKind f ∧ rawKind f ≤ 6 ∧ first ≤ rawSender f ∧ rawSender f ≤ last)

/-- Checks 3 and 4 of R3: the frame's content, if it is valid. -/
def parseFrame (first last : Nat) (f : RawFrame) : Option Frame :=
  (parsePayload (rawKind f) f.data).filter (claimantInRange first last)

/-- The slot class of a frame (R7). -/
def Frame.cls : Frame → FrameClass
  | .surge _ => .surge
  | .verdict c => .verdict c.claimant
  | .claim _ => .claim
  | .order _ => .order
  | .statusA _ => .statusA
  | .statusB _ => .statusB

end Sys2Proof.Machine
end

