-- ==== Sys2Proof/Machine/Ops.lean ====
section
/-! DEFINITION. The shared operations below the blocks' own chapters: look-ups in the peer table,
requests to the transmit queue (R7, R10, R12, R17), the committed range (R38), the window (R39), and
the own claim's tests, making and resolution (R40 to R42, R50, R51). -/

namespace Sys2Proof.Machine

/-! ## Look-ups -/

/-- The own bay number (R1). -/
def State.own (s : State) : Nat := Param.ownBay s.cfs.working

/-- The entry of a bay, if the table has one (R19). -/
def State.entry (s : State) (b : Nat) : Option Entry := s.ptb.entries.find? fun e => e.bay == b

/-- A change of one bay's entry. -/
def State.updateEntry (s : State) (b : Nat) (f : Entry → Entry) : State :=
  s.setPtb { s.ptb with entries := s.ptb.entries.map fun e => if e.bay = b then f e else e }

/-- Bay b is a neighbour: its number differs from the own one by one and lies inside BAY_FIRST to
BAY_LAST (00_scope.md, Terms). In OUT there is none (R37). -/
def State.isNeighbour (s : State) (b : Nat) : Bool :=
  !s.cfs.out && (b + 1 == s.own || b == s.own + 1) &&
    decide (s.firstBay ≤ b ∧ b ≤ s.lastBay)

/-- The neighbour entries (R19). -/
def State.neighbours (s : State) : List Entry :=
  s.ptb.entries.filter fun e => s.isNeighbour e.bay

/-- Some neighbour is UNKNOWN: no listen period is running and its entry has no bound (R28). -/
def State.anyUnknown (s : State) : Bool :=
  s.ptb.listen.isNone && s.neighbours.any fun e => e.bound.isNone

/-- A fault is latched (R166). -/
def State.faultLatched (s : State) : Bool := !s.fmn.causes.isEmpty

/-- The surge epoch is odd: a surge is raised (6.5). -/
def State.epochOdd (s : State) : Bool := s.stm.epoch % 2 == 1

/-- The station is in commissioning (R191). -/
def State.commissioning (s : State) : Bool := s.cfs.image.isSome

/-- MTC is STOPPED or HOLDING. -/
def Motion.atRest : Motion → Bool
  | .stopped => true
  | .holding => true
  | .priming => false
  | .running => false
  | .stopping => false
  | .settling => false
  | .faultStop => false
  | .trim => false

/-- The own OPEN_MAX. -/
def State.openMax (s : State) : Nat := Param.openMax s.cfs.working

/-! ## Requests to the transmit queue -/

/-- Requests to queue a frame are taken in ON and REJOINING; in OFF and in OUT they are dropped (R17,
R18). -/
def State.lineAccepts (s : State) : Bool := !s.cfs.out && s.lif.line != .off

/-- The mark of R10 on an attempt whose own slot changes. -/
def touch (c : FrameClass) (a : Option Attempt) : Option Attempt :=
  a.map fun x => if x.frame.cls = c then { x with touched := true } else x

/-- STM asks LIF to queue a SURGE frame (R7, R112). -/
def queueSurge (epoch : Nat) (s : State) : State :=
  s.setLif (if s.lineAccepts then
    { s.lif with surgeSlot := some epoch, attempt := touch .surge s.lif.attempt } else s.lif)

/-- The VERDICT slots after a request: a replacement keeps its slot's place (R7, R8). -/
def putVerdict (v : VerdictContent) (l : List VerdictContent) : List VerdictContent :=
  if l.any fun x => x.claimant == v.claimant then
    l.map fun x => if x.claimant = v.claimant then v else x
  else l ++ [v]

/-- CLU asks LIF to queue a VERDICT frame (R7, R61); a VERDICT for a bay that is not a neighbour is
not queued (1.4). -/
def queueVerdict (v : VerdictContent) (s : State) : State :=
  s.setLif (if s.lineAccepts && s.isNeighbour v.claimant then
    { s.lif with verdictSlots := putVerdict v s.lif.verdictSlots,
                 attempt := touch (.verdict v.claimant) s.lif.attempt } else s.lif)

/-- CLU asks LIF to queue a CLAIM frame (R7, R42). -/
def queueClaim (c : ClaimContent) (s : State) : State :=
  s.setLif (if s.lineAccepts then
    { s.lif with claimSlot := some c, attempt := touch .claim s.lif.attempt } else s.lif)

/-- CLU asks LIF to withdraw its CLAIM (R10); a withdrawal that finds the slot empty has no effect. -/
def withdrawClaim (s : State) : State :=
  s.setLif (if s.lif.claimSlot.isSome then
    { s.lif with claimSlot := none, attempt := touch .claim s.lif.attempt } else s.lif)

/-- SHU asks LIF to queue an ORDER frame (R7, R14, R72). -/
def queueOrder (c : OrderContent) (s : State) : State :=
  s.setLif (if s.lineAccepts then
    { s.lif with orderSlot := some c, attempt := touch .order s.lif.attempt } else s.lif)

/-- A STATUS-A becomes due (R12). -/
def dueStatusA (s : State) : State :=
  s.setLif (if s.lineAccepts then
    { s.lif with statusASlot := true, attempt := touch .statusA s.lif.attempt } else s.lif)

/-- A STATUS-B becomes due (R13). -/
def dueStatusB (s : State) : State :=
  s.setLif (if s.lineAccepts then
    { s.lif with statusBSlot := true, attempt := touch .statusB s.lif.attempt } else s.lif)

/-- The STATUS-A period of a motion state (R12). -/
def statusAPeriodOf (m : Motion) : Nat := if m.atRest then 1000 else 250

/-! ## Committed range and window -/

/-- The range of the own claim, whichever way it moves (3.1). -/
def Clu.span (c : Clu) : Span :=
  let a := c.start.getD 0
  let b := c.stop.getD 0
  { lo := min a b, hi := max a b }

/-- The range [p, p]; [0, OPEN_MAX] while p is unknown (R38, R133). -/
def State.pointRange (s : State) : Span :=
  match s.opening with
  | some p => { lo := p, hi := p }
  | none => { lo := 0, hi := s.openMax }

/-- The range [0, p] of a closure; [0, OPEN_MAX] while p is unknown (R38, R133). -/
def State.closureRange (s : State) : Span :=
  { lo := 0, hi := s.opening.getD s.openMax }

/-- The committed range: the first row of R38 that applies. -/
def State.committed (s : State) : Span :=
  if s.faultLatched then s.pointRange
  else if s.epochOdd && s.clu.state = .granted then { lo := 0, hi := s.clu.span.hi }
  else if s.clu.surgeClosure then s.closureRange
  else if s.clu.state = .granted || s.clu.state = .pending then s.clu.span
  else s.pointRange

/-- gap(X, C): the greatest distance between a point of one range and a point of the other (3.1). -/
def gap (x c : Span) : Nat := max (x.hi - c.lo) (c.hi - x.lo)

/-- The window of R39, from the neighbours' bounds and the own OPEN_MAX; none while it is empty. A
neighbour with no bound is left out of both edges. -/
def State.window (s : State) : Option Span :=
  let bounds := s.neighbours.filterMap fun e => e.bound
  let stagger := Param.stagger s.cfs.working
  let lower := bounds.foldl (fun a b => max a (b.hi - stagger)) 0
  let upper := bounds.foldl (fun a b => min a (b.lo + stagger)) s.openMax
  if lower ≤ upper then some { lo := lower, hi := upper } else none

/-- The stagger-blocked bit of SUMMARY_B; clear in OUT (R39). -/
def State.staggerBlocked (s : State) : Bool := !s.cfs.out && s.window.isNone

/-! ## Slots -/

/-- A staged slot is served through claims (R85). -/
def Slot.staged : Slot → Bool
  | .surge => false
  | .tidal => true
  | .localOrder => true
  | .weir => true
  | .rest => false

/-- The target of a slot, while it has one (R85, R94). -/
def Osl.target (o : Osl) : Slot → Option Nat
  | .surge => if o.surge then some 0 else none
  | .tidal => if o.tidal then some 0 else none
  | .localOrder => o.localTarget
  | .weir => o.weirTarget
  | .rest => o.restTarget

/-- The target of the selected slot. -/
def State.target (s : State) : Option Nat := s.osl.target s.osl.selected

/-! ## The own claim -/

/-- The stride end: the selected target clamped into the window (R39). -/
def State.strideEnd (s : State) : Option Nat :=
  match s.window, s.target with
  | some w, some u => some (clampNat w.lo w.hi u)
  | _, _ => none

/-- Row by row, the conditions of R41 but for the claim being STILL. -/
def State.claimConditions (s : State) : Bool :=
  !s.cfs.out && !s.commissioning &&
  s.ptb.listen.isNone &&
  s.clu.freshTaken &&
  s.mtc.motion.atRest &&
  s.clu.backoff.isNone &&
  s.lif.line == .on &&
  !s.epochOdd &&
  !s.faultLatched && !s.fmn.supplyLow && !s.fmn.hold &&
  s.positionKnown &&
  !s.anyUnknown &&
  s.osl.selected.staged &&
  match s.strideEnd, s.opening with
  | some t, some p => decide (Param.tol s.cfs.working < ((t : Int) - p).natAbs)
  | _, _ => false

/-- CLU makes a claim from p to t (R42). -/
def makeClaim (p t : Nat) (s : State) : State :=
  let n := (s.clu.number + 1) % 256
  queueClaim { number := n, start := p, stop := t }
    (s.setClu { s.clu with
      number := n, start := some p, stop := some t, below := none, above := none,
      required := none, state := .asking, asking := some 300 })

/-- The test of the claim conditions at an event of R40; it does nothing while the own claim is not
STILL, and nothing in OUT (R65). -/
def testClaim (s : State) : State :=
  if s.cfs.out || s.clu.state != .still then s
  else
    let s1 := s.setClu { s.clu with lastTest := s.opening }
    if s.claimConditions then
      match s.strideEnd, s.opening with
      | some t, some p => makeClaim p t s1
      | _, _ => s1
    else s1

/-- Row 3 of R38 ends at the first moment at which the epoch is even and MTC, with no granted claim,
is STOPPED or HOLDING. -/
def endClosureRow (s : State) : State :=
  s.setClu { s.clu with
    surgeClosure := s.clu.surgeClosure &&
      !(!s.epochOdd && s.mtc.motion.atRest && s.clu.state != .granted) }

/-- The effects of every resolution of a claim (R50). -/
def resolveClaim (o : ClaimOutcome) (s : State) : State :=
  dueStatusA (endClosureRow (s.setClu { s.clu with
    state := .still, asking := none, window := none,
    lastNumber := s.clu.number, lastOutcome := o,
    fresh := s.clu.fresh && !s.clu.freshTaken }))

/-- The backoff of 200 + 25 × own bay number ms starts, or begins again (R51). -/
def startBackoff (s : State) : State :=
  s.setClu { s.clu with backoff := some (200 + 25 * s.own) }

/-- CLU ends its claim at once as ABANDONED, with no backoff: a fault (R56), HOLD, SUPPLY_LOW or the
entry to commissioning (R58). -/
def abandonClaim (s : State) : State :=
  match s.clu.state with
  | .still => s
  | .asking => resolveClaim .abandoned (withdrawClaim s)
  | .pending => resolveClaim .abandoned s
  | .granted => resolveClaim .abandoned s

end Sys2Proof.Machine
end

