-- ==== Sys2Proof/Machine/Motion.lean ====
section
/-! DEFINITION. The motion controller's movements and stops (08_hoist_motion.md, 8.2 to 8.6, 8.10, 8.11):
outputs in each state (R139), starting a stride (R140), the closure (R143, R144), the profile (R145),
stops (R146, R147, R156, R157), settling and holding (R148, R149), and the meanings of MTC's timer
expiries. -/

namespace Sys2Proof.Machine

/-! ## States and outputs -/

/-- The pump output and the holding-valve output (true: released) of a state and phase (R139). -/
def outputsOf : Motion → Option Phase → Bool × Bool
  | .stopped, _ => (false, false)
  | .priming, some .release => (true, true)
  | .priming, _ => (true, false)
  | .running, _ => (true, true)
  | .stopping, _ => (true, true)
  | .settling, _ => (true, true)
  | .holding, _ => (true, false)
  | .faultStop, _ => (false, false)
  | .trim, some .release => (true, true)
  | .trim, some .move => (true, true)
  | .trim, _ => (true, false)

/-- The states and phases in which some hoist's position loop runs (R139). -/
def loopsRun : Motion → Option Phase → Bool
  | .running, _ => true
  | .stopping, _ => true
  | .settling, _ => true
  | .trim, some .move => true
  | _, _ => false

/-- The states in which both position loops run (R139). -/
def Motion.bothLoops : Motion → Bool
  | .running => true
  | .stopping => true
  | .settling => true
  | .stopped => false
  | .priming => false
  | .holding => false
  | .faultStop => false
  | .trim => false

/-- MTC's record on entry to a state and phase: the outputs take the values of R139, a drive that R139
gives as 0 becomes 0, and a skew hold ends when RUNNING, STOPPING and SETTLING are left (R153). -/
def Mtc.enter (m : Mtc) (st : Motion) (ph : Option Phase) : Mtc :=
  { m with
    motion := st, phase := ph,
    pump := (outputsOf st ph).1, valve := (outputsOf st ph).2,
    driveL := if loopsRun st ph then m.driveL else 0,
    driveR := if loopsRun st ph then m.driveR else 0,
    skewHold := m.skewHold && st.bothLoops }

/-- When the motion state leaves STOPPED or HOLDING with 250 ms or more passed since the last own
STATUS-A, a STATUS-A is due at that change (R12). -/
def statusOnLeavingRest (before : Motion) (s : State) : State :=
  if before.atRest && !s.mtc.motion.atRest &&
      decide (250 ≤ s.lif.sinceStatusA.getD 0) then dueStatusA s else s

/-- MTC's record becomes m; LIF evaluates the STATUS-A period against the motion state (R12). -/
def setMotion (m : Mtc) (s : State) : State :=
  statusOnLeavingRest s.mtc.motion (s.setMtc m)

/-! ## Profile arithmetic -/

/-- v_max of R145, step 1, in q8 per sample. -/
def vMax (w : Words) (sp : Speed) : Nat := Param.speed w sp * 256 / 300

/-- a of R145, step 2. -/
def accel (w : Words) (sp : Speed) : Nat := max 1 (vMax w sp / Param.ramp w)

/-- The braking point: the setpoint plus floor(v × v / (2 × a)) in the direction of travel, and the old
end where it lies beyond that (R146). -/
def Mtc.brakingPoint (w : Words) (m : Mtc) : Nat :=
  let sp := m.setpoint.getD 0
  let goal := m.goal.getD sp
  let b := m.v * m.v / (2 * accel w (m.speed.getD .normal))
  match m.direction with
  | some .lower => max (sp - b) goal
  | some .raise => min (sp + b) goal
  | none => sp

/-- 256 × s_0, the end of a closure (R143). -/
def closedQ8 (w : Words) : Nat := 256 * Param.strokeMin w

/-! ## Stops without a ramp -/

/-- MTC's record on entry to FAULT_STOP (R156): outputs off, every timer stopped, no movement, no stride
limits, no stop kind, no skew hold, both stall runs 0, no trim. The closure request is kept. The
setpoint becomes absent, as 8.1 has it while no movement is served (log 10); v, end, direction, speed
and the settle count are left as they are (log 11). -/
def Mtc.faultStop (m : Mtc) : Mtc :=
  { m.enter .faultStop none with
    setpoint := none, movement := none, limits := none, stopKind := none, skewHold := false,
    stallL := { run := 0, ref := none }, stallR := { run := 0, ref := none }, trim := none,
    pumpSettle := none, release := none, settleTimeout := none, runOn := none,
    trimLimit := none }

/-- MTC enters FAULT_STOP at once, from any motion state (R156, R157). -/
def enterFaultStop (s : State) : State := setMotion s.mtc.faultStop s

/-! ## The closure -/

/-- The conditions under which a waiting closure begins (R143), with the gate stroke. -/
def State.closureMayBegin (s : State) : Option Nat :=
  if s.mtc.closureRequest && s.mtc.movement.isNone && s.mtc.motion.atRest && !s.faultLatched &&
      !s.fmn.hold && !s.fmn.supplyLow && !s.commissioning then s.mtc.gateStroke
  else none

/-- MTC's record for a start from rest (R140, R143): from HOLDING phase RELEASE at once, from STOPPED a
pump settle first. -/
def Mtc.startSequence (w : Words) (m : Mtc) : Mtc :=
  if m.motion = .holding then
    { m.enter .priming (some .release) with runOn := none, release := some 200 }
  else { m.enter .priming (some .settle) with pumpSettle := some (Param.pumpSettle w) }

/-- MTC makes its closure test, and begins the closure toward s_0 where the test is met; a gate at or
below s_0 is already closed and only clears the request (R143). -/
def closureTest (s : State) : State :=
  match s.closureMayBegin with
  | none => s
  | some g =>
    let w := s.cfs.working
    if g ≤ Param.strokeMin w then s.setMtc { s.mtc with closureRequest := false }
    else
      setMotion (Mtc.startSequence w { s.mtc with
        movement := some .closure, setpoint := some (256 * g), goal := some (closedQ8 w),
        speed := some .fast, direction := some .lower, v := 0, skewHold := false,
        limits := none, stopKind := none }) s

/-- MTC enters STOPPED: the closure test is made (R143), then CLU tests its claim conditions (R40,
R158). -/
def enterStopped (s : State) : State :=
  testClaim (closureTest (endClosureRow (setMotion { s.mtc.enter .stopped none with
    trim := none, pumpSettle := none, release := none, settleTimeout := none, runOn := none,
    trimLimit := none } s)))

/-! ## Settling and holding -/

/-- The closure that an abandoning stop turns into, from the present setpoint and without a start
sequence (R142 row 3, R147 step 2). -/
def Mtc.closureFromSetpoint (w : Words) (m : Mtc) : Mtc :=
  { m.enter .running none with
    movement := some .closure, goal := some (closedQ8 w), speed := some .fast,
    direction := some .lower, v := 0, settleTimeout := none, release := none }

/-- MTC reports an abandoning stop: CLU resolves the claim ABANDONED, the movement ends, and a wanted
closure begins at once (R147). -/
def reportAbandon (s : State) : State :=
  let s1 := if s.clu.state = .granted then resolveClaim .abandoned s else s
  let m := { s1.mtc with movement := none, limits := none, stopKind := none }
  let w := s.cfs.working
  if m.closureRequest && !s.faultLatched then
    if m.setpoint.getD 0 ≤ closedQ8 w then s1.setMtc { m with closureRequest := false }
    else setMotion (m.closureFromSetpoint w) s1
  else s1.setMtc m

/-- Entry to SETTLING: settle count 0, settle timeout 5000 ms, v = 0; with stop kind ABANDON the stop is
reported (R145, R147, R148). -/
def enterSettling (s : State) : State :=
  let s1 := setMotion { s.mtc.enter .settling none with
    v := 0, settleCount := 0, settleTimeout := some 5000, release := none } s
  if s.mtc.stopKind = some .abandon then reportAbandon s1 else s1

/-- RUN_ON expires in HOLDING: the pump goes off and MTC enters STOPPED (R149). -/
def runOnExpiry (s : State) : State :=
  if s.mtc.motion = .holding && s.mtc.runOn.isSome then enterStopped s else s

/-- What HOLDING does with the movement that ended (R148): a stride ends, a closure that arrived at s_0
clears the request. -/
def endMovement (s : State) : State :=
  let m := { s.mtc with movement := none, limits := none, stopKind := none }
  match s.mtc.movement with
  | none => s.setMtc m
  | some .closure =>
    s.setMtc { m with closureRequest := m.closureRequest &&
      m.setpoint != some (closedQ8 s.cfs.working) }
  | some .stride =>
    let s1 := s.setMtc m
    let s2 := if s1.clu.state = .granted then resolveClaim .granted s1 else s1
    countEvent .strideDone (dueStatusA s2)

/-- Entry to HOLDING (R148): valve engaged, drives 0, RUN_ON started; the movement that ended is acted
on; then the events of R143 and R40. A RUN_ON of 0 expires at this entry (R149). -/
def enterHolding (s : State) : State :=
  let s1 := setMotion { s.mtc.enter .holding none with
    settleTimeout := none, release := none,
    runOn := some (Param.runOn s.cfs.working) } s
  let s2 := testClaim (closureTest (endClosureRow (endMovement s1)))
  if Param.runOn s.cfs.working = 0 then runOnExpiry s2 else s2

/-! ## Stops with a ramp -/

/-- CLU hands MTC a new end under R53; it is taken in PRIMING and RUNNING (R146). -/
def newGoal (q : Nat) (s : State) : State :=
  if s.mtc.motion = .running || s.mtc.motion = .priming then
    s.setMtc { s.mtc with goal := some q }
  else s

/-- A target stop (R146). A stop that is already asked for as ABANDON stays so (log 12). -/
def targetStop (s : State) : State :=
  let m := s.mtc
  let kind := if m.stopKind = some .abandon then some .abandon else some .target
  match m.motion with
  | .running =>
    setMotion { m.enter .stopping none with
      goal := some (m.brakingPoint s.cfs.working), stopKind := kind } s
  | .priming => s.setMtc { m with goal := m.setpoint, stopKind := kind }
  | .stopped => s
  | .stopping => s
  | .settling => s
  | .holding => s
  | .faultStop => s
  | .trim => s

/-- An abandoning stop (R147). -/
def abandonStop (s : State) : State :=
  let m := s.mtc
  match m.motion with
  | .running =>
    setMotion { m.enter .stopping none with
      goal := some (m.brakingPoint s.cfs.working), stopKind := some .abandon } s
  | .stopping => s.setMtc { m with stopKind := some .abandon }
  | .priming => s.setMtc { m with goal := m.setpoint, stopKind := some .abandon }
  | .settling => reportAbandon s
  | .stopped => s
  | .holding => s
  | .faultStop => s
  | .trim => s

/-! ## The stride -/

/-- CLU hands MTC a stride: stride limits lo to hi and the stride end stroke e (R48, R140). -/
def handStride (limits : Span) (e : Nat) (s : State) : State :=
  let g := s.mtc.gateStroke.getD 0
  let sp := clampNat (256 * limits.lo) (256 * limits.hi) (256 * g)
  setMotion (Mtc.startSequence s.cfs.working { s.mtc with
    movement := some .stride, stopKind := none, skewHold := false, limits := some limits,
    setpoint := some sp, goal := some (256 * e),
    direction := some (if sp < 256 * e then .raise else .lower), speed := some .normal,
    v := 0 }) s

/-! ## Surge selected and deselected -/

/-- OSL reports that SURGE has become selected (R99, R143). -/
def surgeSelected (s : State) : State :=
  closureTest (s.setMtc { s.mtc with closureRequest := true })

/-- OSL reports that SURGE has stopped being selected (R99, R144). -/
def surgeDeselected (s : State) : State :=
  let m := { s.mtc with closureRequest := false }
  if m.movement = some .closure then
    match m.motion with
    | .priming => s.setMtc { m with movement := none }
    | .running => enterSettling (s.setMtc { m with goal := m.setpoint, v := 0 })
    | .stopped => s.setMtc m
    | .stopping => s.setMtc m
    | .settling => s.setMtc m
    | .holding => s.setMtc m
    | .faultStop => s.setMtc m
    | .trim => s.setMtc m
  else s.setMtc m

/-! ## Timer expiries -/

/-- PUMP_SETTLE expires in PRIMING or TRIM, phase SETTLE: the holding valve is released and the release
timer of 200 ms starts (R141, R160). -/
def execPumpSettle (s : State) : Host.Outcome State Fault Refusal :=
  let m := s.mtc
  .next (if m.pumpSettle.isSome && (m.motion = .priming || m.motion = .trim) then
    s.setMtc { m.enter m.motion (some .release) with
      pumpSettle := none, release := some 200 }
  else s)

/-- The end of PRIMING at the release expiry: the first row of R142 that applies. -/
def leavePriming (s : State) : State :=
  let m := s.mtc
  let w := s.cfs.working
  if m.stopKind.isSome then
    enterSettling (s.setMtc { m with goal := m.setpoint })
  else if m.movement.isSome then
    setMotion { m.enter .running none with v := 0, release := none } s
  else if m.closureRequest then
    if m.setpoint.getD 0 ≤ closedQ8 w then
      enterHolding (s.setMtc { m with closureRequest := false })
    else setMotion (m.closureFromSetpoint w) s
  else enterHolding s

/-- The release timer expires: PRIMING ends (R142), or the trim phase MOVE begins with its setpoint at
256 × the start stroke (R160). -/
def execReleaseTimer (s : State) : Host.Outcome State Fault Refusal :=
  let m := s.mtc
  .next (if m.release.isSome then
    match m.motion with
    | .priming => leavePriming (s.setMtc { m with release := none })
    | .trim =>
      s.setMtc { m.enter .trim (some .move) with
        release := none
        trim := m.trim.map fun t => { t with setpoint := some (256 * (t.start : Int)) } }
    | .stopped => s
    | .running => s
    | .stopping => s
    | .settling => s
    | .holding => s
    | .faultStop => s
  else s)

/-- The settle timeout expires: SETTLING ends in HOLDING (R148). -/
def execSettleTimeout (s : State) : Host.Outcome State Fault Refusal :=
  .next (if s.mtc.motion = .settling && s.mtc.settleTimeout.isSome then enterHolding s else s)

/-- RUN_ON expires (R149). -/
def execRunOn (s : State) : Host.Outcome State Fault Refusal := .next (runOnExpiry s)

/-- A trim ends by its own rows of R161: FAULT_STOP again, with the causes still latched. -/
def endTrim (s : State) : State := enterFaultStop s

/-- 5000 ms after the trim setpoint reached its limit, the trim ends (R161). -/
def execTrimLimitTimeout (s : State) : Host.Outcome State Fault Refusal :=
  .next (if s.mtc.motion = .trim && s.mtc.trimLimit.isSome then endTrim s else s)

end Sys2Proof.Machine
end

