-- ==== Sys2Proof/Machine/Selection.lean ====
section
/-! DEFINITION. The order selector (05_order_selection.md): the choice of a slot (R91, R92), the service
state (R95, R96), what a selection hands on to CLU and MTC (R97 to R99), and CLU's mid-stride rules
(R53, R54). -/

namespace Sys2Proof.Machine

/-- The level of slots 1 to 3 (R85); SURGE has 7 and REST stands below every level. -/
def slotLevel (w : Words) : Slot → Nat
  | .surge => 7
  | .tidal => Param.tidalLevel w
  | .localOrder => Param.localLevel w
  | .weir => Param.weirLevel w
  | .rest => 0

/-- The words whose levels OSL uses: the working copy, and in OUT, where no block uses the working copy,
the defaults of R85 (R190). -/
def State.levels (s : State) : Words := if s.cfs.out then defaultWords else s.cfs.working

/-- A slot among 1 to 3 is pending with a level above the floor (R91, R92). -/
def Osl.eligible (o : Osl) (w : Words) (k : Slot) : Bool :=
  (o.target k).isSome && decide (o.floor < slotLevel w k)

/-- The choice of R92. -/
def Osl.choose (o : Osl) (w : Words) : Slot :=
  let best (a b : Slot) : Slot :=
    if o.eligible w b && (a = .rest || decide (slotLevel w a < slotLevel w b)) then b else a
  if o.surge then .surge else best (best (best .rest .tidal) .localOrder) .weir

/-- The service state of the first row of R95 that applies. -/
def State.serviceNow (s : State) : Service :=
  if s.cfs.out then .out
  else if s.faultLatched then .faulted
  else if s.fmn.hold || s.commissioning then .held
  else if s.ptb.listen.isSome then .starting
  else match s.osl.selected with
    | .surge => .surge
    | .tidal => .tide
    | .localOrder => .localOrder
    | .weir => .sharing
    | .rest => .idle

/-- OSL evaluates the service state; a change is written and makes a STATUS-A due (R96). -/
def evalService (s : State) : State :=
  if s.serviceNow = s.osl.service then s
  else dueStatusA (s.setOsl { s.osl with service := s.serviceNow })

/-- REST becomes selected: its target is the present opening, absent while p is unknown (R94, R133). -/
def captureRest (s : State) : State := s.setOsl { s.osl with restTarget := s.opening }

/-- The mid-stride rules for a new staged target u (R53, R54): ahead of the setpoint's integer part in
the claim's direction it becomes the stride end, as far as the claim end; otherwise MTC is asked to
stop. -/
def midStride (u : Nat) (s : State) : State :=
  let w := s.cfs.working
  let a := s.clu.start.getD 0
  let e := s.clu.stop.getD 0
  let at0 := s.mtc.setpoint.getD 0 / 256
  let q := inverse w u
  if a < e then
    if at0 < q then newGoal (256 * inverse w (min u e)) s else targetStop s
  else
    if q < at0 then newGoal (256 * inverse w (max u e)) s else targetStop s

/-- CLU takes OSL's report of a new selected slot or of a new target of the selected slot (R97, R98). -/
def targetReport (s : State) : State :=
  if s.cfs.out then s
  else match s.clu.state with
    | .still => testClaim s
    | .asking => s
    | .pending => s
    | .granted =>
      if s.mtc.motion = .running || s.mtc.motion = .priming then
        if s.osl.selected.staged then midStride (s.target.getD 0) s
        else if s.osl.selected = .rest then targetStop s
        else s
      else s

/-- OSL's report to MTC when SURGE was selected before or is selected now (R97, R99); none in OUT
(R101). -/
def surgeReport (before : Slot) (s : State) : State :=
  if s.cfs.out then s
  else if s.osl.selected = .surge then surgeSelected s
  else if before = .surge then surgeDeselected s
  else s

/-- OSL re-selects (R93); a new slot is handed on in the order of R97. -/
def reselect (s : State) : State :=
  let k := s.osl.choose s.levels
  if k = s.osl.selected then s
  else
    let s1 := s.setOsl { s.osl with selected := k }
    let s2 := if k = .rest then captureRest s1 else s1
    surgeReport s.osl.selected (targetReport (evalService s2))

/-- STM makes the TIDAL slot pending or withdraws it (R87). -/
def setTidalSlot (b : Bool) (s : State) : State :=
  if s.osl.tidal = b then s else reselect (s.setOsl { s.osl with tidal := b })

/-- SHU hands a share to the WEIR slot: the first makes it pending, a later one replaces the target, and
an equal one changes nothing (R90, R98). -/
def handWeir (share : Nat) (s : State) : State :=
  let s1 := s.setOsl { s.osl with weirTarget := some share }
  match s.osl.weirTarget with
  | none => reselect s1
  | some old =>
    if old = share then s
    else if s.osl.selected = .weir then targetReport s1 else s1

/-- The LOCAL slot becomes pending, or stays pending, with a target (R88); the target it already holds
changes nothing. -/
def setLocal (target : Nat) (s : State) : State :=
  let s1 := s.setOsl { s.osl with localTarget := some target }
  match s.osl.localTarget with
  | none => reselect s1
  | some old =>
    if old = target then s
    else if s.osl.selected = .localOrder then targetReport s1 else s1

end Sys2Proof.Machine
end

