-- ==== Sys2Proof/Machine/Shares.lean ====
section
/-! DEFINITION. The share unit (04_weir_orders_and_shares.md): members and inputs (R74, R75), the
computation (R76 to R79), when it runs and what it hands on (R80 to R82), and the adoption of orders
(R67 to R70). -/

namespace Sys2Proof.Machine

/-- A member of a computation: its bay and its weight (R74, R75). -/
structure Member where
  bay : Nat
  weight : Nat
  deriving DecidableEq, Repr

/-- The sum of the members' weights. -/
def weightSum (u : List Member) : Nat := (u.map fun m => m.weight).sum

/-- The rounds of step 2 (R77): what is left of U and of R_U. `fuel` bounds the rounds; each round that
does not end them removes a member. -/
def capRounds (cap : Nat) : Nat → List Member → Nat → List Member × Nat
  | 0, u, r => (u, r)
  | fuel + 1, u, r =>
    let exceeds (m : Member) : Bool := decide (cap * weightSum u < r * m.weight)
    let capped := u.filter exceeds
    if capped.isEmpty then (u, r)
    else capRounds cap fuel (u.filter fun m => !exceeds m) (r - cap * capped.length)

/-- Step 1: the remainder R to be divided among the members (R76). -/
def remainderOf (aggregate taken : Nat) : Nat := aggregate - taken

/-- base_j of step 3 (R78). -/
def baseOf (u : List Member) (r : Nat) (m : Member) : Nat := r * m.weight / weightSum u

/-- rem_j of step 3 (R78). -/
def remOf (u : List Member) (r : Nat) (m : Member) : Nat := r * m.weight % weightSum u

/-- The leftover L of step 3 (R78). -/
def leftover (u : List Member) (r : Nat) : Nat := r - (u.map (baseOf u r)).sum

/-- How many members of U come before m: a larger remainder, or an equal one and a lower bay (R78). -/
def rankOf (u : List Member) (r : Nat) (m : Member) : Nat :=
  (u.filter fun k => decide (remOf u r m < remOf u r k ∨
    (remOf u r k = remOf u r m ∧ k.bay < m.bay))).length

/-- The share of a member left in U (R78). -/
def shareInU (u : List Member) (r : Nat) (m : Member) : Nat :=
  baseOf u r m + (if rankOf u r m < leftover u r then 1 else 0)

/-- What U and R_U are at the end of step 2 (R77). -/
def afterCapping (cap : Nat) (members : List Member) (r : Nat) : List Member × Nat :=
  capRounds cap members.length members r

/-- Every member's share (R77 to R79): the cap for a member removed from U, its part otherwise. -/
def computeShares (cap : Nat) (members : List Member) (r : Nat) : List (Nat × Nat) :=
  let (u, ru) := afterCapping cap members r
  members.map fun m => (m.bay, if u.contains m then shareInU u ru m else cap)

/-- A bay other than the own is a member: LIVE and reporting SHARING or TIDE (R74). -/
def Entry.isMember (e : Entry) : Bool :=
  e.presence == .live && (e.service == .sharing || e.service == .tide)

/-- The input record of a computation (R75): every bay of the table but the own. -/
def State.inputRows (s : State) : List InputRow :=
  (s.ptb.entries.filter fun e => e.bay != s.own).map fun e =>
    if e.isMember then { bay := e.bay, member := true, weight := some e.weight, opening := none }
    else { bay := e.bay, member := false, weight := none, opening := some (e.opening.getD 0) }

/-- The members of a computation in bay order, the own bay among them (R74, R75). -/
def State.members (s : State) : List Member :=
  (s.ptb.entries.filter fun e => e.bay == s.own || e.isMember).map fun e =>
    { bay := e.bay,
      weight := if e.bay = s.own then Param.ownWeight s.cfs.working else e.weight }

/-- The sum of the non-members' openings (R76). -/
def takenOf (rows : List InputRow) : Nat := (rows.map fun x => x.opening.getD 0).sum

/-- The share record that one computation writes (R79). -/
def State.shareRecord (s : State) (aggregate : Nat) : ShareRecord :=
  let members := s.members
  let r := remainderOf aggregate (takenOf s.inputRows)
  let u := (afterCapping s.openMax members r).1
  let shares := computeShares s.openMax members r
  { own := (shares.find? fun x => x.1 == s.own).map fun x => x.2
    remainder := r
    members := members.length
    capped := members.length - u.length
    excess := if u.isEmpty then r - members.length * s.openMax else 0
    exceeds := u.isEmpty }

/-- The new share and the last handed target differ by more than TOL, or none was handed (R82). -/
def State.handsOn (s : State) (share : Nat) : Bool :=
  match s.shu.lastHanded with
  | none => true
  | some t => decide (Param.tol s.cfs.working < ((share : Int) - t).natAbs)

/-- One run of the computation (R80): the records are written, and the own share is handed to OSL on an
adoption always, otherwise when it differs by more than TOL (R82). -/
def runShares (adoption : Bool) (s : State) : State :=
  match s.shu.order with
  | none => s
  | some o =>
    let rec0 := s.shareRecord o.aggregate
    let share := rec0.own.getD 0
    let s1 := s.setShu { s.shu with share := rec0, inputs := s.inputRows }
    if adoption || s.handsOn share then
      handWeir share (s1.setShu { s1.shu with lastHanded := some share })
    else s1

/-- PTB reports a change that starts a run while an order is held (R80); in OUT SHU gets no report
(R37, R84). -/
def shareReport (s : State) : State := if s.cfs.out then s else runShares false s

/-- PTB reports that a peer's opening has changed (R81): a non-member whose opening differs by more than
TOL from the one last used starts a run. -/
def openingReport (b : Nat) (opening : Nat) (s : State) : State :=
  match s.shu.inputs.find? fun x => x.bay == b with
  | none => s
  | some row =>
    if row.member then s
    else if Param.tol s.cfs.working < ((opening : Int) - (row.opening.getD 0 : Nat)).natAbs then
      shareReport s
    else s

/-- PTB reports that a peer's weight has changed: a member of the last computation starts a run (R80). -/
def weightReport (b : Nat) (s : State) : State :=
  match s.shu.inputs.find? fun x => x.bay == b with
  | none => s
  | some row => if row.member then shareReport s else s

/-- An ORDER frame is adopted (R67 to R69). -/
def adoptsOrder (held : Option WeirOrder) (c : OrderContent) : Bool :=
  match held with
  | none => true
  | some h =>
    stampNewer c.stamp h.stamp ||
      (!c.isRepeat && c.stamp == h.stamp && c.aggregate != h.aggregate)

/-- LIF restarts the ORDER repeat timer with its full 5000 ms; it does not run while the line state is
OFF or no order is held (R14). -/
def restartRepeat (s : State) : State :=
  s.setLif { s.lif with repeatTimer :=
    if s.lif.line = .off || s.shu.order.isNone then none else some 5000 }

/-- SHU treats an ORDER frame of bay `sender` (R68, R69); an adoption does the five steps of R70. In OUT
it takes no action (R84). -/
def takeOrder (sender : Nat) (c : OrderContent) (s : State) : State :=
  if s.cfs.out || !adoptsOrder s.shu.order c then s
  else
    let s1 := s.setShu { s.shu with
      order := some { stamp := c.stamp, aggregate := c.aggregate, origin := sender } }
    runShares true (restartRepeat (setAttention .orderAdopted s1))

/-- The repeat timer expires: SHU has a repeat of the held order queued, unless an issued order waits in
the ORDER slot, in which case the timer restarts with its full time (R14, R73). -/
def execOrderRepeatTimer (s : State) : Host.Outcome State Fault Refusal :=
  .next (if s.lif.repeatTimer.isSome then
    let issuedWaits := match s.lif.orderSlot with
      | some c => !c.isRepeat
      | none => false
    match s.shu.order with
    | some o =>
      if issuedWaits then restartRepeat s
      else
        let s1 := s.setLif { s.lif with repeatTimer := none }
        queueOrder { stamp := o.stamp, isRepeat := true, aggregate := o.aggregate } s1
    | none => restartRepeat s
  else s)

end Sys2Proof.Machine
end

