-- ==== Sys2Proof/Machine/Surge.lean ====
section
/-! DEFINITION. The surge epoch (06_stage_tide_and_surge.md, 6.5 to 6.9): its changes and their effects
(R112, R113), CLU's abandonment at a surge (R55), the raise tests (R114, R115), adoption and settling
(R118 to R121), and the SURGE_IN and settle-timer commands. -/

namespace Sys2Proof.Machine

/-- A ring's accepted stages. -/
def acceptedStages (ring : List Sample) : List Int :=
  ring.filterMap fun x => match x with
    | .accepted v => some v
    | .rejected => none

/-- The own ring is valid: at least 16 of its slots hold stages (R103). -/
def ringValid (ring : List Sample) : Bool := decide (16 ≤ (acceptedStages ring).length)

/-- The own mean of a valid channel: floor of the sum by the number of stages (R103). -/
def ringMean (ring : List Sample) : Option Int :=
  if ringValid ring then
    some ((acceptedStages ring).sum / ((acceptedStages ring).length : Int))
  else none

/-- CLU's action on its own claim when STM adopts an odd epoch (R55). -/
def surgeAbandon (s : State) : State :=
  match s.clu.state with
  | .still => s
  | .asking => resolveClaim .abandoned (withdrawClaim s)
  | .pending => resolveClaim .abandoned s
  | .granted =>
    match s.mtc.motion with
    | .running => abandonStop s
    | .stopping => abandonStop s
    | .settling => abandonStop s
    | .priming =>
      resolveClaim .abandoned (s.setMtc { s.mtc with
        movement := none, limits := none, stopKind := none })
    | .stopped => resolveClaim .abandoned s
    | .holding => resolveClaim .abandoned s
    | .faultStop => resolveClaim .abandoned s
    | .trim => resolveClaim .abandoned s

/-- A change of the epoch value, with its effects in the order of R113. A new value of the held parity
changes no slot and no claim. In OUT neither CLU nor MTC is told (R101). DESIGN CHOICE (log 42): OSL
re-selects, and reports to MTC, before CLU acts under R55, as R113 orders it; the prose of R97 has CLU
reached first. -/
def changeEpoch (e : Nat) (s : State) : State :=
  if e = s.stm.epoch then s
  else
    let s1 := setAttention .surgeChange (s.setStm { s.stm with epoch := e })
    if e % 2 = s.stm.epoch % 2 then s1
    else
      let odd : Bool := e % 2 == 1
      let s2 := s1.setClu { s1.clu with surgeClosure := s1.clu.surgeClosure || (odd && !s1.cfs.out) }
      let s3 := reselect (endClosureRow (s2.setOsl { s2.osl with surge := odd }))
      if s3.cfs.out then s3
      else if odd then surgeAbandon s3
      else endClosureRow (testClaim s3)

/-- A raise: an even epoch becomes epoch + 1, and a SURGE frame is queued (R112). -/
def raiseEpoch (s : State) : State :=
  if s.epochOdd then s
  else queueSurge (s.stm.epoch + 1) (changeEpoch (s.stm.epoch + 1) s)

/-- The stage condition holds: the own D ring is valid and the run equals N_SURGE (R114). -/
def State.stageCondition (s : State) : Bool :=
  ringValid s.stm.ringD && s.stm.surgeRun == Param.nSurge s.cfs.working

/-- The held conditions are tested at an even epoch: the stage condition (R114), then SURGE_IN (R115).
They are not tested in OUT (R123). -/
def raiseTests (s : State) : State :=
  if s.cfs.out then s
  else
    let s1 := if s.stageCondition then raiseEpoch s else s
    if s1.pins.surgeIn then raiseEpoch s1 else s1

/-- A clear: an odd epoch becomes (epoch + 1) mod 16, and a SURGE frame is queued (R112). -/
def clearEpoch (s : State) : State :=
  if s.epochOdd then
    let e := (s.stm.epoch + 1) % 16
    raiseTests (queueSurge e (changeEpoch e s))
  else s

/-- STM adopts an epoch that differs from the held one; at an even epoch the held conditions are tested
(R114, R115, R118). -/
def adoptEpoch (e : Nat) (s : State) : State :=
  if e = s.stm.epoch then s
  else
    let s1 := changeEpoch e s
    if e % 2 = 0 then raiseTests s1 else s1

/-- STM becomes settled, and its settle timer stops (R121). -/
def settleNow (s : State) : State := s.setStm { s.stm with settled := true, settle := none }

/-- STM is handed the epoch of a SURGE frame from another bay (R119, R121). -/
def surgeFromPeer (e : Nat) (s : State) : State :=
  if s.stm.settled then (if epochNewer e s.stm.epoch then adoptEpoch e s else s)
  else adoptEpoch e (settleNow s)

/-- STM is handed the epoch of the station's own SURGE frame (R119, R121). -/
def surgeFromSelf (e : Nat) (s : State) : State :=
  if epochNewer e s.stm.epoch then adoptEpoch e s else s

/-- STM is handed the epoch of a STATUS-B whose sender's entry holds the fresh flag given (R120,
R121). -/
def epochFromStatus (e : Nat) (senderFresh : Bool) (s : State) : State :=
  if s.stm.settled || senderFresh then
    if epochNewer e s.stm.epoch && (e % 2 == 1 || !senderFresh) then adoptEpoch e s else s
  else adoptEpoch e (settleNow s)

/-- SURGE_IN goes active: the epoch is raised if it is even (R115); OUT does not examine SURGE_IN
(R123). -/
def execSurgeInActive (s : State) : Host.Outcome State Fault Refusal :=
  .next (if s.pins.surgeIn then s
    else
      let s1 := s.setPins { s.pins with surgeIn := true }
      if s.cfs.out then s1 else raiseEpoch s1)

/-- SURGE_IN goes inactive: it changes nothing but the level (R115). -/
def execSurgeInInactive (s : State) : Host.Outcome State Fault Refusal :=
  .next (s.setPins { s.pins with surgeIn := false })

/-- The settle timer expires: the held epoch is kept and STM is settled (R121). -/
def execSettleTimer (s : State) : Host.Outcome State Fault Refusal :=
  .next (if s.stm.settle.isSome then settleNow s else s)

end Sys2Proof.Machine
end

