-- ==== Sys2Proof/Machine/Sources.lean ====
section
/-! DEFINITION. The sources of the two stage channels (06_stage_tide_and_surge.md, 6.3): the choice of
R105 and its use at the events of R106. -/

namespace Sys2Proof.Machine

/-- |k - own bay| (R105). -/
def bayDistance (own k : Nat) : Nat := ((k : Int) - own).natAbs

/-- The nearest bay of a list in rising order; the lower of two equally near (R105). -/
def nearestBay (own : Nat) (bays : List Nat) : Option Nat :=
  bays.foldl (fun best k => match best with
    | none => some k
    | some b => if bayDistance own k < bayDistance own b then some k else some b) none

/-- The bays that qualify as a source of a channel: LIVE, not the own bay, the channel present
(R105). -/
def State.lenders (s : State) (stage : Entry → Option Int) : List Nat :=
  (s.ptb.entries.filter fun e =>
    e.presence == .live && e.bay != s.own && (stage e).isSome).map fun e => e.bay

/-- The source of a channel by R105. -/
def State.sourceFor (s : State) (ring : List Sample) (stage : Entry → Option Int) : Source :=
  if ringValid ring then .own
  else match nearestBay s.own (s.lenders stage) with
    | some k => .borrowed k
    | none => .unavailable

/-- A source has become UNAVAILABLE from OWN or BORROWED (R106). -/
def sourceLost (before after : Source) : Bool := before != .unavailable && after == .unavailable

/-- STM chooses both channels' sources again; a lost source sets STAGE_LOST (R106). In OUT both stay
UNAVAILABLE (R123). -/
def chooseSources (s : State) : State :=
  if s.cfs.out then s
  else
    let u := s.sourceFor s.stm.ringU fun e => e.up
    let d := s.sourceFor s.stm.ringD fun e => e.down
    let s1 := s.setStm { s.stm with sourceU := u, sourceD := d }
    if sourceLost s.stm.sourceU u || sourceLost s.stm.sourceD d then setAttention .stageLost s1
    else s1

/-- The channel value of a source, read at the moment of use (R105). -/
def State.channelValue (s : State) (src : Source) (ring : List Sample)
    (stage : Entry → Option Int) : Option Int :=
  match src with
  | .own => ringMean ring
  | .borrowed k => (s.entry k).bind stage
  | .unavailable => none

end Sys2Proof.Machine
end

