-- ==== Sys2Proof/Machine/Peers.lean ====
section
/-! DEFINITION. The peer table (02_the_peer_table.md): the heard report (R20), lapse (R21), what status
frames write (R22 to R24, R35), the listen period (R26 to R28), and the PEER_LAPSE and LISTEN_TIMER
commands. -/

namespace Sys2Proof.Machine

/-! ## Presence -/

/-- An entry after its bay has been heard (R20, R33). -/
def Entry.heard (e : Entry) : Entry := { e with presence := .live, age := 0, saved := none }

/-- PTB is told that bay b has been heard (R20); in OUT it makes no report (R37). -/
def heard (b : Nat) (s : State) : State :=
  match s.entry b with
  | none => s
  | some e =>
    let s1 := s.updateEntry b Entry.heard
    if s.cfs.out then s1
    else match e.presence with
      | .neverHeard => shareReport s1
      | .live => s1
      | .lapsed => chooseSources (shareReport s1)
      | .declared => chooseSources (shareReport s1)

/-- Bay b's entry lapses when its age reaches PEER_TIMEOUT: it is LIVE, and it is not the own entry
(R21, R22, R37). -/
def State.mayLapse (s : State) (b : Nat) : Bool :=
  match s.entry b with
  | none => false
  | some e => e.presence == .live && (s.cfs.out || b != s.own)

/-- The age of bay b's entry has reached PEER_TIMEOUT (R21); a frame of the bay taken first has set it to
0, and then the expiry does not happen. -/
def State.ageReached (s : State) (b : Nat) : Bool :=
  (s.entry b).any fun e => decide (s.peerTimeout ≤ e.age)

/-- The age of bay b's entry reaches PEER_TIMEOUT: it becomes LAPSED, is counted and reported
(R21). -/
def execPeerLapse (b : Nat) (s : State) : Host.Outcome State Fault Refusal :=
  .next (if s.mayLapse b && s.ageReached b then
    let s1 := s.updateEntry b fun e => { e with presence := .lapsed }
    let s2 := setAttention .peerLapse (countEvent .peerLapse s1)
    chooseSources (shareReport s2)
  else s)

/-! ## The listen period -/

/-- A listen period starts (R26): the marks are cleared, the timer runs, OSL evaluates the service
state. -/
def listenStart (s : State) : State :=
  evalService (s.setPtb { entries := s.ptb.entries.map fun e => { e with mark := false },
                          listen := some s.peerTimeout })

/-- NEIGHBOUR_UNKNOWN is set when a neighbour becomes UNKNOWN (R28). -/
def reportUnknown (s : State) : State :=
  if s.anyUnknown then setAttention .neighbourUnknown s else s

/-- The listen period ends (R27, R28): OSL evaluates the service state, PTB evaluates each neighbour,
CLU tests its claim conditions. DESIGN CHOICE (log 47): the listen marks stay as they are until the next
period clears them. -/
def listenEnd (s : State) : State :=
  testClaim (reportUnknown (evalService (s.setPtb { s.ptb with listen := none })))

/-- Every neighbour entry has its listen mark set (R27). -/
def State.allMarked (s : State) : Bool := s.neighbours.all fun e => e.mark

/-- The listen timer expires (R27). -/
def execListenTimer (s : State) : Host.Outcome State Fault Refusal :=
  .next (if s.ptb.listen.isSome then listenEnd s else s)

/-! ## What status frames write -/

/-- The fields that a STATUS-A writes (R23, step 1). -/
def Entry.writeStatusA (c : StatusA) (e : Entry) : Entry :=
  { e with
    opening := some c.opening, committed := some c.committed, lastNumber := c.number,
    lastOutcome := c.outcome, service := c.service, fresh := c.fresh, moving := c.moving,
    degraded := c.degraded }

/-- What a neighbour's STATUS-A writes beside them: the bound, the cleared last-judged record and the
listen mark (R23, steps 2 to 4; R35). -/
def Entry.writeNeighbourA (listening : Bool) (c : StatusA) (e : Entry) : Entry :=
  { e with
    bound := some c.committed, judged := if c.fresh then none else e.judged,
    mark := e.mark || listening }

/-- The fields that a STATUS-B writes (R24). -/
def Entry.writeStatusB (c : StatusB) (e : Entry) : Entry :=
  { e with up := c.up, down := c.down, weight := c.weight, tidal := c.tidal, epoch := c.epoch }

/-- The own entry after one of the station's own status frames has been written (R22). -/
def Entry.takenOwn (e : Entry) : Entry := { e with presence := .live, age := 0 }

/-- PTB takes a STATUS-A of another bay, after the heard report (R23, R25, R27). -/
def takeStatusA (b : Nat) (c : StatusA) (s : State) : State :=
  match s.entry b with
  | none => s
  | some e =>
    let neighbour := s.isNeighbour b
    let listening := s.ptb.listen.isSome
    let s1 := s.updateEntry b fun e =>
      if neighbour then (e.writeStatusA c).writeNeighbourA listening c else e.writeStatusA c
    let s2 := if e.service != c.service then shareReport s1 else s1
    let s3 := if e.opening != some c.opening then openingReport b c.opening s2 else s2
    let s4 := if neighbour && e.bound != some c.committed then testClaim s3 else s3
    if neighbour && listening && s4.allMarked then listenEnd s4 else s4

/-- PTB takes a STATUS-B of another bay, after the heard report (R24); in OUT STM and SHU are told
nothing (R37). -/
def takeStatusB (b : Nat) (c : StatusB) (s : State) : State :=
  match s.entry b with
  | none => s
  | some e =>
    let s1 := s.updateEntry b (Entry.writeStatusB c)
    if s.cfs.out then s1
    else
      let s2 := epochFromStatus c.epoch e.fresh s1
      let s3 := if e.weight != c.weight then weightReport b s2 else s2
      if e.up.isSome != c.up.isSome || e.down.isSome != c.down.isSome then chooseSources s3 else s3

/-- The station takes its own STATUS-A: PTB writes the own entry (R22). -/
def takeOwnStatusA (c : StatusA) (s : State) : State :=
  s.updateEntry s.own fun e => (e.writeStatusA c).takenOwn

/-- The station takes its own STATUS-B: PTB writes the own entry (R22). -/
def takeOwnStatusB (c : StatusB) (s : State) : State :=
  s.updateEntry s.own fun e => (e.writeStatusB c).takenOwn

/-! ## Bounds -/

/-- A bound is written, and CLU tests its claim conditions when it has changed (R29, R40). -/
def writeBound (b : Nat) (x : Span) (s : State) : State :=
  let s1 := s.updateEntry b fun e => { e with bound := some x }
  if (s.entry b).bind (fun e => e.bound) = some x then s1 else testClaim s1

end Sys2Proof.Machine
end

