-- ==== Sys2Proof/Machine/Claims.lean ====
section
/-! DEFINITION. The claim unit's protocol (03_stagger_claims.md): the consent test and full judgment
(R60, R61), the own claim taken (R43, R44, R46), verdicts and resolution (R47 to R50), line-off (R57),
and the claim unit's timer expiries (R45, R50, R51). -/

namespace Sys2Proof.Machine

/-! ## The consent test -/

/-- The claim range of a claim from `start` to `stop` (3.1). -/
def claimRange (start stop : Nat) : Span := { lo := min start stop, hi := max start stop }

/-- The consent test of R60 for a stagger S. -/
def consents (stagger start stop : Nat) (c : Span) : Bool :=
  decide (gap (claimRange start stop) c ≤ max stagger (gap (claimRange start start) c))

/-- The own claim self-judged against a neighbour's bound (R44). -/
def State.selfJudge (s : State) (e : Entry) : Verdict :=
  match e.bound with
  | none => .demurUnsure
  | some b =>
    if consents (Param.stagger s.cfs.working) (s.clu.start.getD 0) (s.clu.stop.getD 0) b
    then .consent else .demurStagger

/-- The verdict of a full judgment of a claim, with the committed range of the moment (R60). -/
def State.judge (s : State) (c : ClaimContent) : Verdict :=
  if s.epochOdd then .demurSurge
  else if !s.positionKnown then .demurUnsure
  else if consents (Param.stagger s.cfs.working) c.start c.stop s.committed then .consent
  else .demurStagger

/-! ## Grant and demur -/

/-- The end opening e of a grant (R48): the selected target, no farther than the claim end; none where
the claim is released. -/
def grantEnd (tol start stop : Nat) (target : Option Nat) : Option Nat :=
  match target with
  | none => none
  | some u =>
    if start < stop then (if start + tol < u then some (min u stop) else none)
    else if u + tol < start then some (max u stop) else none

/-- The claim is granted (R48): a stride is handed to MTC, or the claim is released at once. -/
def grantClaim (s : State) : State :=
  let w := s.cfs.working
  let s1 := countEvent .claimGranted (s.setClu { s.clu with state := .granted, window := none })
  let target := if s.osl.selected.staged then s.target else none
  match grantEnd (Param.tol w) (s.clu.start.getD 0) (s.clu.stop.getD 0) target with
  | some e =>
    handStride { lo := inverse w s.clu.span.lo, hi := inverse w s.clu.span.hi } (inverse w e) s1
  | none => resolveClaim .granted s1

/-- The claim is resolved DEMURRED (R49). -/
def demurClaim (s : State) : State :=
  startBackoff (countEvent .claimDemurred (resolveClaim .demurred s))

/-- A side's verdict is recorded and is CONSENT. -/
def sideConsents (v : Option SideVerdict) : Bool := v.any fun x => x.verdict == .consent

/-- A side's verdict is recorded and is a DEMUR. -/
def sideDemurs (v : Option SideVerdict) : Bool := v.any fun x => x.verdict.isDemur

/-- Every neighbour has a recorded verdict, and each is CONSENT (R48). -/
def State.allConsent (s : State) : Bool :=
  (!s.isNeighbour (s.own - 1) || sideConsents s.clu.below) &&
  (!s.isNeighbour (s.own + 1) || sideConsents s.clu.above)

/-- R48 or R49 is applied to the recorded verdicts of a PENDING claim. -/
def applyVerdicts (s : State) : State :=
  if sideDemurs s.clu.below || sideDemurs s.clu.above then demurClaim s
  else if s.allConsent then grantClaim s
  else s

/-! ## The own claim taken -/

/-- The neighbour b is LIVE (R44). -/
def State.liveNeighbour (s : State) (b : Nat) : Bool :=
  s.isNeighbour b && (s.entry b).any fun e => e.presence == .live

/-- The verdict toward bay b at the moment of R44: self-judged for a neighbour outside the
required-verdict set, absent otherwise. -/
def State.selfVerdict (s : State) (b : Nat) : Option SideVerdict :=
  if s.isNeighbour b && !s.liveNeighbour b then
    (s.entry b).map fun e => { verdict := s.selfJudge e, origin := .selfJudged }
  else none

/-- The station takes its own CLAIM: PENDING with the required-verdict set and the self-judged
verdicts (R43, R44), or no change (R46). -/
def takeOwnClaim (c : ClaimContent) (s : State) : State :=
  if s.clu.state = .asking && c.number == s.clu.number then
    let s1 := s.setClu { s.clu with
      state := .pending, asking := none, window := some 300,
      required := some { below := s.liveNeighbour (s.own - 1),
                         above := s.liveNeighbour (s.own + 1) },
      below := s.selfVerdict (s.own - 1), above := s.selfVerdict (s.own + 1) }
    applyVerdicts (countEvent .claimSent s1)
  else s

/-! ## Verdicts taken -/

/-- The sender of a verdict is in the required-verdict set (R44, R47). -/
def State.requires (s : State) (b : Nat) : Bool :=
  match s.clu.required with
  | none => false
  | some r => if b + 1 = s.own then r.below else r.above

/-- The verdict recorded from a neighbour. -/
def State.recordedFrom (s : State) (b : Nat) : Option SideVerdict :=
  if b + 1 = s.own then s.clu.below else s.clu.above

/-- A verdict from the line is recorded as the sender's side. -/
def recordVerdict (b : Nat) (v : Verdict) (s : State) : State :=
  let x : SideVerdict := { verdict := v, origin := .line }
  s.setClu (if b + 1 = s.own then { s.clu with below := some x }
    else { s.clu with above := some x })

/-- CLU is handed a VERDICT of bay b (R47). DESIGN CHOICE (log 45): before the first own claim since a reset
the number compared is the claim number of R64, which is 0. -/
def takeVerdict (b : Nat) (c : VerdictContent) (s : State) : State :=
  if s.cfs.out || c.claimant != s.own then s
  else if !s.isNeighbour b then countEvent .frameDiscarded s
  else if c.number != s.clu.number then countEvent .frameDiscarded s
  else if s.clu.state != .pending then s
  else if !s.requires b then s
  else if (s.recordedFrom b).isSome then s
  else applyVerdicts (recordVerdict b c.verdict s)

/-! ## Judging a neighbour's claim -/

/-- A full judgment and what follows it (R60, R61). -/
def judgeClaim (b : Nat) (c : ClaimContent) (s : State) : State :=
  let v := s.judge c
  let s1 := s.updateEntry b fun e =>
    { e with judged := some { number := c.number, verdict := v } }
  let s2 := if v = .consent then writeBound b (claimRange c.start c.stop) s1 else s1
  queueVerdict { claimant := b, number := c.number, verdict := v } s2

/-- CLU is handed a CLAIM of bay b (R59, R62). -/
def takeClaim (b : Nat) (c : ClaimContent) (s : State) : State :=
  if !s.isNeighbour b then s
  else match (s.entry b).bind fun e => e.judged with
    | some j =>
      if j.number = c.number then
        queueVerdict { claimant := b, number := j.number, verdict := j.verdict } s
      else judgeClaim b c s
    | none => judgeClaim b c s

/-! ## Line-off and timers -/

/-- CLU's action when the line state becomes OFF (R57). -/
def claimLineOff (s : State) : State :=
  match s.clu.state with
  | .still => s
  | .asking => resolveClaim .abandoned s
  | .pending => resolveClaim .abandoned s
  | .granted => abandonStop s

/-- The ASKING timer expires: the CLAIM is withdrawn, the claim is ABANDONED, the backoff starts
(R45). -/
def execAskingTimer (s : State) : Host.Outcome State Fault Refusal :=
  .next (if s.clu.state = .asking && s.clu.asking.isSome then
    startBackoff (resolveClaim .abandoned (withdrawClaim s))
  else s)

/-- The claim window expires: the claim is LAPSED, counted, and the backoff starts (R50). -/
def execClaimWindow (s : State) : Host.Outcome State Fault Refusal :=
  .next (if s.clu.state = .pending && s.clu.window.isSome then
    startBackoff (countEvent .claimLapsed (resolveClaim .lapsed s))
  else s)

/-- The backoff timer expires: CLU tests its claim conditions (R40, R51). -/
def execBackoffTimer (s : State) : Host.Outcome State Fault Refusal :=
  .next (if s.clu.backoff.isSome then testClaim (s.setClu { s.clu with backoff := none }) else s)

end Sys2Proof.Machine
end

