-- ==== Sys2Proof/Machine/Faults.lean ====
section
/-! DEFINITION. The fault monitor (09_faults_and_stops.md): latching (R166 to R169), the persistence test
and the clearing of faults (R172, R173), and the conditions HOLD and SUPPLY_LOW (R175, R176, R157,
R58). -/

namespace Sys2Proof.Machine

/-- The claim number a fault record takes: the claim in progress, or the last resolved number (R56,
R169). -/
def Clu.recordNumber (c : Clu) : Nat := if c.state = .still then c.lastNumber else c.number

/-- The picture of the station at a first fault (R169). -/
def State.faultPicture (s : State) (c : Cause) : FaultRecord :=
  { first := c, recorded := noCauses.add c, opening := s.opening, left := s.mtc.left.value,
    right := s.mtc.right.value, number := s.clu.recordNumber, motion := s.mtc.motion }

/-- A first fault, in the order of R167. -/
def firstFault (c : Cause) (s : State) : State :=
  let s1 := s.setFmn { s.fmn with
    record := some (s.faultPicture c), causes := s.fmn.causes.add c, faultLine := true }
  setAttention .fault (evalService (abandonClaim (enterFaultStop s1)))

/-- A second or later fault (R168); in TRIM it ends the trim (R161). -/
def secondFault (c : Cause) (s : State) : State :=
  let s1 := s.setFmn { s.fmn with
    causes := s.fmn.causes.add c,
    record := s.fmn.record.map fun r => { r with recorded := r.recorded.add c } }
  let s2 := if s1.mtc.motion = .trim then enterFaultStop s1 else s1
  setAttention .fault s2

/-- A report of a cause: absorbed while the cause is latched, else a first or a second fault (R166).
In OUT no block reports a fault (R181). -/
def reportFault (c : Cause) (s : State) : State :=
  if s.cfs.out || s.fmn.causes.has c then s
  else if s.fmn.causes.isEmpty then firstFault c s
  else secondFault c s

/-- A cause persists (R172), by the values that MTC's latest servo sample left. -/
def State.persists (s : State) : Cause → Bool
  | .encoderL => s.mtc.left.lastRead == .invalid
  | .encoderR => s.mtc.right.lastRead == .invalid
  | .overtravel =>
    outsideLimits s.cfs.working s.mtc.left || outsideLimits s.cfs.working s.mtc.right
  | .skewTrip =>
    match s.mtc.skew with
    | some k => decide (Param.skewTrip s.cfs.working ≤ k.natAbs)
    | none => false
  | .stallL => false
  | .stallR => false
  | .duplicateBay => true

/-- The seven causes. -/
def allCauses : List Cause :=
  [.encoderL, .encoderR, .overtravel, .skewTrip, .stallL, .stallR, .duplicateBay]

/-- Some cause in the cause set persists (R171). -/
def State.anyPersists (s : State) : Bool :=
  allCauses.any fun c => s.fmn.causes.has c && s.persists c

/-- The faults are cleared: steps 1 to 4 of R173. MTC's entry to STOPPED already makes the closure test
and CLU's test; CLU tests again after the service state, as the order of R173 has it. -/
def clearFaults (s : State) : State :=
  let s1 := s.setFmn { s.fmn with causes := noCauses, faultLine := false }
  let s2 := if s1.mtc.motion = .faultStop || s1.mtc.motion = .trim then enterStopped s1 else s1
  testClaim (evalService s2)

/-! ## Conditions -/

/-- What taking HOLD or SUPPLY_LOW, and entering commissioning, do to MTC and CLU (R157, R58); in OUT
MTC stays STOPPED (R165, R181). -/
def stopForCondition (s : State) : State :=
  if s.cfs.out then s else abandonClaim (enterFaultStop s)

/-- What the end of HOLD, of SUPPLY_LOW and of commissioning does to MTC: the closure test (R143). -/
def conditionEnds (s : State) : State := if s.cfs.out then s else closureTest s

/-- FMN takes HOLD (R175): MTC stops, CLU abandons, OSL evaluates the service state. -/
def takeHold (s : State) : State :=
  evalService (stopForCondition (s.setFmn { s.fmn with hold := true }))

/-- FMN takes SUPPLY_LOW (R176). -/
def takeSupplyLow (s : State) : State :=
  stopForCondition (s.setFmn { s.fmn with supplyLow := true })

/-- HOLD_IN goes active: HOLD is taken; both drives are 0 while it lasts (R139, R175). -/
def execHoldTaken (s : State) : Host.Outcome State Fault Refusal :=
  .next (if s.pins.holdIn then s else takeHold (s.setPins { s.pins with holdIn := true }))

/-- HOLD_IN goes inactive: HOLD is released; MTC makes its closure test, OSL evaluates the service
state, CLU tests its claim conditions (R175). -/
def execHoldReleased (s : State) : Host.Outcome State Fault Refusal :=
  .next (if s.pins.holdIn then
    let s1 := s.setPins { s.pins with holdIn := false }
    testClaim (evalService (conditionEnds (s1.setFmn { s1.fmn with hold := false })))
  else s)

/-- The supply sense falls below its threshold (R176): SUPPLY_LOW is taken, or the good timer stops. -/
def execSupplyGoesLow (s : State) : Host.Outcome State Fault Refusal :=
  .next (if s.pins.supplyGood then
    let s1 := s.setPins { s.pins with supplyGood := false }
    if s1.fmn.supplyLow then s1.setFmn { s1.fmn with good := none } else takeSupplyLow s1
  else s)

/-- The supply sense rises to its threshold: while SUPPLY_LOW is held the good timer of 1000 ms starts
(R176). -/
def execSupplyGoesGood (s : State) : Host.Outcome State Fault Refusal :=
  .next (if s.pins.supplyGood then s
  else
    let s1 := s.setPins { s.pins with supplyGood := true }
    if s1.fmn.supplyLow then s1.setFmn { s1.fmn with good := some 1000 } else s1)

/-- The good timer expires: SUPPLY_LOW is released; MTC makes its closure test and CLU tests its claim
conditions (R176). -/
def execGoodTimer (s : State) : Host.Outcome State Fault Refusal :=
  .next (if s.fmn.good.isSome then
    testClaim (conditionEnds (s.setFmn { s.fmn with good := none, supplyLow := false }))
  else s)

end Sys2Proof.Machine
end

