-- ==== Sys2Proof/Machine/Line.lean ====
section
/-! DEFINITION. The line interface (01_the_bay_line.md): taking and discarding frames (R3, R4, R6), the
attempt (R8 to R11), the line states (R15, R16) and the status periods (R12, R13), each with the
commands it answers. -/

namespace Sys2Proof.Machine

/-! ## Taking frames -/

/-- LIF hands a valid frame of another bay to its owner (R4). -/
def deliver (b : Nat) (f : Frame) (s : State) : State :=
  match f with
  | .surge e => surgeFromPeer e s
  | .verdict c => takeVerdict b c s
  | .claim c => takeClaim b c s
  | .order c => takeOrder b c s
  | .statusA c => takeStatusA b c s
  | .statusB c => takeStatusB b c s

/-- A frame is discarded and counted (R3). -/
def discardFrame (s : State) : State := countEvent .frameDiscarded s

/-- The frame carries the own bay number without being this station's own transmission (R3 check 2, R6);
OUT does not make this check (R18). -/
def State.isDuplicate (s : State) (f : RawFrame) : Bool := !s.cfs.out && rawSender f == s.own

/-- The frame passes the four checks of R3, as a frame of another bay. -/
def State.frameValid (s : State) (f : RawFrame) : Bool :=
  kindAndBayOk s.firstBay s.lastBay f && !s.isDuplicate f &&
    (parseFrame s.firstBay s.lastBay f).isSome

/-- LIF takes a frame it sees complete on the line from another sender (R3, R4, R6). DESIGN CHOICE (log 46):
ACT takes LIF's FRAME_RECEIVED before a report that the frame's owner makes (R201). -/
def receiveFrame (f : RawFrame) (s : State) : State :=
  if !kindAndBayOk s.firstBay s.lastBay f then discardFrame s
  else if s.isDuplicate f then discardFrame (reportFault .duplicateBay s)
  else match parseFrame s.firstBay s.lastBay f with
    | none => discardFrame s
    | some c => deliver (rawSender f) c (heard (rawSender f) (countEvent .frameReceived s))

/-- The frame of a kind code and sender bay with its data bytes (R1). -/
def frameOf (kind : Nat) (bay : BitVec 6) (data : List Byte) : RawFrame :=
  { id := BitVec.ofNat 11 (64 * kind + bay.toNat), data := data }

/-- A SURGE frame is taken (R119). -/
def execSurgeFrame (bay : BitVec 6) (data : List Byte) (s : State) :
    Host.Outcome State Fault Refusal := .next (receiveFrame (frameOf 1 bay data) s)

/-- A VERDICT frame is taken (R47). -/
def execVerdictFrame (bay : BitVec 6) (data : List Byte) (s : State) :
    Host.Outcome State Fault Refusal := .next (receiveFrame (frameOf 2 bay data) s)

/-- A CLAIM frame is taken (R59). -/
def execClaimFrame (bay : BitVec 6) (data : List Byte) (s : State) :
    Host.Outcome State Fault Refusal := .next (receiveFrame (frameOf 3 bay data) s)

/-- An ORDER frame is taken (R68). -/
def execOrderFrame (bay : BitVec 6) (data : List Byte) (s : State) :
    Host.Outcome State Fault Refusal := .next (receiveFrame (frameOf 4 bay data) s)

/-- A STATUS-A frame is taken (R23). -/
def execStatusAFrame (bay : BitVec 6) (data : List Byte) (s : State) :
    Host.Outcome State Fault Refusal := .next (receiveFrame (frameOf 5 bay data) s)

/-- A STATUS-B frame is taken (R24). -/
def execStatusBFrame (bay : BitVec 6) (data : List Byte) (s : State) :
    Host.Outcome State Fault Refusal := .next (receiveFrame (frameOf 6 bay data) s)

/-- A frame that fails a check of R3 is discarded (R3, R6); the row does not arise for a frame that
passes them all (log 2). -/
def execFrameDiscarded (f : RawFrame) (s : State) : Host.Outcome State Fault Refusal :=
  .next (if s.frameValid f then s else receiveFrame f s)

/-! ## The attempt -/

/-- The moving flag's motion states (R11). -/
def Motion.moving : Motion → Bool
  | .priming => true
  | .running => true
  | .stopping => true
  | .settling => true
  | .trim => true
  | .stopped => false
  | .holding => false
  | .faultStop => false

/-- STATUS-A as LIF fills it (R11, R133). -/
def State.fillStatusA (s : State) : StatusA :=
  { opening := s.opening.getD 0, committed := s.committed, number := s.clu.lastNumber,
    service := s.osl.service, outcome := s.clu.lastOutcome, fresh := s.clu.fresh,
    moving := s.mtc.motion.moving,
    degraded := s.fmn.supplyLow || s.fmn.lineOff || s.fmn.hold }

/-- STATUS-B as LIF fills it, with the station's own means only (R11, R107). -/
def State.fillStatusB (s : State) : StatusB :=
  { up := ringMean s.stm.ringU, down := ringMean s.stm.ringD,
    weight := Param.ownWeight s.cfs.working, tidal := s.stm.tidal, epoch := s.stm.epoch }

/-- The arbiter's choice: the occupied slot whose frame has the lowest identifier (R8). -/
def State.chosenFrame (s : State) : Option Frame :=
  match s.lif.surgeSlot with
  | some e => some (.surge e)
  | none => match s.lif.verdictSlots with
    | v :: _ => some (.verdict v)
    | [] => match s.lif.claimSlot with
      | some c => some (.claim c)
      | none => match s.lif.orderSlot with
        | some c => some (.order c)
        | none =>
          if s.lif.statusASlot then some (.statusA s.fillStatusA)
          else if s.lif.statusBSlot then some (.statusB s.fillStatusB)
          else none

/-- An attempt begins when the line is idle, the line state ON or REJOINING and a slot occupied (R8);
OUT begins none (R18). -/
def execAttemptBegin (s : State) : Host.Outcome State Fault Refusal :=
  .next (if s.lineAccepts && s.lif.attempt.isNone then
    match s.chosenFrame with
    | some f => s.setLif { s.lif with attempt := some { frame := f, touched := false } }
    | none => s
  else s)

/-- The frame on the wire, while an attempt is in progress (R1). -/
def State.onWire (s : State) : Option RawFrame :=
  s.lif.attempt.map fun a => encodeFrame s.own a.frame

/-- The slot of a sent frame's class is emptied (R9). -/
def Lif.empty (l : Lif) : FrameClass → Lif
  | .surge => { l with surgeSlot := none }
  | .verdict k => { l with verdictSlots := l.verdictSlots.filter fun v => v.claimant != k }
  | .claim => { l with claimSlot := none }
  | .order => { l with orderSlot := none }
  | .statusA => { l with statusASlot := false }
  | .statusB => { l with statusBSlot := false }

/-- The station takes its own STATUS-A: its timer restarts (R12); with the fresh flag set, CLU marks it
and tests its claim conditions (R40, R41). -/
def ownStatusA (c : StatusA) (s : State) : State :=
  let s1 := takeOwnStatusA c s
  let s2 := s1.setLif { s1.lif with sinceStatusA := some 0 }
  if c.fresh then testClaim (s2.setClu { s2.clu with freshTaken := true }) else s2

/-- The station takes its own frame (R4, R22, R43, R61, R71, R119). -/
def takeOwnFrame (f : Frame) (s : State) : State :=
  match f with
  | .surge e => surgeFromSelf (e % 16) s
  | .verdict c =>
    countEvent (if c.verdict = .consent then .verdictConsentSent else .verdictDemurSent) s
  | .claim c => takeOwnClaim c s
  | .order c => restartRepeat (takeOrder s.own c s)
  | .statusA c => ownStatusA c s
  | .statusB c =>
    let s1 := takeOwnStatusB c s
    s1.setLif { s1.lif with sinceStatusB := some 0 }

/-- The first success in REJOINING makes the line state ON: LINE_OFF is released and CLU tests its
claim conditions (R16, R40, R177). -/
def lineOn (s : State) : State :=
  if s.lif.line = .rejoining then
    let s1 := s.setLif { s.lif with line := .on }
    testClaim (s1.setFmn { s1.fmn with lineOff := false })
  else s

/-- An attempt succeeds (R9, R10). DESIGN CHOICE (log 46): ACT takes LIF's FRAME_SENT before CLU's CLAIM_SENT
and what follows it, or its VERDICT report, of the same frame (R201). -/
def execAttemptSuccess (s : State) : Host.Outcome State Fault Refusal :=
  .next (match s.lif.attempt with
  | none => s
  | some a =>
    let l : Lif := { s.lif with attempt := none, failures := 0 }
    let s1 := s.setLif (if a.touched then l else l.empty a.frame.cls)
    lineOn (takeOwnFrame a.frame (countEvent .frameSent s1)))

/-- An attempt loses contention: the slot stays occupied and the winning frame is taken (R9). -/
def execAttemptLostContention (winner : RawFrame) (s : State) : Host.Outcome State Fault Refusal :=
  .next (if s.lif.attempt.isSome then
    receiveFrame winner (s.setLif { s.lif with attempt := none })
  else s)

/-- The line state becomes OFF (R15, R57, R177). -/
def goOff (s : State) : State :=
  let s1 := s.setLif { s.lif with
    surgeSlot := none, verdictSlots := [], claimSlot := none, orderSlot := none,
    statusASlot := false, statusBSlot := false, line := .off,
    sinceStatusA := none, sinceStatusB := none, repeatTimer := none, offTimer := some 1000 }
  claimLineOff (s1.setFmn { s1.fmn with lineOff := true })

/-- A failed attempt: the failure count goes up by 1, TX_RETRY is counted, and a count of 16 makes the
line state OFF (R9, R15). -/
def failAttempt (s : State) : State :=
  let n := min 16 (s.lif.failures + 1)
  let s1 := countEvent .txRetry (s.setLif { s.lif with attempt := none, failures := n })
  if n = 16 then goOff s1 else s1

/-- An attempt fails (R9). -/
def execAttemptFailure (s : State) : Host.Outcome State Fault Refusal :=
  .next (if s.lif.attempt.isSome then failAttempt s else s)

/-- The failed attempt that brings the failure count to 16 (R15); the row does not arise at another
count (log 2). -/
def execLineOff (s : State) : Host.Outcome State Fault Refusal :=
  .next (if s.lif.attempt.isSome && s.lif.failures == 15 then failAttempt s else s)

/-! ## Starting on the line -/

/-- LIF makes STATUS-A and STATUS-B due at once and starts their timers (R16, R18). -/
def startStatuses (s : State) : State :=
  let s1 := dueStatusB (dueStatusA s)
  s1.setLif { s1.lif with sinceStatusA := some 0, sinceStatusB := some 0 }

/-- The OFF timer expires: the rejoin (R16, R26, R65). -/
def execOffTimer (s : State) : Host.Outcome State Fault Refusal :=
  .next (if s.lif.line = .off && s.lif.offTimer.isSome then
    let s1 := startStatuses (s.setLif { s.lif with
      line := .rejoining, failures := 0, offTimer := none })
    let s2 := listenStart s1
    restartRepeat (s2.setClu { s2.clu with fresh := true, freshTaken := false })
  else s)

/-- The STATUS-A period elapses (R12). -/
def execStatusAPeriod (s : State) : Host.Outcome State Fault Refusal :=
  .next (match s.lif.sinceStatusA with
  | none => s
  | some t =>
    dueStatusA (s.setLif { s.lif with
      sinceStatusA := some (max t (statusAPeriodOf s.mtc.motion)) }))

/-- The STATUS-B period elapses (R13). -/
def execStatusBPeriod (s : State) : Host.Outcome State Fault Refusal :=
  .next (match s.lif.sinceStatusB with
  | none => s
  | some t => dueStatusB (s.setLif { s.lif with sinceStatusB := some (max t 1000) }))

end Sys2Proof.Machine
end

