-- ==== Sys2Proof/Machine/Servo.lean ====
section
/-! DEFINITION. The servo sample (08_hoist_motion.md, R162, with the rules of its ten steps), the rows
that name a sample by what comes about in it (log 2), and the TRIM command's effect (R159). -/

namespace Sys2Proof.Machine

/-! ## Step 1: the encoders -/

/-- A read counts ENCODER_INVALID unless it is VALID (R130). -/
def countRead (c : Channel) (s : State) : State :=
  if c.lastRead = .invalid then countEvent .encoderInvalid s else s

/-- A report that depends on a test. -/
def reportIf (p : Bool) (c : Cause) (s : State) : State := if p then reportFault c s else s

/-- Both encoders are read and judged (R128 to R130); in OUT no fault is reported (R138). -/
def readEncoders (l r : EncoderRead) (s : State) : State :=
  let cl := s.mtc.left.take l
  let cr := s.mtc.right.take r
  let s1 := countRead cr (countRead cl (s.setMtc { s.mtc with left := cl, right := cr }))
  reportIf (s.mtc.right.reachesThree cr) .encoderR
    (reportIf (s.mtc.left.reachesThree cl) .encoderL s1)

/-! ## Steps 2 and 3: overtravel and skew trip -/

/-- The overtravel test (R135). -/
def overtravelTest (s : State) : State :=
  reportIf (outsideLimits s.cfs.working s.mtc.left || outsideLimits s.cfs.working s.mtc.right)
    .overtravel s

/-- |skew| is at or above SKEW_TRIP with both values present (R154, R172). -/
def State.skewTripped (s : State) : Bool :=
  s.mtc.skew.any fun k => decide (Param.skewTrip s.cfs.working ≤ k.natAbs)

/-- The skew trip test, made in every motion state apart from TRIM (R154). -/
def skewTripTest (s : State) : State :=
  reportIf (s.mtc.motion != .trim && s.skewTripped) .skewTrip s

/-! ## Step 4: the skew hold -/

/-- |skew| has fallen to half of SKEW_WARN (R153, R161). -/
def Mtc.skewReleased (w : Words) (m : Mtc) : Bool := decide (m.skewSize ≤ Param.skewWarn w / 2)

/-- The skew hold is set or cleared in RUNNING, STOPPING and SETTLING (R152, R153). -/
def Mtc.evalSkewHold (w : Words) (m : Mtc) : Mtc :=
  if !m.motion.bothLoops then m
  else if m.skewHold then
    if m.skewReleased w then { m with skewHold := false } else m
  else if decide (Param.skewWarn w ≤ m.skewSize) then { m with skewHold := true, v := 0 }
  else m

/-! ## Step 5: the profile and the trim setpoint -/

/-- The velocity of step 4 of R145. -/
def nextVelocity (vmax a v d : Nat) : Nat :=
  if 2 * a * d ≤ v * v then max a (v - a) else min vmax (v + a)

/-- One advance of the profile (R145, steps 1 to 5). -/
def Mtc.advance (w : Words) (m : Mtc) : Mtc :=
  let sp := m.speed.getD .normal
  let x := m.setpoint.getD 0
  let e := m.goal.getD x
  let d := ((e : Int) - x).natAbs
  let v := nextVelocity (vMax w sp) (accel w sp) m.v d
  let step := min v d
  { m with v := v, setpoint := some (if x ≤ e then x + step else x - step) }

/-- The creep step of a trim in q8 (R160). -/
def creep (w : Words) : Int := max 1 (vMax w .normal / 4 : Nat)

/-- The trim setpoint after one sample (R160). -/
def Trim.advance (w : Words) (t : Trim) : Trim :=
  { t with setpoint := t.setpoint.map fun x =>
      if x ≤ 256 * t.limit then min (256 * t.limit) (x + creep w)
      else max (256 * t.limit) (x - creep w) }

/-- The trim setpoint stands at its limit (R161). -/
def Trim.atLimit (t : Trim) : Bool := t.setpoint == some (256 * t.limit)

/-- MTC's record after a trim's advance; the 5000 ms of R161 start when the setpoint reaches its
limit. -/
def Mtc.advanceTrim (w : Words) (m : Mtc) : Mtc :=
  match m.trim with
  | none => m
  | some t =>
    let t' := t.advance w
    { m with trim := some t',
             trimLimit := if t'.atLimit && !t.atLimit then some 5000 else m.trimLimit }

/-- The trim is in phase MOVE (R160). -/
def Mtc.trimMoves (m : Mtc) : Bool := m.motion == .trim && m.phase == some .move

/-- The profile runs: RUNNING or STOPPING, with no skew hold (R145). -/
def Mtc.profileRuns (m : Mtc) : Bool :=
  (m.motion == .running || m.motion == .stopping) && !m.skewHold

/-- Step 5 of R162: the profile with the arrival, or the trim setpoint. -/
def advanceSetpoint (s : State) : State :=
  let w := s.cfs.working
  if s.mtc.profileRuns then
    let s1 := s.setMtc (s.mtc.advance w)
    if s1.mtc.setpoint = s1.mtc.goal then enterSettling s1 else s1
  else if s.mtc.trimMoves then s.setMtc (s.mtc.advanceTrim w)
  else s

/-! ## Step 6: the drives -/

/-- The drive of a position loop for an error e (R150). -/
def loopDrive (w : Words) (e : Int) : Int :=
  if e.natAbs ≤ Param.deadBand w then 0
  else e.sign * (min 1000 (Param.offset w + e.natAbs * Param.gain w / 16) : Nat)

/-- The error of a hoist: the setpoint's integer part less its stroke; none without a stroke (R150;
log 23). -/
def errorOf (setpoint : Int) (c : Channel) : Option Int :=
  c.value.map fun x => setpoint / 256 - x

/-- A loop's drive, 0 without a stroke (log 23). -/
def driveOf (w : Words) (e : Option Int) : Int := (e.map (loopDrive w)).getD 0

/-- A hoist is in band: |e| ≤ DB (R148). -/
def inBand (w : Words) (e : Option Int) : Bool := e.any fun x => decide (x.natAbs ≤ Param.deadBand w)

/-- The profile setpoint. -/
def Mtc.profile (m : Mtc) : Int := (m.setpoint.getD 0 : Nat)

/-- The leading hoist (8.8). -/
def Mtc.leading (m : Mtc) : Option Hoist :=
  match m.skew, m.direction with
  | some k, some .raise => if 0 < k then some .left else if k < 0 then some .right else none
  | some k, some .lower => if 0 < k then some .right else if k < 0 then some .left else none
  | _, _ => none

/-- The hoist's drive is forced to 0 under the skew hold: it leads, and the other hoist is not within
DB (R152). -/
def Mtc.forcedZero (w : Words) (m : Mtc) (h : Hoist) : Bool :=
  m.motion.bothLoops && m.skewHold && m.leading == some h &&
    !(match h with
      | .left => inBand w (errorOf m.profile m.right)
      | .right => inBand w (errorOf m.profile m.left))

/-- The trimmed hoist's loop drive, and 0 for the other (R160). -/
def Mtc.trimDrive (w : Words) (m : Mtc) (h : Hoist) : Int :=
  match m.trim with
  | none => 0
  | some t =>
    if t.hoist = h then
      driveOf w (errorOf (t.setpoint.getD 0) (match h with | .left => m.left | .right => m.right))
    else 0

/-- A hoist's drive at this sample (R139, R150, R152, R160). -/
def Mtc.driveFor (w : Words) (m : Mtc) (h : Hoist) : Int :=
  if m.motion.bothLoops then
    if m.forcedZero w h then 0
    else driveOf w (errorOf m.profile (match h with | .left => m.left | .right => m.right))
  else if m.trimMoves then m.trimDrive w h
  else 0

/-- Step 6 of R162: both drives; while HOLD_IN is active both are 0 (R139). -/
def computeDrives (s : State) : State :=
  let w := s.cfs.working
  s.setMtc { s.mtc with
    driveL := if s.pins.holdIn then 0 else s.mtc.driveFor w .left
    driveR := if s.pins.holdIn then 0 else s.mtc.driveFor w .right }

/-! ## Step 7: the stall histories -/

/-- A hoist's loop runs in this state (R139). -/
def Mtc.loopOf (m : Mtc) (h : Hoist) : Bool :=
  m.motion.bothLoops || (m.trimMoves && m.trim.any fun t => t.hoist == h)

/-- A stall history before its window is tested (R155). -/
def Stall.count (runs : Bool) (drive : Int) (stroke : Option Nat) (x : Stall) : Stall :=
  if !runs || drive.natAbs < 1000 then { x with run := 0 }
  else if x.run = 0 then { run := 1, ref := stroke }
  else { x with run := x.run + 1 }

/-- The window has ended with a stroke that differs from the reference by fewer than 2 counts
(R155). -/
def Stall.stalled (window : Nat) (stroke : Option Nat) (x : Stall) : Bool :=
  decide (window ≤ x.run) &&
    match stroke, x.ref with
    | some a, some b => decide (((a : Int) - b).natAbs < 2)
    | _, _ => false

/-- A window that has ended sets the run to 0 (R155). -/
def Stall.close (window : Nat) (x : Stall) : Stall :=
  if window ≤ x.run then { x with run := 0 } else x

/-- Step 7 of R162. -/
def updateStalls (s : State) : State :=
  let w := Param.stallWindow s.cfs.working
  let m := s.mtc
  let l := m.stallL.count (m.loopOf .left) m.driveL m.left.value
  let r := m.stallR.count (m.loopOf .right) m.driveR m.right.value
  reportIf (r.stalled w m.right.value) .stallR
    (reportIf (l.stalled w m.left.value) .stallL
      (s.setMtc { m with stallL := l.close w, stallR := r.close w }))

/-! ## Step 8: settling and the end of a trim -/

/-- Both hoists are in band (R148). -/
def State.bothInBand (s : State) : Bool :=
  inBand s.cfs.working (errorOf s.mtc.profile s.mtc.left) &&
    inBand s.cfs.working (errorOf s.mtc.profile s.mtc.right)

/-- The settle count, and HOLDING at its 25th in-band sample (R148); a skew hold keeps the count from
rising (R152; log 33). -/
def settleStep (s : State) : State :=
  if s.bothInBand then
    if s.mtc.skewHold then s else
    let s1 := s.setMtc { s.mtc with settleCount := s.mtc.settleCount + 1 }
    if s1.mtc.settleCount = 25 then enterHolding s1 else s1
  else s.setMtc { s.mtc with settleCount := 0 }

/-- The error of the trimmed hoist (R151, R160, R161). -/
def Mtc.trimError (m : Mtc) : Option Int :=
  m.trim.bind fun t =>
    errorOf (t.setpoint.getD 0) (match t.hoist with | .left => m.left | .right => m.right)

/-- The first two rows of R161, as a servo sample tests them. -/
def State.trimEnds (s : State) : Bool :=
  s.mtc.trimMoves && (s.mtc.skewReleased s.cfs.working ||
    ((s.mtc.trim.any fun t => t.atLimit) && inBand s.cfs.working s.mtc.trimError))

/-- Step 8 of R162; `settling` says that MTC stood in SETTLING before this sample's step 5. -/
def settleAndTrim (settling : Bool) (s : State) : State :=
  let s1 := if settling && s.mtc.motion == .settling then settleStep s else s
  if s1.trimEnds then endTrim s1 else s1

/-! ## Step 9: the hand-over -/

/-- FOLLOWING_ERROR of R151. -/
def Mtc.followingError (m : Mtc) : Nat :=
  let size (e : Option Int) : Nat := (e.getD 0).natAbs
  if m.motion.bothLoops then
    max (size (errorOf m.profile m.left)) (size (errorOf m.profile m.right))
  else if m.trimMoves then size m.trimError
  else 0

/-- STAGGER_GAP of R202. -/
def State.staggerGap (s : State) : Nat :=
  match s.opening with
  | none => 0
  | some p =>
    (s.neighbours.filterMap fun e => e.bound).foldl
      (fun a b => max a (gap { lo := p, hi := p } b)) 0

/-- The values of one hand-over (R151, R202). -/
def State.sampleValues (s : State) : SampleValues :=
  { skew := s.mtc.skewSize, following := s.mtc.followingError, gap := s.staggerGap }

/-- Step 9 of R162. -/
def handOver (s : State) : State := handOverSamples s.sampleValues s

/-! ## Step 10, and what other blocks do at a sample -/

/-- MTC leaves FAULT_STOP for STOPPED while no fault is latched (R157). -/
def leaveFaultStop (s : State) : State :=
  if s.mtc.motion = .faultStop && !s.faultLatched then enterStopped s else s

/-- A REST target that awaits capture is captured once the position is known (R94, R134; log 19). -/
def awaitRest (s : State) : State :=
  if s.osl.selected = .rest && s.osl.restTarget.isNone && s.positionKnown then captureRest s else s

/-- MTC's closure test at the sample at which the gate stroke first becomes present (R143). -/
def firstStroke (before : Option Nat) (s : State) : State :=
  if before.isNone && s.mtc.gateStroke.isSome then closureTest s else s

/-- CLU's test at a sample at which the opening differs from that of its last test (R40). -/
def openingTest (s : State) : State := if s.opening = s.clu.lastTest then s else testClaim s

/-- Steps 2 to 4 of R162, from the state that the reads left. -/
def sampleTests (s : State) : State :=
  let s1 := skewTripTest (overtravelTest s)
  s1.setMtc (s1.mtc.evalSkewHold s1.cfs.working)

/-- Steps 5 to 7 of R162. -/
def sampleDrives (s : State) : State := updateStalls (computeDrives (advanceSetpoint s))

/-- Steps 2 to 10 of R162, from the state that the reads left. -/
def sampleSteps (s : State) : State :=
  let s1 := sampleTests s
  leaveFaultStop (handOver (settleAndTrim (s1.mtc.motion == .settling) (sampleDrives s1)))

/-- One servo sample (R162); in OUT only the reads, their counts and the hand-over are made (R138, R165).
What OSL, MTC and CLU do at the sample follows in the order of log 32. -/
def sample (l r : EncoderRead) (s : State) : State :=
  let s1 := readEncoders l r s
  if s.cfs.out then handOver s1
  else openingTest (firstStroke s.mtc.gateStroke (awaitRest (sampleSteps s1)))

/-- A servo sample (R162). -/
def execServoSample (l r : EncoderRead) (s : State) : Host.Outcome State Fault Refusal :=
  .next (sample l r s)

/-! ## The rows named by what comes about -/

/-- The read brings hoist h's invalid run to 3 (R130). -/
def State.readsThree (s : State) (h : Hoist) (l r : EncoderRead) : Bool :=
  match h with
  | .left => s.mtc.left.reachesThree (s.mtc.left.take l)
  | .right => s.mtc.right.reachesThree (s.mtc.right.take r)

/-- The sample at which an invalid run reaches 3, and FMN takes the report (R130); the row does not arise
at another sample, or in OUT (log 2). -/
def execEncoderFault (h : Hoist) (l r : EncoderRead) (s : State) :
    Host.Outcome State Fault Refusal :=
  .next (if !s.cfs.out && s.readsThree h l r then sample l r s else s)

/-- The stall cause of a hoist (R155). -/
def stallCause : Hoist → Cause
  | .left => .stallL
  | .right => .stallR

/-- The sample at which hoist h's stall window ends in a report that latches (R155; log 2). -/
def execStallWindowEnd (h : Hoist) (l r : EncoderRead) (s : State) :
    Host.Outcome State Fault Refusal :=
  .next (if !s.fmn.causes.has (stallCause h) && (sample l r s).fmn.causes.has (stallCause h)
    then sample l r s else s)

/-- Step 8 of the sample counts the 25th in-band sample (R148). -/
def State.fillsSettleCount (s : State) (l r : EncoderRead) : Bool :=
  let s1 := sampleTests (readEncoders l r s)
  let s2 := sampleDrives s1
  !s.cfs.out && s1.mtc.motion == .settling && s2.mtc.motion == .settling && s2.bothInBand &&
    !s2.mtc.skewHold && s2.mtc.settleCount == 24

/-- The 25th consecutive in-band sample of SETTLING (R148; log 2). -/
def execSettleCountFull (l r : EncoderRead) (s : State) : Host.Outcome State Fault Refusal :=
  .next (if s.fillsSettleCount l r then sample l r s else s)

end Sys2Proof.Machine
end

