-- ==== Sys2Proof/Machine/Start.lean ====
section
/-! DEFINITION. The three resets (R198) with the reset state of every block (R18, R36, R64, R83, R100,
R122, R137, R164, R180, R199, R208), the store cut short (R195), and the start (R190, R26, R115, R121,
R131, R179), in the order of log 7. -/

namespace Sys2Proof.Machine

/-- The kinds of reset (R198). -/
inductive ResetKind
  | powerOn
  | pin
  | restart
  deriving DecidableEq, Repr

/-! ## What a reset leaves -/

/-- The reset-cause set after a reset (R198). -/
def resetCauseAfter (k : ResetKind) (c : BitVec 3) : BitVec 3 :=
  match k with
  | .powerOn => 0b001
  | .pin => c ||| 0b010
  | .restart => c ||| 0b100

/-- ACT after a reset (R208): a RESTART keeps the counters but for their last conditions. -/
def actAfter (k : ResetKind) (a : Act) : Act :=
  match k with
  | .powerOn => actReset
  | .pin => actReset
  | .restart =>
    { actReset with
      counters := a.counters.map fun c => { c with last := false }
      freezeOnFull := a.freezeOnFull, frozen := a.frozen }

/-- The fault record after a reset (R180). -/
def recordAfter (k : ResetKind) (r : Option FaultRecord) : Option FaultRecord :=
  match k with
  | .powerOn => none
  | .pin => none
  | .restart => r

/-- The words that a store writes: image words 0 to 51 and their check word (R194). -/
def storeWords (image : Words) : Words := image.take 52 ++ [checkWord image]

/-- Whether word k of the n-th store cut between its steps 1 and 4 had been written: the words of step 2 are
free (log 8), and step 3 writes the check word, word 52, only after all of them (R194, R195). -/
def cutWrote (n k : Nat) : Bool :=
  Config.cutWritten n k && (k != 52 || (List.range 52).all (Config.cutWritten n))

/-- CFS's store and write mark when a reset finds a store in progress (R195): how far the store has come
is a free value (log 8). -/
def cutStore (n : Nat) (c : Cfs) : Words × Bool :=
  if c.storeBusy then
    let new := storeWords (c.image.getD [])
    match Config.cutStage n with
    | .beforeMark => (c.store, c.writeMark)
    | .marked =>
      ((List.range 53).map fun k =>
        if cutWrote n k then new.getD k 0 else c.store.getD k 0, true)
    | .complete => (new, false)
  else (c.store, c.writeMark)

/-- CFS after a reset, with the working copy loaded and checked (R190, R199). -/
def cfsAfter (store : Words) (mark : Bool) : Cfs :=
  { store := store, writeMark := mark, working := store,
    out := startReportOf mark store != .passed, startReport := startReportOf mark store,
    imageReport := .passed, image := none, storeBusy := false }

/-- The first and last bay of the table that a start builds (R19, R37). -/
def tableBays (c : Cfs) : Nat × Nat :=
  if c.out then (1, 32) else (Param.bayFirst c.working, Param.bayLast c.working)

/-- Every block in its reset state, the working copy loaded and the check made. The pins, the queue and
the free-value counter are not the part's to reset (log 6, log 8). -/
def blocksReset (k : ResetKind) (s : State) : State :=
  let (store, mark) := cutStore s.freeCount s.cfs
  let c := cfsAfter store mark
  { lif := lifReset,
    ptb := { entries := entriesReset (tableBays c).1 (tableBays c).2, listen := none },
    clu := cluReset,
    shu := shuReset,
    osl := oslReset (if c.out then .out else .starting),
    stm := stmReset,
    mtc := mtcReset,
    fmn := fmnReset (recordAfter k s.fmn.record),
    lpt := lptReset (resetCauseAfter k s.lpt.resetCause) s.lpt.transaction.afterReset,
    cfs := c,
    act := actAfter k s.act,
    pins := s.pins,
    freeCount := if s.cfs.storeBusy then s.freeCount + 1 else s.freeCount,
    pending := s.pending }

/-! ## The start -/

/-- FMN evaluates HOLD_IN and the supply sense at start (R179). -/
def startConditions (s : State) : State :=
  let s1 := if s.pins.holdIn then takeHold s else s
  if s1.pins.supplyGood then s1 else takeSupplyLow s1

/-- STM's part of the start: the settle timer runs, and SURGE_IN is tested (R115, R121, R123). -/
def startStage (s : State) : State :=
  let s1 := s.setStm { s.stm with settle := some s.peerTimeout }
  if s1.pins.surgeIn && !s1.cfs.out then raiseEpoch s1 else s1

/-- The start of a station that passed its check, in the order of log 7: FMN, PTB, STM, the first servo
sample (R131), LIF. -/
def startPassed (l r : EncoderRead) (s : State) : State :=
  startStatuses (sample l r (startStage (listenStart (startConditions s))))

/-- The start of a station in OUT: FMN's conditions and the settle timer (R123, R181). -/
def startOut (s : State) : State := startStage (startConditions s)

/-- A reset and its start. -/
def reset (k : ResetKind) (l r : EncoderRead) (s : State) : State :=
  let s1 := blocksReset k s
  if s1.cfs.out then startOut s1 else startPassed l r s1

/-- A power-on reset (R198). -/
def execPowerOnReset (l r : EncoderRead) (s : State) : Host.Outcome State Fault Refusal :=
  .next (reset .powerOn l r s)

/-- A pin reset (R198). -/
def execPinReset (l r : EncoderRead) (s : State) : Host.Outcome State Fault Refusal :=
  .next (reset .pin l r s)

end Sys2Proof.Machine
end

