-- ==== Sys2Proof/Machine/Port.lean ====
section
/-! DEFINITION. The local port (10_local_port_configuration_and_start.md): the register window as a
function of the state (10.2, R182 to R184), the table window and its captures (R185, R186), the
register writes, and the transaction bit by bit (R182, R183, R199). -/

namespace Sys2Proof.Machine

/-! ## Codes of the window (10.2, R185) -/

def Motion.code : Motion → Nat
  | .stopped => 0
  | .priming => 1
  | .running => 2
  | .stopping => 3
  | .settling => 4
  | .holding => 5
  | .faultStop => 6
  | .trim => 7

def LineState.code : LineState → Nat
  | .on => 0
  | .off => 1
  | .rejoining => 2

def ClaimState.code : ClaimState → Nat
  | .still => 0
  | .asking => 1
  | .pending => 2
  | .granted => 3

def Slot.code : Slot → Nat
  | .surge => 0
  | .tidal => 1
  | .localOrder => 2
  | .weir => 3
  | .rest => 4

def Answer.code : Answer → Nat
  | .none => 0
  | .inProgress => 1
  | .done => 2
  | .refusedState => 3
  | .refusedRange => 4
  | .refusedCausePersists => 5
  | .refusedBusy => 6

def Presence.code : Presence → Nat
  | .neverHeard => 0
  | .live => 1
  | .lapsed => 2
  | .declared => 3

def Origin.code : Origin → Nat
  | .line => 0
  | .selfJudged => 1

def Source.code : Source → Nat
  | .own => 0
  | .borrowed _ => 1
  | .unavailable => 2

/-- The borrow record (R105). -/
def Source.borrowRecord : Source → Option Nat
  | .borrowed k => some k
  | .own => none
  | .unavailable => none

def Phase.code : Phase → Nat
  | .settle => 0
  | .release => 1
  | .move => 2

def Movement.code : Movement → Nat
  | .stride => 0
  | .closure => 1

def Direction.code : Direction → Nat
  | .raise => 0
  | .lower => 1

def Speed.code : Speed → Nat
  | .normal => 0
  | .fast => 1

/-- The stop kinds none, TARGET and ABANDON, by their place in the list of 8.1. -/
def stopKindCode : Option StopKind → Nat
  | none => 0
  | some .target => 1
  | some .abandon => 2

def LastRead.code : LastRead → Nat
  | .valid => 0
  | .invalid => 1
  | .none => 2

def hoistCode : Hoist → Nat
  | .left => 0
  | .right => 1

/-! ## Words -/

/-- A number as one word. -/
def word (n : Nat) : Word := BitVec.ofNat 16 n

/-- A signed number as one word. -/
def wordOfInt (x : Int) : Word := BitVec.ofInt 16 x

/-- A bit as one word. -/
def wordBit (b : Bool) : Word := word (bit b)

/-- An unsigned field, FFFFh while absent (R185). -/
def wordOpt (x : Option Nat) : Word := (x.map word).getD 0xFFFF

/-- A signed field, 8000h while absent (R185). -/
def wordSigned (x : Option Int) : Word := (x.map wordOfInt).getD 0x8000

/-- The high word of a 32-bit field (R185). -/
def wordHigh (x : Option Nat) : Word := wordOpt (x.map fun n => n / 65536)

/-- The low word of a 32-bit field (R185). -/
def wordLow (x : Option Nat) : Word := wordOpt (x.map fun n => n % 65536)

/-- A group of flags, the first at bit 0 (R185). -/
def flagWord (l : List Bool) : Word := word (l.foldr (fun b n => bit b + 2 * n) 0)

/-! ## The register window (10.2) -/

/-- SUMMARY_A. -/
def State.summaryA (s : State) : Word :=
  word (s.osl.service.code * 4096 + s.mtc.motion.code * 512 + s.lif.line.code * 128 +
    s.osl.selected.code * 16 + s.stm.epoch % 16)

/-- SUMMARY_B. -/
def State.summaryB (s : State) : Word :=
  word (s.stm.tidal.code * 16384 + bit s.fmn.hold * 8192 + bit s.fmn.supplyLow * 4096 +
    bit s.fmn.lineOff * 2048 + bit s.commissioning * 1024 + bit s.cfs.storeBusy * 512 +
    bit s.stm.settled * 256 + bit s.fmn.faultLine * 128 + bit s.positionKnown * 64 +
    bit s.staggerBlocked * 32 + s.clu.state.code * 8 + s.osl.floor % 8)

/-- RESULT. -/
def Lpt.result (l : Lpt) : Word :=
  word (l.resultCode.toNat * 256 + bit l.clamped * 128 + l.answer.code)

/-- TABLE_SELECT as read. -/
def Lpt.tableSelectWord (l : Lpt) : Word := word (bit l.captureValid * 32768 + l.tableSelect.toNat)

/-- The word that a read of a register samples (R182, R183). COMMAND is write only, and what a read of
it gives is not stated (log 9). -/
def State.readRegister (s : State) (addr : BitVec 7) : Word :=
  let a := addr.toNat
  if 0x10 ≤ a ∧ a ≤ 0x1F then s.lpt.data.getD (a - 0x10) 0
  else match a with
    | 0x00 => 0x3B41
    | 0x01 => s.summaryA
    | 0x02 => s.summaryB
    | 0x03 => s.act.causes.setWidth 16
    | 0x04 => s.act.mask.setWidth 16
    | 0x05 => s.lpt.resetCause.setWidth 16
    | 0x06 => s.cfs.startReport.toWord
    | 0x07 => s.cfs.imageReport.toWord
    | 0x08 => Config.unstatedWord .commandRead
    | 0x09 => s.lpt.operand0
    | 0x0A => s.lpt.operand1
    | 0x0B => s.lpt.result
    | 0x0C => s.lpt.tableSelectWord
    | 0x0D => s.lpt.tableIndex.setWidth 16
    | _ => 0

/-! ## The tables (R185) -/

/-- PEER, index b. -/
def Entry.captured (e : Entry) : List Word :=
  [word e.presence.code, word e.age, word e.service.code, wordOpt e.opening,
   wordOpt (e.committed.map fun c => c.lo), wordOpt (e.committed.map fun c => c.hi),
   word e.lastNumber, word e.lastOutcome.code, flagWord [e.fresh, e.moving, e.degraded],
   wordSigned e.up, wordSigned e.down, word e.weight, word e.tidal.code, word e.epoch,
   wordOpt (e.bound.map fun c => c.lo), wordOpt (e.bound.map fun c => c.hi)]

/-- PEER, index 32 + b, of a neighbour. -/
def Entry.capturedNeighbour (e : Entry) : List Word :=
  let savedBound := e.saved.bind fun x => x.bound
  [wordOpt (e.saved.map fun x => x.presence.code), wordOpt (savedBound.map fun c => c.lo),
   wordOpt (savedBound.map fun c => c.hi), wordOpt (e.judged.map fun j => j.number),
   wordOpt (e.judged.map fun j => j.verdict.code), wordBit e.saved.isSome, wordBit e.mark]

/-- The PEER table; in OUT it holds no neighbour entries (R37, R186). -/
def State.capturePeer (s : State) (i : Nat) : Option (List Word) :=
  if i ≤ 32 then (s.entry i).map Entry.captured
  else if s.isNeighbour (i - 32) then (s.entry (i - 32)).map Entry.capturedNeighbour
  else none

/-- The level of a slot as the SLOTS table shows it: in OUT the default (R85, R190); the level of REST is
not stated (log 9). -/
def State.levelWord (s : State) (k : Slot) : Word :=
  if k = .rest then Config.unstatedWord .restLevel else word (slotLevel s.levels k)

/-- SLOTS, index 0 to 4: pending, target and level; REST is always pending (R85). -/
def State.captureSlot (s : State) (k : Slot) : List Word :=
  [wordBit (k == .rest || (s.osl.target k).isSome), wordOpt (s.osl.target k), s.levelWord k]

/-- The SLOTS table. -/
def State.captureSlots (s : State) (i : Nat) : Option (List Word) :=
  match i with
  | 0 => some (s.captureSlot .surge)
  | 1 => some (s.captureSlot .tidal)
  | 2 => some (s.captureSlot .localOrder)
  | 3 => some (s.captureSlot .weir)
  | 4 => some (s.captureSlot .rest)
  | 5 => some [word s.osl.floor, word s.osl.selected.code, word s.osl.service.code,
      wordOpt s.osl.restTarget]
  | _ => none

/-- ORDER, index 1: the share record (R79, R82). -/
def Shu.capturedShare (h : Shu) : List Word :=
  [wordOpt h.share.own, wordHigh (some h.share.remainder), wordLow (some h.share.remainder),
   word h.share.members, word h.share.capped, wordHigh (some h.share.excess),
   wordLow (some h.share.excess), wordBit h.share.exceeds, wordOpt h.lastHanded]

/-- ORDER, index 1 + b: one row of the input record (R75; log 15). -/
def InputRow.captured (x : InputRow) : List Word :=
  [wordBit x.member, wordOpt x.weight, wordOpt x.opening]

/-- The ORDER table. -/
def State.captureOrder (s : State) (i : Nat) : Option (List Word) :=
  let o := s.shu.order
  match i with
  | 0 => some [wordBit o.isSome, wordOpt (o.map fun x => x.stamp),
      wordHigh (o.map fun x => x.aggregate), wordLow (o.map fun x => x.aggregate),
      wordOpt (o.map fun x => x.origin)]
  | 1 => some s.shu.capturedShare
  | b + 2 => (s.shu.inputs.find? fun x => x.bay == b + 1).map InputRow.captured

/-- The committed range as the CLAIM table shows it. In OUT the opening is unknown, so the range is
[0, OPEN_MAX] (R38, R133, R138), and no block has an OPEN_MAX to use (R190; log 9). -/
def State.committedWords (s : State) : List Word :=
  if s.cfs.out then [0, Config.unstatedWord .outOpenMax]
  else [word s.committed.lo, word s.committed.hi]

/-- One side's verdict and origin. -/
def sideWords (v : Option SideVerdict) : List Word :=
  [wordOpt (v.map fun x => x.verdict.code), wordOpt (v.map fun x => x.origin.code)]

/-- CLAIM, index 0. -/
def State.capturedClaim (s : State) : List Word :=
  let c := s.clu
  [word c.number, wordOpt c.start, wordOpt c.stop, word c.state.code] ++ sideWords c.below ++
    sideWords c.above ++
    [(c.required.map fun r => flagWord [r.below, r.above]).getD 0xFFFF, word c.lastNumber,
     word c.lastOutcome.code, wordBit c.fresh, wordBit c.backoff.isSome] ++ s.committedWords

/-- FAULT, index 0 (R169). -/
def State.capturedFault (s : State) : List Word :=
  let r := s.fmn.record
  [word s.fmn.causes.toNat, wordBit r.isSome, wordOpt (r.map fun x => x.first.code),
   wordOpt (r.map fun x => x.recorded.toNat), wordOpt (r.bind fun x => x.opening),
   wordOpt (r.bind fun x => x.left), wordOpt (r.bind fun x => x.right),
   wordOpt (r.map fun x => x.number), wordOpt (r.map fun x => x.motion.code)]

/-- STAGE, index 0 and 1, but for the surge run (R103, R105). -/
def channelWords (ring : List Sample) (src : Source) : List Word :=
  [wordBit (ringValid ring), wordSigned (ringMean ring), word (acceptedStages ring).length,
   word src.code, wordOpt src.borrowRecord]

/-- One slot of a ring, absent while empty; what the mark "rejected" reads as is not stated (log 9). -/
def ringWord : Option Sample → Word
  | none => 0x8000
  | some (.accepted x) => wordOfInt x
  | some .rejected => Config.unstatedWord .rejectedSample

/-- Sixteen slots of a ring from slot `first` on, oldest first. -/
def ringWords (ring : List Sample) (first : Nat) : List Word :=
  (List.range 16).map fun k => ringWord (ring[first + k]?)

/-- The STAGE table. -/
def State.captureStage (s : State) (i : Nat) : Option (List Word) :=
  let m := s.stm
  match i with
  | 0 => some (channelWords m.ringU m.sourceU)
  | 1 => some (channelWords m.ringD m.sourceD ++ [word m.surgeRun])
  | 2 => some [word m.tidal.code, word m.confirmRun, word m.epoch, wordBit m.settled]
  | 3 => some (ringWords m.ringU 0)
  | 4 => some (ringWords m.ringU 16)
  | 5 => some (ringWords m.ringD 0)
  | 6 => some (ringWords m.ringD 16)
  | _ => none

/-- MOTION, index 0 (8.1). -/
def Mtc.capturedRecord (m : Mtc) : List Word :=
  [word m.motion.code, wordOpt (m.phase.map Phase.code), wordOpt (m.movement.map Movement.code),
   wordHigh m.setpoint, wordLow m.setpoint, word m.v, wordHigh m.goal, wordLow m.goal,
   wordOpt (m.direction.map Direction.code), wordOpt (m.speed.map Speed.code),
   wordOpt (m.limits.map fun x => x.lo), wordOpt (m.limits.map fun x => x.hi),
   word (stopKindCode m.stopKind), wordBit m.closureRequest, wordBit m.skewHold,
   word m.settleCount]

/-- The limit of a trim record; R159 lets a lowering limit lie below stroke 0, and the spec gives such a
limit no word, so it reads as a free value. DESIGN CHOICE (log 43). -/
def trimLimitWord (x : Int) : Word :=
  if x < 0 then Config.unstatedWord .trimLimitBelowZero else word x.toNat

/-- MOTION, index 1: the outputs, the stall runs and the trim record. -/
def Mtc.capturedOutputs (m : Mtc) : List Word :=
  [wordOfInt m.driveL, wordOfInt m.driveR, wordBit m.pump, wordBit m.valve, word m.stallL.run,
   word m.stallR.run, wordOpt (m.trim.map fun t => hoistCode t.hoist),
   wordOpt (m.trim.map fun t => t.start), (m.trim.map fun t => trimLimitWord t.limit).getD 0xFFFF]

/-- A channel record (7.4). -/
def Channel.captured (c : Channel) : List Word :=
  [wordOpt c.value, word c.invalidRun, word c.lastRead.code]

/-- The MOTION table (R136, R163). -/
def State.captureMotion (s : State) (i : Nat) : Option (List Word) :=
  match i with
  | 0 => some s.mtc.capturedRecord
  | 1 => some s.mtc.capturedOutputs
  | 2 => some (s.mtc.left.captured ++ s.mtc.right.captured ++
      [wordOpt s.mtc.gateStroke, wordOpt s.opening, wordBit s.positionKnown])
  | _ => none

/-- COUNTERS (R205). -/
def Act.capturedCounter (a : Act) (c : Counter) : List Word :=
  [wordHigh (some c.value), wordLow (some c.value),
   word ((c.selected.map CountedEvent.code).getD 0), word c.threshold,
   flagWord [c.invert, c.edge, c.last, c.half, c.full], flagWord [a.freezeOnFull, a.frozen]]

/-- Counter n of the four (R200). -/
def Counters.get (k : Counters) (n : Nat) : Option Counter :=
  match n with
  | 0 => some k.c0
  | 1 => some k.c1
  | 2 => some k.c2
  | 3 => some k.c3
  | _ => none

/-- WORKING and IMAGE: sixteen words of a configuration. -/
def captureWords (w : Words) (i : Nat) : Option (List Word) :=
  if i ≤ 3 then some ((w.drop (16 * i)).take 16) else none

/-- The captured entry of a table, none where the table has no entry at the index (R185, R186). -/
def State.captureEntry (s : State) (table i : Nat) : Option (List Word) :=
  match table with
  | 0 => s.capturePeer i
  | 1 => s.captureSlots i
  | 2 => s.captureOrder i
  | 3 => if i = 0 then some s.capturedClaim else none
  | 4 => if i = 0 then some s.capturedFault else none
  | 5 => s.captureStage i
  | 6 => s.captureMotion i
  | 7 => (s.act.counters.get i).map s.act.capturedCounter
  | 8 => captureWords s.cfs.working i
  | 9 => s.cfs.image.bind fun w => captureWords w i
  | _ => none

/-- The sixteen data words of an entry: those after its last field are 0 (R185). -/
def dataWords (l : List Word) : List Word := (l ++ List.replicate 16 0).take 16

/-! ## Register writes -/

/-- A write of ATTN_CAUSE clears the causes whose bits are 1, and ATTN is evaluated (R184, R207). -/
def execAttnCauseWrite (w : Word) (s : State) : Host.Outcome State Fault Refusal :=
  let c := s.act.causes &&& ~~~(w.setWidth 10)
  .next (s.setAct { s.act with causes := c, attn := attnOf c s.act.mask })

/-- A write of ATTN_MASK (R207). -/
def execAttnMaskWrite (w : Word) (s : State) : Host.Outcome State Fault Refusal :=
  let m := w.setWidth 10
  .next (s.setAct { s.act with mask := m, attn := attnOf s.act.causes m })

/-- A write of RESET_CAUSE removes the causes whose bits are 1 (R184, R198). -/
def execResetCauseWrite (w : Word) (s : State) : Host.Outcome State Fault Refusal :=
  .next (s.setLpt { s.lpt with resetCause := s.lpt.resetCause &&& ~~~(w.setWidth 3) })

/-- A write of TABLE_SELECT clears the capture and the data words (R186). -/
def execTableSelectWrite (w : Word) (s : State) : Host.Outcome State Fault Refusal :=
  .next (s.setLpt { s.lpt with
    tableSelect := w.setWidth 4, captureValid := false, data := List.replicate 16 0 })

/-- A write of TABLE_INDEX captures the selected entry (R186). -/
def execTableIndexWrite (w : Word) (s : State) : Host.Outcome State Fault Refusal :=
  let i : Byte := w.setWidth 8
  let l : Lpt := { s.lpt with tableIndex := i }
  .next (s.setLpt (match s.captureEntry s.lpt.tableSelect.toNat i.toNat with
    | some x => { l with captureValid := true, data := dataWords x }
    | none => { l with captureValid := false, data := List.replicate 16 0 }))

/-- A write of any other register: OPERAND0 and OPERAND1 take the word, a write elsewhere is ignored
(R182; log 31 for the addresses that have a row of their own). -/
def execRegisterWrite (addr : BitVec 7) (w : Word) (s : State) :
    Host.Outcome State Fault Refusal :=
  .next (if addr = 0x09 then s.setLpt { s.lpt with operand0 := w }
    else if addr = 0x0A then s.setLpt { s.lpt with operand1 := w }
    else s)

/-! ## The transaction, bit by bit

The opcode table has no row for the edges of LP_CS_N and LP_SCK. They are functions that the outside
applies to the state between its steps; a completed write joins the queue as its command (log 29). -/

/-- A word's bits, the most significant first (R182). -/
def wordBits (w : Word) : List Bool := (List.range 16).map fun i => w.getMsbD i

/-- The state with its transaction replaced. -/
def State.setTransaction (s : State) (t : Transaction) : State :=
  s.setLpt { s.lpt with transaction := t }

/-- LP_CS_N goes low: a transaction begins (R182). -/
def State.portSelect (s : State) : State :=
  if s.lpt.transaction = .idle then s.setTransaction (.header []) else s

/-- LP_CS_N goes high: the transaction ends, and a word cut short is not written (R182). -/
def State.portRelease (s : State) : State := s.setTransaction .idle

/-- The transaction after the next header bit: bit 7 of the header is 1 for a read, bits 6 to 0 are the
address (R182). -/
def headerStep (bits : List Bool) : Transaction :=
  if bits.length < 8 then .header bits
  else
    let addr := BitVec.ofNat 7 (bitsToNat (bits.drop 1))
    if bits.headD false then .read addr [] else .write addr []

/-- One bit of the transaction: what LP_SDO shifts out, and the state. A write's word takes effect at its
sixteenth bit: its command joins the queue (R182). A read's word is sampled at its first bit (R183). A write
shifts out zeros, and so does a transaction that a reset has ended (R199); none where the spec gives LP_SDO
no level, outside a transaction and within its header. `l` and `r` are the encoder answers that a RESTART
would find at its start. -/
def State.portClock (sdi : Bool) (l r : EncoderRead) (s : State) : Option Bool × State :=
  match s.lpt.transaction with
  | .idle => (none, s)
  | .ended => (some false, s)
  | .header bits => (none, s.setTransaction (headerStep (bits ++ [sdi])))
  | .write addr bits =>
    let got := bits ++ [sdi]
    (some false,
      if got.length < 16 then s.setTransaction (.write addr got)
      else
        let s1 := s.setTransaction (.write (nextAddr addr) [])
        s1.setPending (s1.pending ++ [instrOfWrite addr (BitVec.ofNat 16 (bitsToNat got)) l r]))
  | .read addr (b :: rest) => (some b, s.setTransaction (.read addr rest))
  | .read addr [] =>
    let bits := wordBits (s.readRegister addr)
    (bits.head?, s.setTransaction (.read (nextAddr addr) bits.tail))

/-- The words that a read of n words from an address shifts out of an unchanging state (R182, R183). -/
def State.readWords (s : State) (addr : BitVec 7) : Nat → List Word
  | 0 => []
  | n + 1 => s.readRegister addr :: s.readWords (nextAddr addr) n

/-! ## The coil duties -/

/-- The duty of a raising coil, in per mille (00_scope.md, Pins). -/
def raiseDuty (drive : Int) : Nat := if 0 < drive then drive.natAbs else 0

/-- The duty of a lowering coil, in per mille (00_scope.md, Pins). -/
def lowerDuty (drive : Int) : Nat := if drive < 0 then drive.natAbs else 0

end Sys2Proof.Machine
end

