-- ==== Sys2Proof/Machine/Stage.lean ====
section
/-! DEFINITION. The stage sample (06_stage_tide_and_surge.md): the scaling (R102), the rings (R103, R104),
the surge run (R114), the head and the tidal state (R108 to R111), and the rows that name a stage
sample by what comes about in it (log 2). -/

namespace Sys2Proof.Machine

/-- The low limit of a channel's codes (R102). -/
def Scaling.low (c : Scaling) : Int := c.raw4 - ((c.raw20 : Int) - c.raw4) / 40

/-- The high limit of a channel's codes (R102). -/
def Scaling.high (c : Scaling) : Int := c.raw20 + ((c.raw20 : Int) - c.raw4) / 16

/-- A value clamped to [-10000, +20000] (R102). -/
def clampStage (x : Int) : Int := max (-10000) (min 20000 x)

/-- The ring entry of a raw code (R102). -/
def Scaling.sampleOf (c : Scaling) (raw : BitVec 12) : Sample :=
  let x : Int := (raw.toNat : Nat)
  if x < c.low ∨ c.high < x then .rejected
  else .accepted (clampStage
    (c.st4 + (x - c.raw4) * (c.st20 - c.st4) / ((c.raw20 : Int) - c.raw4)))

/-- A ring after a write: the last 32 samples taken (R103). -/
def pushSample (ring : List Sample) (x : Sample) : List Sample :=
  let r := ring ++ [x]
  r.drop (r.length - 32)

/-- A rejected sample is counted (R102). -/
def countSample (x : Sample) (s : State) : State :=
  if x = .rejected then countEvent .stageRejected s else s

/-- Both rings are written, and rejected samples counted (R102, R103). -/
def writeRings (u d : BitVec 12) (s : State) : State :=
  let xu := (Param.scalingU s.cfs.working).sampleOf u
  let xd := (Param.scalingD s.cfs.working).sampleOf d
  countSample xd (countSample xu (s.setStm { s.stm with
    ringU := pushSample s.stm.ringU xu, ringD := pushSample s.stm.ringD xd }))

/-- The surge run after a sample's ring write (R114). -/
def Stm.nextRun (w : Words) (m : Stm) : Nat :=
  match ringMean m.ringD with
  | none => m.surgeRun
  | some x => if Param.surgeLevel w ≤ x then min (Param.nSurge w) (m.surgeRun + 1) else 0

/-- The surge run is updated, and the epoch raised if the stage condition holds (R112, R114). -/
def surgeStep (s : State) : State :=
  let s1 := s.setStm { s.stm with surgeRun := s.stm.nextRun s.cfs.working }
  if s1.stageCondition then raiseEpoch s1 else s1

/-- The head, while both channels have a source (R108). -/
def State.head (s : State) : Option Int :=
  match s.channelValue s.stm.sourceU s.stm.ringU (fun e => e.up),
      s.channelValue s.stm.sourceD s.stm.ringD (fun e => e.down) with
  | some u, some d => some (u - d)
  | _, _ => none

/-- The tidal state becomes t, with the effects of R111. -/
def changeTide (t : Tidal) (s : State) : State :=
  let s1 := setAttention .tideChange (s.setStm { s.stm with tidal := t, confirmRun := 0 })
  setTidalSlot (t == .flood) s1

/-- A head sample points to the other state (R110). -/
def pointsAway (w : Words) (t : Tidal) (head : Int) : Bool :=
  match t with
  | .ebb => decide (head ≤ -(Param.hFlood w : Int))
  | .flood => decide ((Param.hEbb w : Int) ≤ head)
  | .unknown => false

/-- The tidal rules at a head sample (R109, R110). -/
def tidalRules (head : Int) (s : State) : State :=
  let w := s.cfs.working
  match s.stm.tidal with
  | .unknown => changeTide (if 0 ≤ head then .ebb else .flood) s
  | t =>
    if pointsAway w t head then
      if Param.nConfirm w ≤ s.stm.confirmRun + 1 then
        changeTide (if t = .ebb then .flood else .ebb) s
      else s.setStm { s.stm with confirmRun := s.stm.confirmRun + 1 }
    else s.setStm { s.stm with confirmRun := 0 }

/-- The tidal rules are applied where the head is available (R108). -/
def tidalStep (s : State) : State :=
  match s.head with
  | some h => tidalRules h s
  | none => s

/-- STM chooses its sources again when a channel's own validity has changed (R104). -/
def validityStep (before : Stm) (s : State) : State :=
  if ringValid s.stm.ringU != ringValid before.ringU || ringValid s.stm.ringD != ringValid before.ringD
  then chooseSources s else s

/-- One stage sample (R102); in OUT none is taken (R123). -/
def stageSample (u d : BitVec 12) (s : State) : State :=
  if s.cfs.out then s
  else tidalStep (surgeStep (validityStep s.stm (writeRings u d s)))

/-- A stage sample (R102). -/
def execStageSample (u d : BitVec 12) (s : State) : Host.Outcome State Fault Refusal :=
  .next (stageSample u d s)

/-- The stage sample at which the confirm run reaches N_CONFIRM and the tidal state changes (R110); the
row does not arise at another sample (log 2). -/
def execTidalStateChange (u d : BitVec 12) (s : State) : Host.Outcome State Fault Refusal :=
  .next (if s.stm.tidal != .unknown && (stageSample u d s).stm.tidal != s.stm.tidal then
    stageSample u d s else s)

/-- The stage sample at which the surge run reaches N_SURGE (R114; log 2). -/
def execSurgeRunComplete (u d : BitVec 12) (s : State) : Host.Outcome State Fault Refusal :=
  .next (if s.stm.surgeRun != Param.nSurge s.cfs.working &&
      (stageSample u d s).stm.surgeRun == Param.nSurge s.cfs.working then
    stageSample u d s else s)

end Sys2Proof.Machine
end

