-- ==== Sys2Proof/Machine/Commands.lean ====
section
/-! DEFINITION. The host's commands (R187): how an answer is written, and the meaning of each command of
the table of R187, with STORE_COMPLETE (R194). -/

namespace Sys2Proof.Machine

/-! ## Answers -/

/-- What the owning block gives back to LPT: the state it leaves, the answer, and the clamped mark. -/
structure Reply where
  state : State
  answer : Answer
  clamped : Bool
  deriving DecidableEq, Repr

/-- A command refused: nothing changes. -/
def refuse (a : Answer) (s : State) : Reply := { state := s, answer := a, clamped := false }

/-- A command done. -/
def done (s : State) : Reply := { state := s, answer := .done, clamped := false }

/-- LPT writes an answer into RESULT and sets COMMAND_DONE, IN_PROGRESS excepted (R187, R206). -/
def answerCommand (code : Byte) (a : Answer) (clamped : Bool) (s : State) : State :=
  let s1 := s.setLpt { s.lpt with resultCode := code, clamped := clamped, answer := a }
  if a = .inProgress then s1 else setAttention .commandDone s1

/-- COMMAND holds the written word. -/
def latchCommand (code b : Byte) (s : State) : State :=
  s.setLpt { s.lpt with command := code ++ b }

/-- A write to COMMAND: REFUSED BUSY while a store is in progress, else the owning block's answer
(R187). -/
def command (code b : Byte) (owner : State → Reply) (s : State) : State :=
  let s1 := latchCommand code b s
  if s1.cfs.storeBusy then answerCommand code .refusedBusy false s1
  else
    let r := owner s1
    answerCommand code r.answer r.clamped r.state

/-- OPERAND0 as a number. -/
def State.op0 (s : State) : Nat := s.lpt.operand0.toNat

/-- OPERAND1 as a number. -/
def State.op1 (s : State) : Nat := s.lpt.operand1.toNat

/-! ## Orders -/

/-- SET LOCAL ORDER (R88). -/
def ownSetLocal (s : State) : Reply :=
  if s.cfs.out || s.commissioning then refuse .refusedState s
  else if s.openMax < s.op0 then
    { state := setLocal s.openMax s, answer := .done, clamped := true }
  else done (setLocal s.op0 s)

/-- SET LOCAL ORDER (R88). -/
def execSetLocalOrder (b : Byte) (s : State) : Host.Outcome State Fault Refusal :=
  .next (command 0x01 b ownSetLocal s)

/-- WITHDRAW LOCAL ORDER (R89). -/
def ownWithdrawLocal (s : State) : Reply :=
  if s.cfs.out || s.commissioning || s.osl.localTarget.isNone then refuse .refusedState s
  else done (reselect (s.setOsl { s.osl with localTarget := none }))

/-- WITHDRAW LOCAL ORDER (R89). -/
def execWithdrawLocalOrder (b : Byte) (s : State) : Host.Outcome State Fault Refusal :=
  .next (command 0x02 b ownWithdrawLocal s)

/-- The stamp of an issued order (R72). -/
def State.nextStamp (s : State) : Nat :=
  match s.shu.order with
  | some o => (o.stamp + 1) % 4096
  | none => 1

/-- ISSUE WEIR ORDER (R72). -/
def ownIssue (s : State) : Reply :=
  let aggregate := 65536 * s.op0 + s.op1
  if s.cfs.out || s.commissioning then refuse .refusedState s
  else if s.lif.line = .off then refuse .refusedState s
  else
    { state := queueOrder { stamp := s.nextStamp, isRepeat := false,
                            aggregate := min aggregate 480000 } s
      answer := .done, clamped := decide (480000 < aggregate) }

/-- ISSUE WEIR ORDER (R72). -/
def execIssueWeirOrder (b : Byte) (s : State) : Host.Outcome State Fault Refusal :=
  .next (command 0x03 b ownIssue s)

/-- SET FLOOR (R91). -/
def ownSetFloor (floor : Nat) (s : State) : Reply :=
  if s.cfs.out then refuse .refusedState s
  else if 6 < floor then refuse .refusedRange s
  else done (reselect (s.setOsl { s.osl with floor := floor }))

/-- SET FLOOR (R91). -/
def execSetFloor (b : Byte) (s : State) : Host.Outcome State Fault Refusal :=
  .next (command 0x06 b (ownSetFloor b.toNat) s)

/-! ## Surge -/

/-- RAISE SURGE (R116). -/
def ownRaise (s : State) : Reply :=
  if s.cfs.out then refuse .refusedState s
  else if !s.stm.settled then refuse .refusedState s
  else done (raiseEpoch s)

/-- RAISE SURGE (R116). -/
def execRaiseSurge (b : Byte) (s : State) : Host.Outcome State Fault Refusal :=
  .next (command 0x04 b ownRaise s)

/-- The own D mean shows the surge persisting (R117). -/
def State.surgePersists (s : State) : Bool :=
  (ringMean s.stm.ringD).any fun x =>
    decide (Param.surgeLevel s.cfs.working - Param.surgeHyst s.cfs.working ≤ x)

/-- CLEAR SURGE (R117). -/
def ownClear (s : State) : Reply :=
  if s.cfs.out then refuse .refusedState s
  else if !s.stm.settled then refuse .refusedState s
  else if !s.epochOdd then refuse .refusedState s
  else if s.lif.line = .off then refuse .refusedState s
  else if s.pins.surgeIn then refuse .refusedCausePersists s
  else if s.surgePersists then refuse .refusedCausePersists s
  else done (clearEpoch s)

/-- CLEAR SURGE (R117). -/
def execClearSurge (b : Byte) (s : State) : Host.Outcome State Fault Refusal :=
  .next (command 0x05 b ownClear s)

/-! ## Declarations -/

/-- An entry after an accepted declaration (R31). -/
def Entry.declare (x : Span) (e : Entry) : Entry :=
  { e with
    presence := .declared, bound := some x,
    saved := if e.presence = .declared then e.saved
      else some { presence := e.presence, bound := e.bound } }

/-- DECLARE BOUND (R31, R37). -/
def ownDeclare (bay : Nat) (s : State) : Reply :=
  let lo := s.op0
  let hi := s.op1
  if s.cfs.out then refuse .refusedState s
  else if !s.isNeighbour bay then refuse .refusedRange s
  else if hi < lo ∨ 15000 < hi then refuse .refusedRange s
  else match s.entry bay with
    | none => refuse .refusedRange s
    | some e =>
      if e.presence = .live then refuse .refusedState s
      else done (testClaim (s.updateEntry bay (Entry.declare { lo := lo, hi := hi })))

/-- DECLARE BOUND (R31). -/
def execDeclareBound (b : Byte) (s : State) : Host.Outcome State Fault Refusal :=
  .next (command 0x07 b (ownDeclare b.toNat) s)

/-- An entry after its declaration has been withdrawn (R32). -/
def Entry.withdraw (x : Saved) (e : Entry) : Entry :=
  { e with presence := x.presence, bound := x.bound, saved := none }

/-- WITHDRAW DECLARATION (R32, R37). -/
def ownWithdraw (bay : Nat) (s : State) : Reply :=
  if s.cfs.out then refuse .refusedState s
  else if !s.isNeighbour bay then refuse .refusedRange s
  else match (s.entry bay).bind fun e => e.saved with
    | none => refuse .refusedState s
    | some x =>
      let s1 := s.updateEntry bay (Entry.withdraw x)
      let s2 := if s1.ptb.listen.isNone && x.bound.isNone then
        setAttention .neighbourUnknown s1 else s1
      done (testClaim s2)

/-- WITHDRAW DECLARATION (R32). -/
def execWithdrawDeclaration (b : Byte) (s : State) : Host.Outcome State Fault Refusal :=
  .next (command 0x08 b (ownWithdraw b.toNat) s)

/-! ## Faults and trim -/

/-- FAULT RESET (R171). -/
def ownFaultReset (s : State) : Reply :=
  if s.cfs.out then refuse .refusedState s
  else if s.fmn.causes.isEmpty then refuse .refusedState s
  else if s.anyPersists then refuse .refusedCausePersists s
  else done (clearFaults s)

/-- FAULT RESET (R171). -/
def execFaultReset (b : Byte) (s : State) : Host.Outcome State Fault Refusal :=
  .next (command 0x09 b ownFaultReset s)

/-- The hoist that TRIM's byte operand names (R159, R187). -/
def trimHoist (b : Byte) : Option Hoist :=
  if b = 0 then some .left else if b = 1 then some .right else none

/-- The trim record of R159, from the named hoist's stroke and the other's. -/
def trimRecord (w : Words) (h : Hoist) (stroke other : Nat) : Trim :=
  let half : Int := (Param.skewTrip w / 2 : Nat)
  { hoist := h, start := stroke,
    limit := if other < stroke then (stroke : Int) - half else (stroke : Int) + half,
    setpoint := none }

/-- TRIM begins: phase SETTLE, the pump on, the PUMP_SETTLE timer running (R159). -/
def beginTrim (t : Trim) (s : State) : State :=
  setMotion { s.mtc.enter .trim (some .settle) with
    trim := some t, pumpSettle := some (Param.pumpSettle s.cfs.working) } s

/-- TRIM (R159). -/
def ownTrim (b : Byte) (s : State) : Reply :=
  let w := s.cfs.working
  if s.cfs.out || s.commissioning then refuse .refusedState s
  else match trimHoist b with
    | none => refuse .refusedRange s
    | some h =>
      if s.fmn.causes != onlySkewTrip then refuse .refusedState s
      else if s.mtc.motion != .faultStop then refuse .refusedState s
      else if s.fmn.hold || s.fmn.supplyLow then refuse .refusedState s
      else match s.mtc.left.value, s.mtc.right.value with
        | some l, some r =>
          if s.mtc.skewReleased w then refuse .refusedState s
          else done (beginTrim (match h with
            | .left => trimRecord w .left l r
            | .right => trimRecord w .right r l) s)
        | _, _ => refuse .refusedState s

/-- TRIM (R159). -/
def execTrim (b : Byte) (s : State) : Host.Outcome State Fault Refusal :=
  .next (command 0x0A b (ownTrim b) s)

/-! ## COUNTER CONTROL -/

/-- The byte operand of COUNTER CONTROL: the action over the low four bits (R205). -/
def counterByte (action : BitVec 4) (n : BitVec 4) : Byte := action ++ n

/-- The counter number, bits 2 to 0 of the byte operand (R205). -/
def counterNumber (n : BitVec 4) : Nat := n.toNat % 8

/-- Counter n changed. -/
def Counters.update (k : Counters) (n : Nat) (f : Counter → Counter) : Counters :=
  match n with
  | 0 => { k with c0 := f k.c0 }
  | 1 => { k with c1 := f k.c1 }
  | 2 => { k with c2 := f k.c2 }
  | 3 => { k with c3 := f k.c3 }
  | _ => k

/-- A counter after SELECT with the operand words (R205). -/
def Counter.select (op0 op1 : Word) (c : Counter) : Counter :=
  { c with
    selected := eventOfCode (op0.toNat % 32), threshold := op1.toNat,
    invert := op0.getLsbD 8, edge := op0.getLsbD 9, last := false }

/-- A counter after RESET (R205). -/
def Counter.zero (c : Counter) : Counter := { c with value := 0, half := false, full := false }

/-- COUNTER CONTROL, SELECT (R205). -/
def ownSelect (n : Nat) (s : State) : Reply :=
  if 3 < n then refuse .refusedRange s
  else if 17 < s.op0 % 32 then refuse .refusedRange s
  else done (s.setAct { s.act with
    counters := s.act.counters.update n (Counter.select s.lpt.operand0 s.lpt.operand1) })

/-- COUNTER CONTROL, SELECT (R205). -/
def execCounterSelect (n : BitVec 4) (s : State) : Host.Outcome State Fault Refusal :=
  .next (command 0x0B (counterByte 0 n) (ownSelect (counterNumber n)) s)

/-- COUNTER CONTROL, RESET; counter number 4 resets all four (R205). -/
def ownCounterReset (n : Nat) (s : State) : Reply :=
  if 4 < n then refuse .refusedRange s
  else if n = 4 then
    done (s.setAct { s.act with counters := s.act.counters.map Counter.zero })
  else done (s.setAct { s.act with counters := s.act.counters.update n Counter.zero })

/-- COUNTER CONTROL, RESET (R205). -/
def execCounterReset (n : BitVec 4) (s : State) : Host.Outcome State Fault Refusal :=
  .next (command 0x0B (counterByte 1 n) (ownCounterReset (counterNumber n)) s)

/-- COUNTER CONTROL, RELEASE (R205). -/
def ownRelease (s : State) : Reply :=
  if s.act.frozen then done (s.setAct { s.act with frozen := false })
  else refuse .refusedState s

/-- COUNTER CONTROL, RELEASE (R205). -/
def execCounterRelease (n : BitVec 4) (s : State) : Host.Outcome State Fault Refusal :=
  .next (command 0x0B (counterByte 2 n) ownRelease s)

/-- COUNTER CONTROL, FREEZE MODE (R205). -/
def ownFreezeMode (s : State) : Reply :=
  done (s.setAct { s.act with freezeOnFull := s.lpt.operand0.getLsbD 0 })

/-- COUNTER CONTROL, FREEZE MODE (R205). -/
def execFreezeMode (n : BitVec 4) (s : State) : Host.Outcome State Fault Refusal :=
  .next (command 0x0B (counterByte 3 n) ownFreezeMode s)

/-! ## Commissioning -/

/-- The image that ENTER COMMISSIONING loads (R191). -/
def loadedImage (b : Byte) (s : State) : Words := if b = 0 then s.cfs.store else defaultWords

/-- IMAGE_REPORT at ENTER COMMISSIONING (R191): with operand 0 test 1 also requires the write mark to be
clear. -/
def enterReport (b : Byte) (s : State) : Report :=
  let w := loadedImage b s
  configReport (checkWordMatches w && (b != 0 || !s.cfs.writeMark)) w

/-- The station enters commissioning (R191, R58, R96, R157). -/
def enterCommissioning (b : Byte) (s : State) : State :=
  evalService (stopForCondition (s.setCfs { s.cfs with
    image := some (loadedImage b s), imageReport := enterReport b s }))

/-- ENTER COMMISSIONING (R191). -/
def ownEnter (b : Byte) (s : State) : Reply :=
  if s.commissioning then refuse .refusedState s
  else if b != 0 && b != 1 then refuse .refusedRange s
  else if s.cfs.out then done (enterCommissioning b s)
  else if !s.pins.holdIn then refuse .refusedState s
  else if s.mtc.motion != .stopped then refuse .refusedState s
  else done (enterCommissioning b s)

/-- ENTER COMMISSIONING (R191). -/
def execEnterCommissioning (b : Byte) (s : State) : Host.Outcome State Fault Refusal :=
  .next (command 0x10 b (ownEnter b) s)

/-- COMMISSION WRITE (R193). -/
def ownWrite (b : Byte) (s : State) : Reply :=
  match s.cfs.image with
  | none => refuse .refusedState s
  | some w =>
    let k := b.toNat
    if 51 < k then refuse .refusedRange s
    else if !wordInRange k s.lpt.operand0 then refuse .refusedRange s
    else
      let w' := w.set k s.lpt.operand0
      done (s.setCfs { s.cfs with image := some w', imageReport := configReport true w' })

/-- COMMISSION WRITE (R193). -/
def execCommissionWrite (b : Byte) (s : State) : Host.Outcome State Fault Refusal :=
  .next (command 0x11 b (ownWrite b) s)

/-- COMMISSION STORE (R194). -/
def ownStore (s : State) : Reply :=
  match s.cfs.image with
  | none => refuse .refusedState s
  | some w =>
    let report := rangeAndConstraintReport w
    if report = .passed then
      { state := s.setCfs { s.cfs with storeBusy := true }, answer := .inProgress,
        clamped := false }
    else
      { state := s.setCfs { s.cfs with imageReport := report }, answer := .refusedRange,
        clamped := false }

/-- COMMISSION STORE (R194). -/
def execCommissionStore (b : Byte) (s : State) : Host.Outcome State Fault Refusal :=
  .next (command 0x12 b ownStore s)

/-- The store is complete: its four steps have run, the store-busy bit clears, and DONE is answered
(R194). DESIGN CHOICE (log 44): the spec gives step 3 no moment, and word 52 of the image takes the check
word here, at the store's end. -/
def completeStore (s : State) : State :=
  answerCommand 0x12 .done false (s.setCfs { s.cfs with
    store := storeWords (s.cfs.image.getD []), writeMark := false,
    image := s.cfs.image.map storeWords, storeBusy := false })

/-- The store in progress completes (R194). -/
def execStoreComplete (s : State) : Host.Outcome State Fault Refusal :=
  .next (if s.cfs.storeBusy then completeStore s else s)

/-- The end of commissioning, as the blocks take it (R196). -/
def leaveCommissioning (s : State) : State :=
  testClaim (conditionEnds (evalService (s.setCfs { s.cfs with image := none })))

/-- LEAVE COMMISSIONING (R196). -/
def ownLeave (s : State) : Reply :=
  if s.commissioning then done (leaveCommissioning s) else refuse .refusedState s

/-- LEAVE COMMISSIONING (R196). -/
def execLeaveCommissioning (b : Byte) (s : State) : Host.Outcome State Fault Refusal :=
  .next (command 0x13 b ownLeave s)

/-! ## RESTART and unknown codes -/

/-- RESTART (R197): refused BUSY during a store, otherwise a reset at the moment it is taken, without
an answer. -/
def execRestart (b : Byte) (l r : EncoderRead) (s : State) : Host.Outcome State Fault Refusal :=
  .next (if s.cfs.storeBusy then answerCommand 0x1F .refusedBusy false (latchCommand 0x1F b s)
    else reset .restart l r s)

/-- A code absent from the table of R187, or an action above 3 of COUNTER CONTROL (R205): REFUSED
RANGE. A COMMAND word of the table is not this row's to answer, and changes nothing here (log 2). -/
def execUnknownCommand (code b : Byte) (s : State) : Host.Outcome State Fault Refusal :=
  .next (if isUnknownCommand code b then command code b (refuse .refusedRange) s else s)

end Sys2Proof.Machine
end

