-- ==== Sys2Proof/Machine/Dispatch.lean ====
section
/-! DEFINITION. The dispatch: one arm per command, each a direct call of its meaning. -/

namespace Sys2Proof.Machine

/-- The effect of one command on everything but the queue. -/
def exec (i : Instr) (s : State) : Host.Outcome State Fault Refusal :=
  match i with
  | .powerOnReset l r => Sys2Proof.Machine.execPowerOnReset l r s
  | .pinReset l r => Sys2Proof.Machine.execPinReset l r s
  | .servoSample l r => Sys2Proof.Machine.execServoSample l r s
  | .encoderFault h l r => Sys2Proof.Machine.execEncoderFault h l r s
  | .stallWindowEnd h l r => Sys2Proof.Machine.execStallWindowEnd h l r s
  | .settleCountFull l r => Sys2Proof.Machine.execSettleCountFull l r s
  | .stageSample u d => Sys2Proof.Machine.execStageSample u d s
  | .tidalStateChange u d => Sys2Proof.Machine.execTidalStateChange u d s
  | .surgeRunComplete u d => Sys2Proof.Machine.execSurgeRunComplete u d s
  | .surgeInActive => Sys2Proof.Machine.execSurgeInActive s
  | .holdTaken => Sys2Proof.Machine.execHoldTaken s
  | .holdReleased => Sys2Proof.Machine.execHoldReleased s
  | .supplyGoesLow => Sys2Proof.Machine.execSupplyGoesLow s
  | .supplyGoesGood => Sys2Proof.Machine.execSupplyGoesGood s
  | .goodTimer => Sys2Proof.Machine.execGoodTimer s
  | .attemptBegin => Sys2Proof.Machine.execAttemptBegin s
  | .attemptSuccess => Sys2Proof.Machine.execAttemptSuccess s
  | .attemptLostContention winner => Sys2Proof.Machine.execAttemptLostContention winner s
  | .attemptFailure => Sys2Proof.Machine.execAttemptFailure s
  | .lineOff => Sys2Proof.Machine.execLineOff s
  | .offTimer => Sys2Proof.Machine.execOffTimer s
  | .statusAPeriod => Sys2Proof.Machine.execStatusAPeriod s
  | .statusBPeriod => Sys2Proof.Machine.execStatusBPeriod s
  | .orderRepeatTimer => Sys2Proof.Machine.execOrderRepeatTimer s
  | .frameDiscarded frame => Sys2Proof.Machine.execFrameDiscarded frame s
  | .statusAFrame bay data => Sys2Proof.Machine.execStatusAFrame bay data s
  | .statusBFrame bay data => Sys2Proof.Machine.execStatusBFrame bay data s
  | .surgeFrame bay data => Sys2Proof.Machine.execSurgeFrame bay data s
  | .verdictFrame bay data => Sys2Proof.Machine.execVerdictFrame bay data s
  | .claimFrame bay data => Sys2Proof.Machine.execClaimFrame bay data s
  | .orderFrame bay data => Sys2Proof.Machine.execOrderFrame bay data s
  | .listenTimer => Sys2Proof.Machine.execListenTimer s
  | .peerLapse bay => Sys2Proof.Machine.execPeerLapse bay s
  | .askingTimer => Sys2Proof.Machine.execAskingTimer s
  | .claimWindow => Sys2Proof.Machine.execClaimWindow s
  | .backoffTimer => Sys2Proof.Machine.execBackoffTimer s
  | .settleTimer => Sys2Proof.Machine.execSettleTimer s
  | .pumpSettle => Sys2Proof.Machine.execPumpSettle s
  | .releaseTimer => Sys2Proof.Machine.execReleaseTimer s
  | .settleTimeout => Sys2Proof.Machine.execSettleTimeout s
  | .runOn => Sys2Proof.Machine.execRunOn s
  | .trimLimitTimeout => Sys2Proof.Machine.execTrimLimitTimeout s
  | .storeComplete => Sys2Proof.Machine.execStoreComplete s
  | .attnCauseWrite w => Sys2Proof.Machine.execAttnCauseWrite w s
  | .attnMaskWrite w => Sys2Proof.Machine.execAttnMaskWrite w s
  | .resetCauseWrite w => Sys2Proof.Machine.execResetCauseWrite w s
  | .tableSelectWrite w => Sys2Proof.Machine.execTableSelectWrite w s
  | .tableIndexWrite w => Sys2Proof.Machine.execTableIndexWrite w s
  | .registerWrite addr w => Sys2Proof.Machine.execRegisterWrite addr w s
  | .setLocalOrder b => Sys2Proof.Machine.execSetLocalOrder b s
  | .withdrawLocalOrder b => Sys2Proof.Machine.execWithdrawLocalOrder b s
  | .issueWeirOrder b => Sys2Proof.Machine.execIssueWeirOrder b s
  | .raiseSurge b => Sys2Proof.Machine.execRaiseSurge b s
  | .clearSurge b => Sys2Proof.Machine.execClearSurge b s
  | .setFloor b => Sys2Proof.Machine.execSetFloor b s
  | .declareBound b => Sys2Proof.Machine.execDeclareBound b s
  | .withdrawDeclaration b => Sys2Proof.Machine.execWithdrawDeclaration b s
  | .faultReset b => Sys2Proof.Machine.execFaultReset b s
  | .trim b => Sys2Proof.Machine.execTrim b s
  | .counterSelect n => Sys2Proof.Machine.execCounterSelect n s
  | .counterReset n => Sys2Proof.Machine.execCounterReset n s
  | .counterRelease n => Sys2Proof.Machine.execCounterRelease n s
  | .freezeMode n => Sys2Proof.Machine.execFreezeMode n s
  | .enterCommissioning b => Sys2Proof.Machine.execEnterCommissioning b s
  | .commissionWrite b => Sys2Proof.Machine.execCommissionWrite b s
  | .commissionStore b => Sys2Proof.Machine.execCommissionStore b s
  | .leaveCommissioning b => Sys2Proof.Machine.execLeaveCommissioning b s
  | .restart b l r => Sys2Proof.Machine.execRestart b l r s
  | .unknownCommand code b => Sys2Proof.Machine.execUnknownCommand code b s
  | .surgeInInactive => Sys2Proof.Machine.execSurgeInInactive s

end Sys2Proof.Machine
end

