-- ==== Sys2Proof/Machine/Time.lean ====
section
/-! DEFINITION. The passing of one millisecond (log 3): ages grow (R21), timers run, and the expiries
that fall due are put into the queue in one fixed order. -/

namespace Sys2Proof.Machine

/-- A timer one millisecond later. -/
def tickTimer (t : Timer) : Timer := t.map fun n => n - 1

/-- The timer reaches its end in this millisecond. -/
def fires (t : Timer) : Bool := t == some 1

/-- An entry one millisecond later: the age counts, stops at 65535, and is held at 65535 while the bay
has never been heard (R21). -/
def Entry.tick (e : Entry) : Entry :=
  if e.presence = .neverHeard then e else { e with age := min 65535 (e.age + 1) }

/-- The bays whose entries reach PEER_TIMEOUT in this millisecond (R21). -/
def State.lapsing (s : State) : List Nat :=
  (s.ptb.entries.filter fun e => s.mayLapse e.bay && e.age + 1 == s.peerTimeout).map fun e => e.bay

/-- A status timer reaches its period in this millisecond (R12, R13). -/
def reaches (since : Option Nat) (period : Nat) : Bool := since.any fun t => t + 1 == period

/-- A command, if its timer fires. -/
def dueIf (p : Bool) (i : Instr) : List Instr := if p then [i] else []

/-- The expiries of this millisecond, in the order of log 3. -/
def State.expiries (s : State) : List Instr :=
  dueIf (fires s.fmn.good) .goodTimer ++ dueIf (fires s.mtc.pumpSettle) .pumpSettle ++
  dueIf (fires s.mtc.release) .releaseTimer ++ dueIf (fires s.mtc.settleTimeout) .settleTimeout ++
  dueIf (fires s.mtc.runOn) .runOn ++ dueIf (fires s.mtc.trimLimit) .trimLimitTimeout ++
  dueIf (fires s.stm.settle) .settleTimer ++ s.lapsing.map Instr.peerLapse ++
  dueIf (fires s.ptb.listen) .listenTimer ++ dueIf (fires s.clu.asking) .askingTimer ++
  dueIf (fires s.clu.window) .claimWindow ++ dueIf (fires s.clu.backoff) .backoffTimer ++
  dueIf (fires s.lif.offTimer) .offTimer ++ dueIf (fires s.lif.repeatTimer) .orderRepeatTimer ++
  dueIf (reaches s.lif.sinceStatusA (statusAPeriodOf s.mtc.motion)) .statusAPeriod ++
  dueIf (reaches s.lif.sinceStatusB 1000) .statusBPeriod

/-- Every timer and age one millisecond later. -/
def advanceClocks (s : State) : State :=
  let s1 := s.setLif { s.lif with
    sinceStatusA := s.lif.sinceStatusA.map fun n => n + 1
    sinceStatusB := s.lif.sinceStatusB.map fun n => n + 1
    repeatTimer := tickTimer s.lif.repeatTimer, offTimer := tickTimer s.lif.offTimer }
  let s2 := s1.setPtb { entries := s.ptb.entries.map Entry.tick, listen := tickTimer s.ptb.listen }
  let s3 := s2.setClu { s.clu with
    asking := tickTimer s.clu.asking, window := tickTimer s.clu.window
    backoff := tickTimer s.clu.backoff }
  let s4 := s3.setStm { s.stm with settle := tickTimer s.stm.settle }
  let s5 := s4.setMtc { s.mtc with
    pumpSettle := tickTimer s.mtc.pumpSettle, release := tickTimer s.mtc.release
    settleTimeout := tickTimer s.mtc.settleTimeout, runOn := tickTimer s.mtc.runOn
    trimLimit := tickTimer s.mtc.trimLimit }
  s5.setFmn { s.fmn with good := tickTimer s.fmn.good }

/-- One millisecond passes: clocks advance, and the expiries join the queue. -/
def tick (s : State) : State := (advanceClocks s).setPending (s.pending ++ s.expiries)

end Sys2Proof.Machine
end

