-- ==== Sys2Proof/Safety.lean ====
section
/-! DEFINITION. What holds of this machine at every moment, in the terms the statements use: the lines
FAULT and ATTN, the outputs, the selection, the service state, the conditions, the peer table and the
bounded registers. Each is a Bool, so that a run can be checked. -/

namespace Sys2Proof.Machine

/-- ATTN is asserted exactly while a set cause is unmasked (R207). -/
def State.attnOk (s : State) : Bool := s.act.attn == attnOf s.act.causes s.act.mask

/-- FAULT is asserted exactly while a cause is latched (R170). -/
def State.faultLineOk (s : State) : Bool := s.fmn.faultLine == !s.fmn.causes.isEmpty

/-- The pump and the holding valve are as R139 gives them, and both drives are 0 where no loop runs. -/
def State.outputsOk (s : State) : Bool :=
  (s.mtc.pump, s.mtc.valve) == outputsOf s.mtc.motion s.mtc.phase &&
    (loopsRun s.mtc.motion s.mtc.phase || (s.mtc.driveL == 0 && s.mtc.driveR == 0))

/-- While HOLD_IN is active both drives are 0 (R139). -/
def State.holdDrivesOk (s : State) : Bool :=
  !s.pins.holdIn || (s.mtc.driveL == 0 && s.mtc.driveR == 0)

/-- In phase MOVE of a trim the hoist that is not trimmed has drive 0 (R139, R160). -/
def State.trimDrivesOk (s : State) : Bool :=
  !s.mtc.trimMoves ||
    ((s.mtc.driveL == 0 || s.mtc.trim.any fun t => t.hoist == .left) &&
      (s.mtc.driveR == 0 || s.mtc.trim.any fun t => t.hoist == .right))

/-- Every drive lies in [-1000, +1000] (R139). -/
def State.drivesOk (s : State) : Bool :=
  decide (s.mtc.driveL.natAbs ≤ 1000 ∧ s.mtc.driveR.natAbs ≤ 1000)

/-- The SURGE and TIDAL slots follow STM (R86, R87), and the selected slot is the one of R92. -/
def State.selectionOk (s : State) : Bool :=
  s.osl.surge == s.epochOdd && s.osl.tidal == (s.stm.tidal == .flood) &&
    s.osl.selected == s.osl.choose s.levels

/-- The service state is the one of R95. -/
def State.serviceOk (s : State) : Bool := s.osl.service == s.serviceNow

/-- HOLD is held exactly while HOLD_IN is active (R175), SUPPLY_LOW whenever the supply is not good, and
the good timer runs only with SUPPLY_LOW held and the supply good (R176). -/
def State.conditionsOk (s : State) : Bool :=
  s.fmn.hold == s.pins.holdIn && (s.pins.supplyGood || s.fmn.supplyLow) &&
    (s.fmn.good.isNone || (s.pins.supplyGood && s.fmn.supplyLow))

/-- A latched fault keeps the own claim STILL (R56) and MTC in FAULT_STOP, or in TRIM with the cause set
exactly {SKEW_TRIP} (R156, R178). -/
def State.faultMotionOk (s : State) : Bool :=
  s.fmn.causes.isEmpty || (s.clu.state == .still && (s.mtc.motion == .faultStop ||
    (s.mtc.motion == .trim && s.fmn.causes == onlySkewTrip)))

/-- The table holds one entry for each bay of its range, in rising order (R19, R37). -/
def State.tableOk (s : State) : Bool :=
  s.ptb.entries.map (fun e => e.bay) ==
    (List.range (s.lastBay + 1 - s.firstBay)).map fun i => s.firstBay + i

/-- An entry's age is at most 65535 ms (R19, R21). -/
def State.agesOk (s : State) : Bool := s.ptb.entries.all fun e => decide (e.age ≤ 65535)

/-- A ring holds at most 32 samples (R103). -/
def State.ringsOk (s : State) : Bool :=
  decide (s.stm.ringU.length ≤ 32 ∧ s.stm.ringD.length ≤ 32)

/-- Every value lies within its register: the failure count, the claim number, the epoch, the invalid
runs and the sixteen data words. -/
def State.widthsOk (s : State) : Bool :=
  decide (s.lif.failures ≤ 16 ∧ s.clu.number < 256 ∧ s.stm.epoch < 16 ∧
    s.mtc.left.invalidRun ≤ 65535 ∧ s.mtc.right.invalidRun ≤ 65535 ∧ s.lpt.data.length = 16)

/-- In OUT the station begins no attempt, holds no frame and drives no valve (R18, R165). -/
def State.outOk (s : State) : Bool :=
  !s.cfs.out || (s.lif == lifReset && s.mtc.motion == .stopped && s.fmn.causes.isEmpty &&
    s.clu == cluReset && s.ptb.listen.isNone && s.osl.service == .out)

/-- MTC is RUNNING or STOPPING only while CLU holds a GRANTED claim or the SURGE slot is selected (R48,
R144). -/
def State.motionOk (s : State) : Bool :=
  !(s.mtc.motion == .running || s.mtc.motion == .stopping) ||
    s.clu.state == .granted || s.osl.selected == .surge

/-- What MTC serves in each state: RUNNING serves the stride of a GRANTED claim, or a closure while SURGE is
selected and no claim is granted; STOPPING serves a granted stride; PRIMING serves a stride only of a granted
claim and a closure only with SURGE selected. A granted claim's stride is in motion, a claim on its way stands
at rest under an even epoch, and a closure is wanted only with SURGE selected, outside OUT (R41, R48, R55,
R143, R144). -/
def State.movementOk (s : State) : Bool :=
  let m := s.mtc
  let granted := s.clu.state == .granted
  let surge := s.osl.selected == .surge && !s.cfs.out
  (match m.motion with
    | .running => (m.movement == some .stride && granted) ||
        (m.movement == some .closure && surge && !granted)
    | .stopping => m.movement == some .stride && granted
    | .priming => (m.movement != some .stride || granted) && (m.movement != some .closure || surge)
    | .settling => true
    | .stopped => !granted
    | .holding => !granted
    | .faultStop => !granted
    | .trim => !granted) &&
  (!granted || m.movement == some .stride) &&
  (!(s.clu.state == .asking || s.clu.state == .pending) || (m.motion.atRest && !s.epochOdd)) &&
  (!m.closureRequest || surge)

/-- The entry lends a stage: LIVE, not the own bay, the channel present (R105). -/
def State.lends (s : State) (stage : Entry → Option Int) (e : Entry) : Prop :=
  e.presence = .live ∧ e.bay ≠ s.own ∧ (stage e).isSome = true

/-- The source is the one that R105 gives a channel whose own ring is valid or not: OWN while it is, else the
nearest bay that lends the channel, of two equally near the lower, else UNAVAILABLE. -/
def State.sourceFits (s : State) (valid : Bool) (stage : Entry → Option Int) : Source → Prop
  | .own => valid = true
  | .borrowed k => valid = false ∧ (∃ e, e ∈ s.ptb.entries ∧ e.bay = k ∧ s.lends stage e) ∧
      ∀ e, e ∈ s.ptb.entries → s.lends stage e →
        bayDistance s.own k < bayDistance s.own e.bay ∨
        (bayDistance s.own k = bayDistance s.own e.bay ∧ k ≤ e.bay)
  | .unavailable => valid = false ∧ ∀ e, e ∈ s.ptb.entries → ¬ s.lends stage e

/-- Every field of a frame lies within the values of the layout table after R2, an absent stage aside;
STATUS-A never carries OUT. -/
def Frame.inRange (first last : Nat) : Frame → Bool
  | .surge e => decide (e < 16)
  | .verdict c => decide (first ≤ c.claimant ∧ c.claimant ≤ last ∧ c.number < 256)
  | .claim c => decide (c.number < 256 ∧ c.start ≤ 15000 ∧ c.stop ≤ 15000)
  | .order c => decide (c.stamp < 4096 ∧ c.aggregate ≤ 480000)
  | .statusA c =>
    decide (c.opening ≤ 15000 ∧ c.committed.lo ≤ c.committed.hi ∧ c.committed.hi ≤ 15000 ∧
      c.number < 256) && c.service != .out
  | .statusB c =>
    (c.up.all fun x => decide (-10000 ≤ x ∧ x ≤ 20000)) &&
      (c.down.all fun x => decide (-10000 ≤ x ∧ x ≤ 20000)) &&
      decide (1 ≤ c.weight ∧ c.weight ≤ 100 ∧ c.epoch < 16)

end Sys2Proof.Machine
end

