-- ==== Sys2Proof/Certificates/Slice0/Obligations.lean ====
section
/-! DEFINITION. The statements for the provers: what the rules of the spec say the commands and the machine
do. Each docstring names the rules it formalises; OBLIGATIONS.json holds the metadata. -/

open Sys2Proof Sys2Proof.Machine

/-! ## The machine and its queue -/

/-- A step runs the command at the front of the queue on the state with the queue's rest. -/
def Obligations.StepRunsTheFrontCommand : Prop :=
  ∀ (c : Instr) (q : List Instr) (s : State),
    step (s.setPending (c :: q)) = exec c (s.setPending q)

/-- Every command of the table answers a next state and leaves the queue to the step (95). -/
def Obligations.EveryCommandCompletesAndKeepsTheQueue : Prop :=
  ∀ (c : Instr) (s : State), ∃ t, exec c s = .next t ∧ t.pending = s.pending

/-- The model's choice of log 3: on an empty queue one millisecond passes. Every entry's age counts as
R21 has it, and the blocks without a clock stay as they are. -/
def Obligations.IdleStepLetsOneMillisecondPass : Prop :=
  ∀ s : State, s.pending = [] → ∃ t, step s = .next t ∧
    (∀ b e, s.entry b = some e → t.entry b = some { e with
      age := if e.presence = .neverHeard then e.age else min 65535 (e.age + 1) }) ∧
    t.mtc.runOn = s.mtc.runOn.map (fun n => n - 1) ∧
    t.lif.offTimer = s.lif.offTimer.map (fun n => n - 1) ∧
    (s.mtc.runOn = some 1 → Instr.runOn ∈ t.pending) ∧
    t.shu = s.shu ∧ t.osl = s.osl ∧ t.lpt = s.lpt ∧ t.cfs = s.cfs ∧ t.act = s.act ∧ t.pins = s.pins

/-! ## Frames on the line -/

/-- Decode of encode (R1, R2, R3): every frame whose fields lie within the values of R2 comes back from
its identifier and data bytes, with its sender bay, and passes the checks of R3. A frame of a lower kind
code has a lower identifier, whatever the bays, and among frames of one kind the lower bay has (R1). -/
def Obligations.FramesDecodeFromTheirEncoding : Prop :=
  ∀ (first last bay : Nat) (f : Frame), 1 ≤ first → last ≤ 32 → first ≤ bay → bay ≤ last →
    f.inRange first last = true →
    kindAndBayOk first last (encodeFrame bay f) = true ∧
    rawSender (encodeFrame bay f) = bay ∧
    parseFrame first last (encodeFrame bay f) = some f ∧
    (encodeFrame bay f).data.length ≤ 8 ∧
    ∀ (g : Frame) (b : Nat), 1 ≤ b → b ≤ 32 →
      (f.kind < g.kind ∨ (f.kind = g.kind ∧ bay < b)) →
      (encodeFrame bay f).id.toNat < (encodeFrame b g).id.toNat

/-- R3: a frame of a bad kind code, bay, length or field is discarded and counted, and nothing else
happens. -/
def Obligations.BadFramesAreDiscardedAndCounted : Prop :=
  ∀ (f : RawFrame) (s : State),
    (kindAndBayOk s.firstBay s.lastBay f = false ∨
      (s.isDuplicate f = false ∧ parseFrame s.firstBay s.lastBay f = none)) →
    exec (.frameDiscarded f) s = .next (countEvent .frameDiscarded s)

/-- R6: a frame in range that carries the own bay number from another sender latches DUPLICATE_BAY and
stops the gate. As a second fault (R168) it joins the cause set and the recorded causes, and the first cause
and the picture of the record stay; while it is latched a further report is absorbed (R166). -/
def Obligations.DuplicateBayIsLatched : Prop :=
  ∀ (f : RawFrame) (s : State), s.cfs.out = false →
    kindAndBayOk s.firstBay s.lastBay f = true → rawSender f = s.own →
    (s.fmn.causes = noCauses → ∃ t, exec (.frameDiscarded f) s = .next t ∧
      t.fmn.causes = noCauses.add .duplicateBay ∧ t.fmn.faultLine = true ∧
      t.mtc.motion = .faultStop ∧ t.mtc.driveL = 0 ∧ t.mtc.driveR = 0 ∧ t.mtc.pump = false ∧
      t.mtc.valve = false ∧ t.clu.state = .still ∧ t.osl.service = .faulted ∧
      t.ptb = s.ptb ∧ t.shu = s.shu ∧ t.stm = s.stm ∧ t.lpt = s.lpt ∧ t.cfs = s.cfs) ∧
    (s.fmn.causes ≠ noCauses → s.fmn.causes.duplicateBay = false →
      ∃ t, exec (.frameDiscarded f) s = .next t ∧
        t.fmn = { s.fmn with
          causes := { s.fmn.causes with duplicateBay := true }
          record := s.fmn.record.map fun r =>
            { r with recorded := { r.recorded with duplicateBay := true } } } ∧
        t.act.causes &&& 0x001 = 0x001 ∧ t.clu = s.clu ∧ t.osl = s.osl ∧
        (s.mtc.motion = .trim → t.mtc.motion = .faultStop ∧ t.mtc.pump = false ∧
          t.mtc.valve = false ∧ t.mtc.driveL = 0 ∧ t.mtc.driveR = 0 ∧ t.mtc.trim = none) ∧
        (s.mtc.motion ≠ .trim → t.mtc = s.mtc) ∧
        t.ptb = s.ptb ∧ t.shu = s.shu ∧ t.stm = s.stm ∧ t.lpt = s.lpt ∧ t.cfs = s.cfs) ∧
    (s.fmn.causes.duplicateBay = true →
      exec (.frameDiscarded f) s = .next (countEvent .frameDiscarded s))

/-- R20: a valid frame of another bay makes that bay LIVE with age 0 and ends a declaration. -/
def Obligations.ValidFramesMakeTheirSenderLive : Prop :=
  ∀ (f : RawFrame) (s : State) (e : Entry), s.frameValid f = true →
    s.entry (rawSender f) = some e →
    ∃ t e', exec (instrOfFrame f) s = .next t ∧ t.entry (rawSender f) = some e' ∧
      e'.presence = .live ∧ e'.age = 0 ∧ e'.saved = none ∧
      t.cfs = s.cfs ∧ t.lpt = s.lpt ∧ t.pins = s.pins ∧
      t.mtc.left = s.mtc.left ∧ t.mtc.right = s.mtc.right

/-- R23, R29, R35: a STATUS-A of a neighbour writes its entry, its bound and its last-judged record, and
no other entry. -/
def Obligations.StatusAWritesTheNeighbourEntry : Prop :=
  ∀ (s : State) (bay : BitVec 6) (c : StatusA) (e : Entry),
    s.isNeighbour bay.toNat = true → s.own ≠ bay.toNat → 1 ≤ s.firstBay → s.lastBay ≤ 32 →
    (Frame.statusA c).inRange s.firstBay s.lastBay = true → s.entry bay.toNat = some e →
    ∃ t e', exec (.statusAFrame bay (Frame.statusA c).payload) s = .next t ∧
      t.entry bay.toNat = some e' ∧ e'.presence = .live ∧ e'.age = 0 ∧
      e'.opening = some c.opening ∧ e'.committed = some c.committed ∧ e'.lastNumber = c.number ∧
      e'.lastOutcome = c.outcome ∧ e'.service = c.service ∧ e'.fresh = c.fresh ∧
      e'.moving = c.moving ∧ e'.degraded = c.degraded ∧ e'.bound = some c.committed ∧
      e'.judged = (if c.fresh then none else e.judged) ∧
      e'.mark = (e.mark || s.ptb.listen.isSome) ∧
      e'.up = e.up ∧ e'.down = e.down ∧ e'.weight = e.weight ∧ e'.tidal = e.tidal ∧
      e'.epoch = e.epoch ∧
      (∀ k, k ≠ bay.toNat → t.entry k = s.entry k)

/-- R24: a STATUS-B writes the stages, the weight, the tidal state and the epoch of its sender's entry,
and no bound, listen mark or STATUS-A field. Its epoch reaches the station (R120, R121): a settled station,
or one whose entry of the sender has the fresh flag set, takes a newer epoch if it is odd or the sender is
not fresh; an unsettled one takes it from a sender that is not fresh whatever it is, and is settled. The
clause on the epoch is for a station with no condition of its own to raise for again; in OUT nothing reaches
STM (R37). -/
def Obligations.StatusBWritesTheEntry : Prop :=
  ∀ (s : State) (bay : BitVec 6) (c : StatusB) (e : Entry),
    (s.cfs.out = true ∨ s.own ≠ bay.toNat) → 1 ≤ s.firstBay → s.lastBay ≤ 32 →
    s.firstBay ≤ bay.toNat → bay.toNat ≤ s.lastBay →
    (Frame.statusB c).inRange s.firstBay s.lastBay = true → s.entry bay.toNat = some e →
    ∃ t, exec (.statusBFrame bay (Frame.statusB c).payload) s = .next t ∧
      t.entry bay.toNat = some { e with
        presence := .live, age := 0, saved := none, up := c.up, down := c.down,
        weight := c.weight, tidal := c.tidal, epoch := c.epoch } ∧
      (∀ k, k ≠ bay.toNat → t.entry k = s.entry k) ∧
      (s.cfs.out = true → t.stm = s.stm) ∧
      (s.cfs.out = false → s.pins.surgeIn = false → s.stageCondition = false →
        (s.stm.settled = true ∨ e.fresh = true →
          t.stm.settled = s.stm.settled ∧
          t.stm.epoch = (if 1 ≤ (c.epoch + 16 - s.stm.epoch) % 16 ∧
              (c.epoch + 16 - s.stm.epoch) % 16 ≤ 7 ∧ (c.epoch % 2 = 1 ∨ e.fresh = false)
            then c.epoch else s.stm.epoch)) ∧
        (s.stm.settled = false → e.fresh = false →
          t.stm.settled = true ∧ t.stm.settle = none ∧ t.stm.epoch = c.epoch))

/-- R118, R119, R121: a SURGE frame of another bay. A settled station takes a newer epoch and no other;
an unsettled one takes it whatever it is, and is settled. With no condition of its own to raise for
again, the station then holds that epoch. -/
def Obligations.SurgeFramesSpreadTheEpoch : Prop :=
  ∀ (s : State) (bay : BitVec 6) (e : BitVec 4),
    (s.cfs.out = true ∨ s.own ≠ bay.toNat) → s.firstBay ≤ bay.toNat → bay.toNat ≤ s.lastBay →
    s.pins.surgeIn = false → s.stageCondition = false →
    ∃ t, exec (.surgeFrame bay [e.setWidth 8]) s = .next t ∧
      t.stm.epoch = (if s.stm.settled = false ∨
          (1 ≤ (e.toNat + 16 - s.stm.epoch) % 16 ∧ (e.toNat + 16 - s.stm.epoch) % 16 ≤ 7)
        then e.toNat else s.stm.epoch) ∧
      t.stm.settled = true ∧ t.stm.ringU = s.stm.ringU ∧ t.stm.ringD = s.stm.ringD ∧
      t.stm.tidal = s.stm.tidal ∧ t.cfs = s.cfs ∧ t.lpt = s.lpt

/-- R47, R49: a verdict of a required neighbour on the PENDING claim is recorded. A demur resolves the claim
DEMURRED and starts the backoff; a consent with another still missing leaves the claim PENDING (the last
missing consent, R48, is GrantHandsTheStride). A required neighbour may have lapsed since: its frame makes it
LIVE again first. -/
def Obligations.VerdictsResolveThePendingClaim : Prop :=
  ∀ (s : State) (bay : BitVec 6) (n : Byte) (v : Verdict),
    s.cfs.out = false → s.isNeighbour bay.toNat = true → s.own ≠ bay.toNat →
    s.own < 256 → s.firstBay ≤ s.own → s.own ≤ s.lastBay →
    n.toNat = s.clu.number → s.clu.state = .pending → s.requires bay.toNat = true →
    s.recordedFrom bay.toNat = none → sideDemurs s.clu.below = false →
    sideDemurs s.clu.above = false → s.selectionOk = true →
    ∃ t, exec (.verdictFrame bay [byte s.own, n, byte v.code]) s = .next t ∧
      t.recordedFrom bay.toNat = some { verdict := v, origin := .line } ∧
      (v ≠ .consent → t.clu.state = .still ∧ t.clu.lastOutcome = .demurred ∧
        t.clu.lastNumber = s.clu.number ∧ t.clu.window = none ∧
        t.clu.backoff = some (200 + 25 * s.own) ∧ t.mtc = s.mtc) ∧
      (v = .consent → (recordVerdict bay.toNat v s).allConsent = false →
        t.clu.state = .pending ∧ t.clu.window = s.clu.window ∧ t.mtc = s.mtc)

/-- R60, R61, R62: a CLAIM of a neighbour with a new number is judged by the surge epoch, the position
and the gap; the verdict is recorded and queued, and a consent writes the bound. A number that the
record holds is answered from the record. -/
def Obligations.NeighbourClaimsAreJudged : Prop :=
  ∀ (s : State) (bay : BitVec 6) (c : ClaimContent) (e : Entry),
    s.isNeighbour bay.toNat = true → s.own ≠ bay.toNat → s.entry bay.toNat = some e →
    e.presence = .live → c.number < 256 → c.start ≤ 15000 → c.stop ≤ 15000 →
    ∃ t e', exec (.claimFrame bay (Frame.claim c).payload) s = .next t ∧
      t.entry bay.toNat = some e' ∧
      (s.lineAccepts = true → e'.judged.map (fun j => j.verdict) =
        (t.lif.verdictSlots.find? fun v => v.claimant == bay.toNat).map (fun v => v.verdict)) ∧
      ((∃ j, e.judged = some j ∧ j.number = c.number) →
        e'.judged = e.judged ∧ e'.bound = e.bound ∧ t.clu = s.clu) ∧
      ((∀ j, e.judged = some j → j.number ≠ c.number) →
        (s.stm.epoch % 2 = 1 →
          e'.judged = some { number := c.number, verdict := .demurSurge } ∧ e'.bound = e.bound) ∧
        (s.stm.epoch % 2 = 0 → s.positionKnown = false →
          e'.judged = some { number := c.number, verdict := .demurUnsure } ∧ e'.bound = e.bound) ∧
        (s.stm.epoch % 2 = 0 → s.positionKnown = true →
          gap (claimRange c.start c.stop) s.committed ≤
            max (Param.stagger s.cfs.working) (gap (claimRange c.start c.start) s.committed) →
          e'.judged = some { number := c.number, verdict := .consent } ∧
          e'.bound = some (claimRange c.start c.stop)) ∧
        (s.stm.epoch % 2 = 0 → s.positionKnown = true →
          max (Param.stagger s.cfs.working) (gap (claimRange c.start c.start) s.committed) <
            gap (claimRange c.start c.stop) s.committed →
          e'.judged = some { number := c.number, verdict := .demurStagger } ∧
          e'.bound = e.bound))

/-- R67 to R70: an ORDER frame of another bay. It is adopted while no order is held, when its stamp is
newer, and, unless it is a repeat, when its stamp is equal and its aggregate differs. -/
def Obligations.OrderFramesAreAdoptedByStamp : Prop :=
  ∀ (s : State) (bay : BitVec 6) (c : OrderContent), s.cfs.out = false → s.own ≠ bay.toNat →
    s.firstBay ≤ bay.toNat → bay.toNat ≤ s.lastBay → s.lif.line ≠ .off →
    c.stamp < 4096 → c.aggregate ≤ 480000 → (s.entry s.own).isSome = true →
    ∃ t, exec (.orderFrame bay (Frame.order c).payload) s = .next t ∧
      ((s.shu.order = none ∨ (∃ h, s.shu.order = some h ∧
          ((1 ≤ (c.stamp + 4096 - h.stamp) % 4096 ∧ (c.stamp + 4096 - h.stamp) % 4096 ≤ 2047) ∨
            (c.isRepeat = false ∧ c.stamp = h.stamp ∧ c.aggregate ≠ h.aggregate)))) →
        t.shu.order = some { stamp := c.stamp, aggregate := c.aggregate, origin := bay.toNat } ∧
        t.lif.repeatTimer = some 5000 ∧ t.act.causes &&& 0x008 = 0x008 ∧
        t.osl.weirTarget = t.shu.share.own ∧ t.shu.lastHanded = t.shu.share.own) ∧
      ((∃ h, s.shu.order = some h ∧ h.stamp < 4096 ∧
          (2048 ≤ (c.stamp + 4096 - h.stamp) % 4096 ∨
            (c.stamp = h.stamp ∧ (c.isRepeat = true ∨ c.aggregate = h.aggregate)))) →
        t.shu.order = s.shu.order ∧ t.lif.repeatTimer = s.lif.repeatTimer)

/-- R48, R140: the last missing consent on a raising claim hands MTC a stride to the selected staged
target, no farther than the claim end, with the limits and end of the inverse conversion; MTC starts it
from STOPPED with a pump settle. -/
def Obligations.GrantHandsTheStride : Prop :=
  ∀ (s : State) (bay : BitVec 6) (n : Byte) (a b u g : Nat),
    s.cfs.out = false → s.isNeighbour bay.toNat = true → s.own ≠ bay.toNat →
    s.own < 256 → s.firstBay ≤ s.own → s.own ≤ s.lastBay →
    n.toNat = s.clu.number → s.clu.state = .pending → s.requires bay.toNat = true →
    s.recordedFrom bay.toNat = none → sideDemurs s.clu.below = false →
    sideDemurs s.clu.above = false →
    (recordVerdict bay.toNat .consent s).allConsent = true →
    (∀ e, s.entry bay.toNat = some e → e.presence = .live) →
    s.clu.start = some a → s.clu.stop = some b → a < b →
    s.osl.selected.staged = true → s.osl.target s.osl.selected = some u →
    a + Param.tol s.cfs.working < u →
    s.mtc.motion = .stopped → s.mtc.gateStroke = some g →
    ∃ t, exec (.verdictFrame bay [byte s.own, n, 0]) s = .next t ∧
      t.clu.state = .granted ∧ t.clu.window = none ∧ t.mtc.movement = some .stride ∧
      t.mtc.limits = some { lo := inverse s.cfs.working a, hi := inverse s.cfs.working b } ∧
      t.mtc.goal = some (256 * inverse s.cfs.working (min u b)) ∧
      t.mtc.setpoint = some (clampNat (256 * inverse s.cfs.working a)
        (256 * inverse s.cfs.working b) (256 * g)) ∧
      t.mtc.speed = some .normal ∧ t.mtc.v = 0 ∧ t.mtc.stopKind = none ∧
      t.mtc.motion = .priming ∧ t.mtc.phase = some .settle ∧ t.mtc.pump = true ∧
      t.mtc.valve = false ∧ t.mtc.driveL = 0 ∧ t.mtc.driveR = 0 ∧
      t.mtc.pumpSettle = some (Param.pumpSettle s.cfs.working) ∧
      t.mtc.left = s.mtc.left ∧ t.mtc.right = s.mtc.right ∧ t.osl = s.osl ∧ t.stm = s.stm

/-! ## The attempt and the line states -/

/-- R8: the arbiter takes the occupied slot of the lowest identifier, and R10: the slot stays occupied
during the attempt. -/
def Obligations.ArbiterTakesTheLowestIdentifier : Prop :=
  ∀ s : State, s.cfs.out = false → s.lif.line ≠ .off → s.lif.attempt = none →
    (s.lif.surgeSlot.isSome || !s.lif.verdictSlots.isEmpty || s.lif.claimSlot.isSome ||
      s.lif.orderSlot.isSome || s.lif.statusASlot || s.lif.statusBSlot) = true →
    ∃ f, exec .attemptBegin s =
        .next (s.setLif { s.lif with attempt := some { frame := f, touched := false } }) ∧
      (∀ e, s.lif.surgeSlot = some e → f = .surge e) ∧
      (s.lif.surgeSlot = none → ∀ v vs, s.lif.verdictSlots = v :: vs → f = .verdict v) ∧
      (s.lif.surgeSlot = none → s.lif.verdictSlots = [] → ∀ c, s.lif.claimSlot = some c →
        f = .claim c) ∧
      (s.lif.surgeSlot = none → s.lif.verdictSlots = [] → s.lif.claimSlot = none →
        ∀ c, s.lif.orderSlot = some c → f = .order c) ∧
      (s.lif.surgeSlot = none → s.lif.verdictSlots = [] → s.lif.claimSlot = none →
        s.lif.orderSlot = none → s.lif.statusASlot = true →
        ∃ c, f = .statusA c ∧ c.opening = s.opening.getD 0 ∧ c.committed = s.committed ∧
          c.number = s.clu.lastNumber ∧ c.outcome = s.clu.lastOutcome ∧ c.fresh = s.clu.fresh ∧
          c.service = s.osl.service ∧
          (c.degraded = true ↔
            s.fmn.supplyLow = true ∨ s.fmn.lineOff = true ∨ s.fmn.hold = true) ∧
          (c.moving = true ↔ s.mtc.motion ∈ [.priming, .running, .stopping, .settling, .trim])) ∧
      (s.lif.surgeSlot = none → s.lif.verdictSlots = [] → s.lif.claimSlot = none →
        s.lif.orderSlot = none → s.lif.statusASlot = false →
        ∃ c, f = .statusB c ∧ c.up = ringMean s.stm.ringU ∧ c.down = ringMean s.stm.ringD ∧
          c.weight = Param.ownWeight s.cfs.working ∧ c.tidal = s.stm.tidal ∧
          c.epoch = s.stm.epoch)

/-- R9, R16, R177: a success sets the failure count to 0, ends the attempt and, in REJOINING, makes the
line state ON and releases LINE_OFF. The station takes its own frame, and the frame's slot empties unless it
changed meanwhile (R10): a STATUS-A or STATUS-B writes the own entry and restarts its timer (R12, R13, R22),
and a fresh STATUS-A is marked (R41); a VERDICT is counted (R61); an ORDER is adopted as a peer's would be and
restarts the repeat timer (R14, R71); a SURGE frame's newer epoch is adopted (R119). That ACT takes FRAME_SENT
before the report of an own VERDICT is the model's choice of log 46, where R201 allows either order. The own
CLAIM is OwnClaimTakenBecomesPending. -/
def Obligations.SuccessSendsTheFrame : Prop :=
  ∀ (s : State) (a : Attempt), s.lif.attempt = some a →
    ∃ t, exec .attemptSuccess s = .next t ∧ t.lif.failures = 0 ∧ t.lif.attempt = none ∧
      (s.lif.line = .rejoining → t.lif.line = .on ∧ t.fmn.lineOff = false) ∧
      (s.lif.line ≠ .rejoining → t.lif.line = s.lif.line ∧ t.fmn.lineOff = s.fmn.lineOff) ∧
      t.cfs = s.cfs ∧ t.lpt = s.lpt ∧ t.pins = s.pins ∧
      t.mtc.left = s.mtc.left ∧ t.mtc.right = s.mtc.right ∧
      (∀ c, a.frame = .statusB c →
        t.lif.statusBSlot = (a.touched && s.lif.statusBSlot) ∧ t.lif.sinceStatusB = some 0 ∧
        (∀ e, s.entry s.own = some e → t.entry s.own = some { e with
          presence := .live, age := 0, up := c.up, down := c.down, weight := c.weight,
          tidal := c.tidal, epoch := c.epoch })) ∧
      (∀ c, a.frame = .statusA c →
        t.lif.statusASlot = (a.touched && s.lif.statusASlot) ∧ t.lif.sinceStatusA = some 0 ∧
        t.clu.freshTaken = (s.clu.freshTaken || c.fresh) ∧
        (∀ e, s.entry s.own = some e → t.entry s.own = some { e with
          presence := .live, age := 0, opening := some c.opening, committed := some c.committed,
          lastNumber := c.number, lastOutcome := c.outcome, service := c.service,
          fresh := c.fresh, moving := c.moving, degraded := c.degraded })) ∧
      (∀ c, a.frame = .verdict c →
        t.lif.verdictSlots = (if a.touched then s.lif.verdictSlots
          else s.lif.verdictSlots.filter fun v => v.claimant != c.claimant) ∧
        t.act = (countEvent (if c.verdict = .consent then .verdictConsentSent
          else .verdictDemurSent) (countEvent .frameSent s)).act) ∧
      (∀ c, a.frame = .order c → s.cfs.out = false →
        t.lif.orderSlot = (if a.touched then s.lif.orderSlot else none) ∧
        (s.lif.line ≠ .off → t.lif.repeatTimer = some 5000) ∧
        t.shu.order = (if adoptsOrder s.shu.order c then
          some { stamp := c.stamp, aggregate := c.aggregate, origin := s.own }
          else s.shu.order)) ∧
      (∀ e, a.frame = .surge e → e < 16 → s.pins.surgeIn = false → s.stageCondition = false →
        t.lif.surgeSlot = (if a.touched then s.lif.surgeSlot else none) ∧
        t.stm.settled = s.stm.settled ∧
        t.stm.epoch = (if 1 ≤ (e + 16 - s.stm.epoch) % 16 ∧ (e + 16 - s.stm.epoch) % 16 ≤ 7
          then e else s.stm.epoch))

/-- R43, R44, R46: the station takes its own CLAIM. While ASKING with its number, the LIVE neighbours are the
required ones, and the station judges a neighbour that is not LIVE itself, from its bound. A self-judged demur
resolves the claim at once (R49); with no demur and a LIVE neighbour the claim is PENDING, its window runs and
its range is the committed range (R38); with no demur and no LIVE neighbour it is granted (R48). An edge bay
has one neighbour. A claim that is no longer ASKING with that number stays as it is. -/
def Obligations.OwnClaimTakenBecomesPending : Prop :=
  ∀ (s : State) (c : ClaimContent) (touched : Bool),
    s.lif.attempt = some { frame := .claim c, touched := touched } → s.lif.line = .on →
    1 ≤ s.own →
    ∃ t, exec .attemptSuccess s = .next t ∧
      t.ptb = s.ptb ∧ t.osl = s.osl ∧ t.shu = s.shu ∧ t.stm = s.stm ∧
      (s.clu.state ≠ .asking ∨ s.clu.number ≠ c.number → t.clu = s.clu ∧ t.mtc = s.mtc) ∧
      (∀ a z, s.clu.state = .asking → s.clu.number = c.number → s.clu.start = some a →
        s.clu.stop = some z →
        t.clu.number = s.clu.number ∧ t.clu.start = some a ∧ t.clu.stop = some z ∧
        t.clu.required = some { below := s.liveNeighbour (s.own - 1),
                                above := s.liveNeighbour (s.own + 1) } ∧
        (∀ b v, (b + 1 = s.own ∧ v = t.clu.below) ∨ (b = s.own + 1 ∧ v = t.clu.above) →
          (s.isNeighbour b = false ∨ s.liveNeighbour b = true → v = none) ∧
          (∀ e, s.isNeighbour b = true → s.entry b = some e → e.presence ≠ .live →
            v = some {
              origin := .selfJudged
              verdict := match e.bound with
                | none => .demurUnsure
                | some x => if gap (claimRange a z) x ≤
                    max (Param.stagger s.cfs.working) (gap (claimRange a a) x)
                  then .consent else .demurStagger })) ∧
        (sideDemurs t.clu.below = true ∨ sideDemurs t.clu.above = true →
          t.clu.state = .still ∧ t.clu.lastOutcome = .demurred ∧
          t.clu.lastNumber = s.clu.number ∧ t.clu.backoff = some (200 + 25 * s.own) ∧
          t.mtc = s.mtc) ∧
        (sideDemurs t.clu.below = false → sideDemurs t.clu.above = false →
          (s.liveNeighbour (s.own - 1) = true ∨ s.liveNeighbour (s.own + 1) = true) →
          t.clu.state = .pending ∧ t.clu.asking = none ∧ t.clu.window = some 300 ∧
          (s.fmn.causes = noCauses → s.stm.epoch % 2 = 0 → s.clu.surgeClosure = false →
            t.committed = s.clu.span) ∧
          t.mtc = s.mtc) ∧
        (sideDemurs t.clu.below = false → sideDemurs t.clu.above = false →
          s.liveNeighbour (s.own - 1) = false → s.liveNeighbour (s.own + 1) = false →
          (∀ b, s.isNeighbour b = true → (s.entry b).isSome = true) →
          t.clu.state = .granted ∨ (t.clu.state = .still ∧ t.clu.lastOutcome = .granted)))

/-- R9: an attempt that loses contention leaves the failure count and takes the winning frame as any
receiver does. -/
def Obligations.LostContentionTakesTheWinner : Prop :=
  ∀ (s : State) (w : RawFrame), s.lif.attempt.isSome = true → 1 ≤ rawKind w → rawKind w ≤ 6 →
    ∃ t, exec (.attemptLostContention w) s = .next t ∧
      exec (instrOfFrame w) (s.setLif { s.lif with attempt := none }) = .next t ∧
      t.lif.failures = s.lif.failures ∧ t.lif.line = s.lif.line

/-- R9, R15, R57: a failure counts up; below 16 every slot stays as it is, and the failure that makes 16
takes the line OFF: the slots empty, the timers stop, LINE_OFF is taken and an ASKING or PENDING claim is
ABANDONED. -/
def Obligations.FailuresCountUpToLineOff : Prop :=
  ∀ s : State, s.lif.attempt.isSome = true →
    (s.lif.failures < 15 → exec .attemptFailure s = .next (countEvent .txRetry
      (s.setLif { s.lif with attempt := none, failures := s.lif.failures + 1 }))) ∧
    (s.lif.failures = 15 → ∃ t, exec .attemptFailure s = .next t ∧ exec .lineOff s = .next t ∧
      t.lif.line = .off ∧ t.lif.failures = 16 ∧ t.lif.attempt = none ∧
      t.lif.surgeSlot = none ∧ t.lif.verdictSlots = [] ∧ t.lif.claimSlot = none ∧
      t.lif.orderSlot = none ∧ t.lif.statusASlot = false ∧ t.lif.statusBSlot = false ∧
      t.lif.sinceStatusA = none ∧ t.lif.sinceStatusB = none ∧ t.lif.repeatTimer = none ∧
      t.lif.offTimer = some 1000 ∧ t.fmn.lineOff = true ∧
      (s.clu.state = .asking ∨ s.clu.state = .pending →
        t.clu.state = .still ∧ t.clu.lastOutcome = .abandoned ∧ t.mtc = s.mtc) ∧
      (s.clu.state = .granted → s.mtc.motion = .running →
        t.clu.state = .granted ∧ t.mtc.motion = .stopping ∧ t.mtc.stopKind = some .abandon) ∧
      t.ptb = s.ptb ∧ t.shu = s.shu ∧ t.osl = s.osl ∧ t.stm = s.stm ∧ t.cfs = s.cfs)

/-- R12, R13, R14, R16, R26, R65, R73: the status periods make their status due and nothing else, during an
attempt of the same status too (R10); the repeat timer has a repeat of the held order queued, unless an issued
order waits, and then it restarts with 5000 ms. The OFF timer makes the line state REJOINING: both statuses
due, a new listen period, the fresh flag set. That the elapsed time of a status reads as at least its period
after the expiry, whatever it read before, is the model's choice of log 4 and log 25. -/
def Obligations.LineTimersMakeFramesDueAndRejoin : Prop :=
  ∀ s : State, s.cfs.out = false →
    (s.lif.line ≠ .off → ∀ n, s.lif.sinceStatusA = some n →
      exec .statusAPeriod s = .next (s.setLif { s.lif with
        statusASlot := true, attempt := touch .statusA s.lif.attempt
        sinceStatusA := some (max n (if s.mtc.motion.atRest then 1000 else 250)) })) ∧
    (s.lif.line ≠ .off → ∀ n, s.lif.sinceStatusB = some n →
      exec .statusBPeriod s = .next (s.setLif { s.lif with
        statusBSlot := true, attempt := touch .statusB s.lif.attempt
        sinceStatusB := some (max n 1000) })) ∧
    (s.lif.line ≠ .off → ∀ n o, s.lif.repeatTimer = some n → s.shu.order = some o →
      (∀ c, s.lif.orderSlot = some c → c.isRepeat = true) →
      exec .orderRepeatTimer s = .next (s.setLif { s.lif with
        repeatTimer := none, attempt := touch .order s.lif.attempt
        orderSlot := some { stamp := o.stamp, isRepeat := true, aggregate := o.aggregate } })) ∧
    (s.lif.line ≠ .off → ∀ n o c, s.lif.repeatTimer = some n → s.shu.order = some o →
      s.lif.orderSlot = some c → c.isRepeat = false →
      exec .orderRepeatTimer s = .next (s.setLif { s.lif with repeatTimer := some 5000 })) ∧
    (∀ x, s.lif.attempt = some x →
      touch .statusA s.lif.attempt =
        some { x with touched := x.touched || decide (x.frame.kind = 5) } ∧
      touch .statusB s.lif.attempt =
        some { x with touched := x.touched || decide (x.frame.kind = 6) }) ∧
    (s.lif.line = .off → s.lif.offTimer.isSome = true →
      ∃ t, exec .offTimer s = .next t ∧ t.lif.line = .rejoining ∧ t.lif.failures = 0 ∧
        t.lif.offTimer = none ∧ t.lif.statusASlot = true ∧ t.lif.statusBSlot = true ∧
        t.lif.sinceStatusA = some 0 ∧ t.lif.sinceStatusB = some 0 ∧
        t.lif.repeatTimer = (if s.shu.order.isSome then some 5000 else none) ∧
        t.ptb.listen = some (Param.peerTimeout s.cfs.working) ∧
        (∀ b e, s.entry b = some e → t.entry b = some { e with mark := false }) ∧
        t.clu = { s.clu with fresh := true, freshTaken := false } ∧
        t.fmn = s.fmn ∧ t.mtc = s.mtc ∧ t.shu = s.shu ∧ t.stm = s.stm ∧ t.cfs = s.cfs)

/-! ## The peer table and the claim unit -/

/-- R21, R27, R28, R34: a LIVE entry of another bay whose age has reached PEER_TIMEOUT is LAPSED and keeps every
other field, its bound included; the lapse is counted and its attention cause set. Where a frame of the bay has
been taken first, the age is below PEER_TIMEOUT and the expiry does not happen. The listen timer ends the
listen period; a neighbour without a bound is UNKNOWN then, and NEIGHBOUR_UNKNOWN is set. -/
def Obligations.PeersLapseAndTheListenPeriodEnds : Prop :=
  ∀ s : State,
    (∀ b e, s.entry b = some e → e.age < s.peerTimeout → exec (.peerLapse b) s = .next s) ∧
    (∀ b e, s.entry b = some e → e.presence = .live → (s.cfs.out = true ∨ b ≠ s.own) →
      s.peerTimeout ≤ e.age →
      ∃ t, exec (.peerLapse b) s = .next t ∧
        t.entry b = some { e with presence := .lapsed } ∧
        (∀ k, k ≠ b → t.entry k = s.entry k) ∧ t.act.causes &&& 0x010 = 0x010 ∧
        t.ptb.listen = s.ptb.listen ∧ t.cfs = s.cfs ∧ t.lpt = s.lpt ∧ t.pins = s.pins) ∧
    (s.ptb.listen.isSome = true →
      ∃ t, exec .listenTimer s = .next t ∧ t.ptb.listen = none ∧
        t.ptb.entries = s.ptb.entries ∧ t.osl.service = t.serviceNow ∧
        ((∃ e, e ∈ s.neighbours ∧ e.bound = none) →
          t.act.causes &&& 0x020 = 0x020 ∧ t.clu.state = s.clu.state) ∧
        t.mtc = s.mtc ∧ t.shu = s.shu ∧ t.stm = s.stm ∧ t.fmn = s.fmn ∧ t.cfs = s.cfs)

/-- R45, R50, R51: the ASKING timer abandons the claim and withdraws its frame; the claim window lapses
it; each starts the backoff and leaves MTC alone. The backoff's expiry stops that timer. -/
def Obligations.ClaimTimersResolveTheClaim : Prop :=
  ∀ s : State,
    (s.clu.state = .asking → s.clu.asking.isSome = true →
      ∃ t, exec .askingTimer s = .next t ∧ t.clu.state = .still ∧
        t.clu.lastOutcome = .abandoned ∧ t.clu.lastNumber = s.clu.number ∧
        t.clu.asking = none ∧ t.lif.claimSlot = none ∧
        t.clu.backoff = some (200 + 25 * s.own) ∧
        t.clu.fresh = (s.clu.fresh && !s.clu.freshTaken) ∧
        t.mtc = s.mtc ∧ t.ptb = s.ptb ∧ t.osl = s.osl) ∧
    (s.clu.state = .pending → s.clu.window.isSome = true →
      ∃ t, exec .claimWindow s = .next t ∧ t.clu.state = .still ∧
        t.clu.lastOutcome = .lapsed ∧ t.clu.lastNumber = s.clu.number ∧ t.clu.window = none ∧
        t.clu.backoff = some (200 + 25 * s.own) ∧ t.clu.below = s.clu.below ∧
        t.clu.above = s.clu.above ∧
        (s.cfs.out = false → s.lif.line ≠ .off → t.lif.statusASlot = true) ∧
        t.mtc = s.mtc ∧ t.ptb = s.ptb ∧ t.osl = s.osl) ∧
    (s.clu.backoff.isSome = true →
      ∃ t, exec .backoffTimer s = .next t ∧ t.clu.backoff = none ∧ t.mtc = s.mtc ∧
        t.ptb = s.ptb ∧ t.osl = s.osl ∧
        (s.clu.state ≠ .still → t.clu = { s.clu with backoff := none } ∧ t.lif = s.lif))

/-- R41, R42: at the backoff's expiry, with every claim condition met, CLU makes a claim from the present
opening to the stride end under the next number, and asks for its CLAIM frame. -/
def Obligations.MetConditionsMakeAClaim : Prop :=
  ∀ (s : State) (p e : Nat), s.clu.backoff.isSome = true → s.clu.state = .still →
    s.cfs.out = false → s.commissioning = false → s.ptb.listen = none →
    s.clu.freshTaken = true → (s.mtc.motion = .stopped ∨ s.mtc.motion = .holding) →
    s.lif.line = .on → s.stm.epoch % 2 = 0 → s.fmn.causes = noCauses →
    s.fmn.supplyLow = false → s.fmn.hold = false → s.opening = some p →
    (∀ x, x ∈ s.neighbours → x.bound ≠ none) →
    s.osl.selected ∈ [Slot.tidal, .localOrder, .weir] → s.strideEnd = some e →
    Param.tol s.cfs.working < ((e : Int) - p).natAbs →
    ∃ t, exec .backoffTimer s = .next t ∧ t.clu.state = .asking ∧
      t.clu.number = (s.clu.number + 1) % 256 ∧ t.clu.start = some p ∧ t.clu.stop = some e ∧
      t.clu.below = none ∧ t.clu.above = none ∧ t.clu.required = none ∧
      t.clu.asking = some 300 ∧
      t.lif.claimSlot = some { number := (s.clu.number + 1) % 256, start := p, stop := e } ∧
      t.mtc = s.mtc ∧ t.ptb = s.ptb ∧ t.osl = s.osl ∧ t.shu = s.shu ∧ t.stm = s.stm

/-- R39, 3.1: the stride end lies within S of every point of every neighbour's bound, and within
[0, OPEN_MAX]. -/
def Obligations.StrideEndObeysTheStagger : Prop :=
  ∀ (s : State) (e : Nat), s.strideEnd = some e →
    e ≤ s.openMax ∧
    ∀ x b, x ∈ s.neighbours → x.bound = some b →
      gap { lo := e, hi := e } b ≤ Param.stagger s.cfs.working

/-! ## Encoders, position and geometry -/

/-- R128, R129, R130: a VALID read (it answers with even parity, at most 60000, and no jump above 200) sets
the channel's value to the read, the invalid run to 0 and the last read to VALID; any other leaves the value,
counts the invalid run up to 65535 and marks the last read INVALID. -/
def Obligations.ReadsAreJudgedValidOrInvalid : Prop :=
  ∀ (s : State) (x : BitVec 16) (check : Bool) (o bad : EncoderRead),
    (evenParity x check = true → x.toNat ≤ 60000 →
      (∀ h, s.mtc.left.value = some h → ((x.toNat : Int) - h).natAbs ≤ 200) →
      ∃ t, exec (.servoSample (.answer x check) o) s = .next t ∧
        t.mtc.left = { value := some x.toNat, invalidRun := 0, lastRead := .valid }) ∧
    (evenParity x check = true → x.toNat ≤ 60000 →
      (∀ h, s.mtc.right.value = some h → ((x.toNat : Int) - h).natAbs ≤ 200) →
      ∃ t, exec (.servoSample o (.answer x check)) s = .next t ∧
        t.mtc.right = { value := some x.toNat, invalidRun := 0, lastRead := .valid }) ∧
    ((bad = .noAnswer ∨ ∃ y c, bad = .answer y c ∧
        (evenParity y c = false ∨ 60000 < y.toNat ∨
          ∃ h, s.mtc.left.value = some h ∧ 200 < ((y.toNat : Int) - h).natAbs)) →
      ∃ t, exec (.servoSample bad o) s = .next t ∧ t.mtc.left.value = s.mtc.left.value ∧
        t.mtc.left.invalidRun = min 65535 (s.mtc.left.invalidRun + 1) ∧
        t.mtc.left.lastRead = .invalid ∧ t.cfs = s.cfs ∧ t.ptb = s.ptb ∧ t.lpt = s.lpt ∧
        t.pins = s.pins ∧ t.shu = s.shu ∧ t.stm = s.stm) ∧
    ((bad = .noAnswer ∨ ∃ y c, bad = .answer y c ∧
        (evenParity y c = false ∨ 60000 < y.toNat ∨
          ∃ h, s.mtc.right.value = some h ∧ 200 < ((y.toNat : Int) - h).natAbs)) →
      ∃ t, exec (.servoSample o bad) s = .next t ∧ t.mtc.right.value = s.mtc.right.value ∧
        t.mtc.right.invalidRun = min 65535 (s.mtc.right.invalidRun + 1) ∧
        t.mtc.right.lastRead = .invalid ∧ t.cfs = s.cfs ∧ t.ptb = s.ptb ∧ t.lpt = s.lpt ∧
        t.pins = s.pins ∧ t.shu = s.shu ∧ t.stm = s.stm)

/-- R130, R156, R167, R169: the sample at which the left invalid run reaches 3 latches ENCODER_L: the
record is written, FAULT is asserted, MTC stands in FAULT_STOP with its outputs off, the claim is STILL
and the service state FAULTED. As a second fault (R168) it joins the cause set and the recorded causes; the
first cause and the picture of the record stay, and a trim ends. -/
def Obligations.ThirdInvalidReadLatchesTheFault : Prop :=
  ∀ (s : State) (l r : EncoderRead), s.cfs.out = false →
    s.mtc.left.invalidRun = 2 → judgeRead s.mtc.left.value l = none →
    (s.fmn.causes = noCauses → ∃ t, exec (.encoderFault .left l r) s = .next t ∧
      t.fmn.causes.encoderL = true ∧ t.fmn.faultLine = true ∧
      (∃ x, t.fmn.record = some x ∧ x.first = .encoderL ∧ x.motion = s.mtc.motion ∧
        x.number = (if s.clu.state = .still then s.clu.lastNumber else s.clu.number)) ∧
      t.mtc.motion = .faultStop ∧ t.mtc.driveL = 0 ∧ t.mtc.driveR = 0 ∧ t.mtc.pump = false ∧
      t.mtc.valve = false ∧ t.mtc.movement = none ∧ t.mtc.limits = none ∧
      t.clu.state = .still ∧ t.osl.service = .faulted ∧ t.act.causes &&& 0x001 = 0x001 ∧
      t.mtc.closureRequest = s.mtc.closureRequest ∧
      t.ptb = s.ptb ∧ t.shu = s.shu ∧ t.stm = s.stm ∧ t.lpt = s.lpt ∧ t.cfs = s.cfs) ∧
    (s.fmn.causes ≠ noCauses → s.fmn.causes.encoderL = false → s.faultMotionOk = true →
      ∃ t, exec (.encoderFault .left l r) s = .next t ∧
        t.fmn.causes.encoderL = true ∧
        (∀ c, s.fmn.causes.has c = true → t.fmn.causes.has c = true) ∧
        t.fmn.faultLine = s.fmn.faultLine ∧ t.act.causes &&& 0x001 = 0x001 ∧
        t.mtc.motion = .faultStop ∧ t.clu.state = .still ∧ t.osl.service = s.osl.service ∧
        (∀ x, s.fmn.record = some x → ∃ y, t.fmn.record = some y ∧
          y = { x with recorded := y.recorded } ∧ y.recorded.encoderL = true ∧
          (∀ c, x.recorded.has c = true → y.recorded.has c = true)) ∧
        t.ptb = s.ptb ∧ t.shu = s.shu ∧ t.stm = s.stm ∧ t.lpt = s.lpt ∧ t.cfs = s.cfs)

/-- R132, R188, R190: the channel values change only at servo samples and resets; the working copy, the OUT
mark and START_REPORT only at resets. That the store and its write mark change only there and when a store
completes is the model's choice: a store takes effect whole at its end (log 41) and shows its steps only where a
reset cuts it short (log 8), while R194 sets the mark at step 1 and writes the words before the end. -/
def Obligations.ReadingsAndConfigurationChangeOnlyAtTheirEvents : Prop :=
  ∀ (c : Instr) (s t : State), exec c s = .next t →
    match c with
    | .powerOnReset _ _ | .pinReset _ _ | .restart _ _ _ => True
    | c =>
      t.cfs.working = s.cfs.working ∧ t.cfs.out = s.cfs.out ∧
      t.cfs.startReport = s.cfs.startReport ∧
      (c ≠ .storeComplete → t.cfs.store = s.cfs.store ∧ t.cfs.writeMark = s.cfs.writeMark) ∧
      match c with
      | .servoSample _ _ | .encoderFault _ _ _ | .stallWindowEnd _ _ _ | .settleCountFull _ _ =>
        True
      | _ => t.mtc.left = s.mtc.left ∧ t.mtc.right = s.mtc.right

/-- R125, R126, R127: the results of the conversions lie in [0, OPEN_MAX] and [s_0, s_8], and how the two conversions relate, for every table that passes R124. In segment k, n is t - o_k and
m the count of the inverse: it rounded up or met a whole count exactly where m × (o_k+1 - o_k) is at
least n × (s_k+1 - s_k). -/
def Obligations.ConversionsRoundTrip : Prop :=
  ∀ w : Words, wordNat w 32 ≤ 60000 → wordNat w 40 ≤ 15000 →
    risesStrictly (geometryStrokes w) = true → risesStrictly (geometryOpenings w) = true →
    segmentsSteep (geometryStrokes w) (geometryOpenings w) = true →
    (∀ x, forward w x ≤ Param.openMax w ∧ Param.strokeMin w ≤ inverse w x ∧
      inverse w x ≤ Param.strokeMax w) ∧
    (∀ t, t ≤ Param.openMax w →
      (t = Param.openMax w → forward w (inverse w t) = t) ∧
      (∀ k sk ok sk1 ok1, (geometryPoints w)[k]? = some (sk, ok) →
        (geometryPoints w)[k + 1]? = some (sk1, ok1) → ok ≤ t → t < ok1 →
        ((t - ok) * (sk1 - sk) ≤ (inverse w t - sk) * (ok1 - ok) → forward w (inverse w t) = t) ∧
        ((inverse w t - sk) * (ok1 - ok) < (t - ok) * (sk1 - sk) →
          forward w (inverse w t) + 1 = t))) ∧
    (∀ x, Param.strokeMin w ≤ x → x ≤ Param.strokeMax w →
      inverse w (forward w x) ≤ x ∧
      (forward w x < Param.openMax w → x ≤ inverse w (forward w x + 1)) ∧
      (forward w x = Param.openMax w → x = Param.strokeMax w))

/-! ## Hoist motion -/

/-- R139: the pump, the holding valve and the drives follow the motion state and phase at every step, and
every drive stays in [-1000, +1000]. While HOLD_IN is active both drives stay 0, and in phase MOVE of a trim
(R160) the drive of the hoist that is not trimmed does. MTC stays RUNNING or STOPPING only while CLU holds a
GRANTED claim or SURGE is selected (R48, R144). -/
def Obligations.EveryStepKeepsTheOutputs : Prop :=
  ∀ s t : State, step s = .next t →
    (s.outputsOk = true → s.drivesOk = true → t.outputsOk = true ∧ t.drivesOk = true) ∧
    (s.outputsOk = true → s.outOk = true → s.holdDrivesOk = true → s.trimDrivesOk = true →
      t.holdDrivesOk = true ∧ t.trimDrivesOk = true) ∧
    (s.movementOk = true → s.selectionOk = true → s.faultMotionOk = true → s.outOk = true →
      t.movementOk = true ∧ t.motionOk = true)

/-- R145: one advance of the profile moves the setpoint toward the end by at most v and never past it;
after it v lies in [a, v_max], where v_max is at least 1. -/
def Obligations.ProfileNeverPassesItsEnd : Prop :=
  ∀ (w : Words) (m : Mtc) (x e : Nat), m.setpoint = some x → m.goal = some e →
    m.v ≤ vMax w (m.speed.getD .normal) →
    ∃ x', (m.advance w).setpoint = some x' ∧
      (x ≤ e → x ≤ x' ∧ x' ≤ e ∧ x' - x ≤ (m.advance w).v) ∧
      (e ≤ x → e ≤ x' ∧ x' ≤ x ∧ x - x' ≤ (m.advance w).v) ∧
      (m.advance w).v ≤ max (accel w (m.speed.getD .normal)) (vMax w (m.speed.getD .normal)) ∧
      (1 ≤ vMax w (m.speed.getD .normal) →
        accel w (m.speed.getD .normal) ≤ (m.advance w).v ∧
        (m.advance w).v ≤ vMax w (m.speed.getD .normal)) ∧
      (m.advance w).goal = some e

/-- R141, R142, R160: PUMP_SETTLE expires in PRIMING or TRIM: the holding valve is released, phase RELEASE,
and the release timer of 200 ms runs. What its expiry makes of PRIMING, row by row, and of a trim. -/
def Obligations.PrimingPumpsThenReleases : Prop :=
  ∀ s : State,
    (s.mtc.pumpSettle.isSome = true → (s.mtc.motion = .priming ∨ s.mtc.motion = .trim) →
      exec .pumpSettle s = .next (s.setMtc { s.mtc with
        phase := some .release, pump := true, valve := true, driveL := 0, driveR := 0,
        skewHold := false, pumpSettle := none, release := some 200 })) ∧
    (s.mtc.release.isSome = true →
      (s.mtc.motion = .priming → s.mtc.stopKind = some .target →
        ∃ t, exec .releaseTimer s = .next t ∧ t.mtc.motion = .settling ∧ t.mtc.v = 0 ∧
          t.mtc.goal = s.mtc.setpoint ∧ t.mtc.setpoint = s.mtc.setpoint ∧
          t.mtc.settleCount = 0 ∧ t.mtc.settleTimeout = some 5000 ∧ t.clu = s.clu) ∧
      (s.mtc.motion = .priming → s.mtc.stopKind = none → s.mtc.movement.isSome = true →
        ∃ t, exec .releaseTimer s = .next t ∧ t.mtc.motion = .running ∧ t.mtc.v = 0 ∧
          t.mtc.movement = s.mtc.movement ∧ t.mtc.setpoint = s.mtc.setpoint ∧
          t.mtc.goal = s.mtc.goal ∧ t.mtc.pump = true ∧ t.mtc.valve = true ∧
          t.mtc.release = none ∧ t.clu = s.clu ∧ t.osl = s.osl ∧ t.ptb = s.ptb) ∧
      (s.mtc.motion = .priming → s.mtc.stopKind = none → s.mtc.movement = none →
        s.mtc.closureRequest = true → ∀ q, s.mtc.setpoint = some q →
        256 * Param.strokeMin s.cfs.working < q →
        ∃ t, exec .releaseTimer s = .next t ∧ t.mtc.motion = .running ∧
          t.mtc.movement = some .closure ∧ t.mtc.goal = some (256 * Param.strokeMin s.cfs.working) ∧
          t.mtc.speed = some .fast ∧ t.mtc.direction = some .lower ∧ t.mtc.v = 0) ∧
      (s.mtc.motion = .priming → s.mtc.stopKind = none → s.mtc.movement = none →
        s.mtc.closureRequest = false → Param.runOn s.cfs.working ≠ 0 →
        ∃ t, exec .releaseTimer s = .next t ∧ t.mtc.motion = .holding ∧ t.mtc.valve = false ∧
          t.mtc.pump = true ∧ t.mtc.runOn = some (Param.runOn s.cfs.working)) ∧
      (∀ r, s.mtc.motion = .trim → s.mtc.trim = some r →
        ∃ t, exec .releaseTimer s = .next t ∧ t.mtc.motion = .trim ∧ t.mtc.phase = some .move ∧
          t.mtc.trim = some { r with setpoint := some (256 * (r.start : Int)) } ∧
          t.mtc.pump = true ∧ t.mtc.valve = true))

/-- R148, R52: SETTLING ends in HOLDING, by its timeout or by its 25th in-band sample: the valve engages,
RUN_ON starts, the setpoint is kept, the movement ends, and the GRANTED claim of a stride is resolved
GRANTED. -/
def Obligations.SettlingEndsInHolding : Prop :=
  ∀ (s : State) (l r : EncoderRead) (c : Instr), s.mtc.motion = .settling →
    s.mtc.closureRequest = false → Param.runOn s.cfs.working ≠ 0 →
    (c = .settleTimeout ∧ s.mtc.settleTimeout.isSome = true ∨
      c = .settleCountFull l r ∧ s.fillsSettleCount l r = true) →
    ∃ t, exec c s = .next t ∧ t.mtc.motion = .holding ∧ t.mtc.valve = false ∧
      t.mtc.pump = true ∧ t.mtc.driveL = 0 ∧ t.mtc.driveR = 0 ∧
      t.mtc.runOn = some (Param.runOn s.cfs.working) ∧ t.mtc.settleTimeout = none ∧
      t.mtc.movement = none ∧ t.mtc.limits = none ∧ t.mtc.setpoint = s.mtc.setpoint ∧
      (s.mtc.movement = some .stride → s.clu.state = .granted →
        t.clu.lastOutcome = .granted ∧ t.clu.lastNumber = s.clu.number ∧
        (s.cfs.out = false → s.lif.line ≠ .off → t.lif.statusASlot = true)) ∧
      t.ptb = s.ptb ∧ t.shu = s.shu ∧ t.stm = s.stm ∧ t.cfs = s.cfs ∧ t.lpt = s.lpt

/-- R149: RUN_ON expires in HOLDING with no closure wanted: STOPPED, pump off. That the setpoint is kept in
STOPPED is the model's choice of log 10, from R148 against 8.1. R161: 5000 ms after the trim
setpoint reached its limit the trim ends in FAULT_STOP, pump off and valve engaged. -/
def Obligations.RunOnAndTrimEndWithThePumpOff : Prop :=
  ∀ s : State,
    (s.mtc.motion = .holding → s.mtc.runOn.isSome = true → s.mtc.closureRequest = false →
      ∃ t, exec .runOn s = .next t ∧ t.mtc.motion = .stopped ∧ t.mtc.pump = false ∧
        t.mtc.valve = false ∧ t.mtc.runOn = none ∧ t.mtc.setpoint = s.mtc.setpoint ∧
        t.ptb = s.ptb ∧ t.osl = s.osl ∧ t.fmn = s.fmn) ∧
    (s.mtc.motion = .trim → s.mtc.trimLimit.isSome = true →
      ∃ t, exec .trimLimitTimeout s = .next t ∧ t.mtc.motion = .faultStop ∧
        t.mtc.pump = false ∧ t.mtc.valve = false ∧ t.mtc.driveL = 0 ∧ t.mtc.driveR = 0 ∧
        t.mtc.trim = none ∧ t.mtc.trimLimit = none ∧ t.fmn = s.fmn ∧ t.clu = s.clu ∧
        t.ptb = s.ptb ∧ t.osl = s.osl)

/-- R155: in SETTLING, a left hoist at full drive whose stall window ends at this sample with a stroke
within 1 count of its reference latches STALL_L and stops the gate. -/
def Obligations.StalledHoistIsLatched : Prop :=
  ∀ (s : State) (x : BitVec 16) (check : Bool) (r : EncoderRead) (ref q : Nat),
    s.cfs.out = false → s.fmn.causes = noCauses → s.mtc.motion = .settling →
    s.pins.holdIn = false → s.mtc.skewHold = false →
    s.mtc.left.value = some x.toNat → evenParity x check = true → x.toNat ≤ 60000 →
    s.mtc.right.invalidRun < 2 →
    (s.mtc.right.take r).value = some x.toNat →
    Param.strokeMin s.cfs.working ≤ x.toNat → x.toNat ≤ Param.strokeMax s.cfs.working →
    1 ≤ Param.skewWarn s.cfs.working → 1 ≤ Param.skewTrip s.cfs.working →
    s.mtc.setpoint = some q →
    (loopDrive s.cfs.working ((q / 256 : Nat) - (x.toNat : Int))).natAbs = 1000 →
    s.mtc.stallL.run + 1 = Param.stallWindow s.cfs.working → 1 ≤ s.mtc.stallL.run →
    s.mtc.stallL.ref = some ref → ((x.toNat : Int) - ref).natAbs < 2 →
    ∃ t, exec (.stallWindowEnd .left (.answer x check) r) s = .next t ∧
      t.fmn.causes.stallL = true ∧ t.fmn.faultLine = true ∧ t.mtc.motion = .faultStop ∧
      t.mtc.driveL = 0 ∧ t.mtc.driveR = 0 ∧ t.mtc.pump = false ∧ t.mtc.valve = false ∧
      t.osl.service = .faulted ∧ t.clu.state = .still

/-- R130, R155, R156, R167, R169: the right hoist in the same way. The sample at which its invalid run alone
reaches 3 latches ENCODER_R; in SETTLING, at full drive with a stroke within 1 count of its reference at the
end of its window, it latches STALL_R. Each stops the gate. -/
def Obligations.RightHoistLatchesItsOwnFaults : Prop :=
  ∀ s : State, s.cfs.out = false → s.fmn.causes = noCauses →
    (∀ l r : EncoderRead, s.mtc.right.invalidRun = 2 → judgeRead s.mtc.right.value r = none →
      (s.mtc.left.invalidRun ≠ 2 ∨ judgeRead s.mtc.left.value l ≠ none) →
      ∃ t, exec (.encoderFault .right l r) s = .next t ∧ t.fmn.causes.encoderR = true ∧
        t.fmn.causes.encoderL = false ∧ t.fmn.faultLine = true ∧
        (∃ x, t.fmn.record = some x ∧ x.first = .encoderR ∧ x.motion = s.mtc.motion ∧
          x.number = (if s.clu.state = .still then s.clu.lastNumber else s.clu.number)) ∧
        t.mtc.motion = .faultStop ∧ t.mtc.driveL = 0 ∧ t.mtc.driveR = 0 ∧ t.mtc.pump = false ∧
        t.mtc.valve = false ∧ t.mtc.movement = none ∧ t.mtc.limits = none ∧
        t.clu.state = .still ∧ t.osl.service = .faulted ∧ t.act.causes &&& 0x001 = 0x001 ∧
        t.mtc.closureRequest = s.mtc.closureRequest ∧
        t.ptb = s.ptb ∧ t.shu = s.shu ∧ t.stm = s.stm ∧ t.lpt = s.lpt ∧ t.cfs = s.cfs) ∧
    (∀ (x : BitVec 16) (check : Bool) (l : EncoderRead) (ref q : Nat), s.mtc.motion = .settling →
      s.pins.holdIn = false → s.mtc.skewHold = false →
      s.mtc.right.value = some x.toNat → evenParity x check = true → x.toNat ≤ 60000 →
      s.mtc.left.invalidRun < 2 → (s.mtc.left.take l).value = some x.toNat →
      Param.strokeMin s.cfs.working ≤ x.toNat → x.toNat ≤ Param.strokeMax s.cfs.working →
      1 ≤ Param.skewWarn s.cfs.working → 1 ≤ Param.skewTrip s.cfs.working →
      s.mtc.setpoint = some q →
      (loopDrive s.cfs.working ((q / 256 : Nat) - (x.toNat : Int))).natAbs = 1000 →
      s.mtc.stallR.run + 1 = Param.stallWindow s.cfs.working → 1 ≤ s.mtc.stallR.run →
      s.mtc.stallR.ref = some ref → ((x.toNat : Int) - ref).natAbs < 2 →
      ∃ t, exec (.stallWindowEnd .right l (.answer x check)) s = .next t ∧
        t.fmn.causes.stallR = true ∧ t.fmn.faultLine = true ∧ t.mtc.motion = .faultStop ∧
        t.mtc.driveL = 0 ∧ t.mtc.driveR = 0 ∧ t.mtc.pump = false ∧ t.mtc.valve = false ∧
        t.osl.service = .faulted ∧ t.clu.state = .still)

/-! ## Resets -/

/-- R198, R184: a power-on reset replaces the reset-cause set with {POWER}, a pin reset adds PIN and a
RESTART adds RESTART; the host removes causes by writing 1 to their bits; nothing else changes the set. -/
def Obligations.ResetsGatherTheirCauses : Prop :=
  ∀ (s : State) (l r : EncoderRead) (b : Byte) (w : Word),
    (∃ t, exec (.powerOnReset l r) s = .next t ∧ t.lpt.resetCause = 0b001) ∧
    (∃ t, exec (.pinReset l r) s = .next t ∧ t.lpt.resetCause = s.lpt.resetCause ||| 0b010) ∧
    (s.cfs.storeBusy = false →
      ∃ t, exec (.restart b l r) s = .next t ∧
        t.lpt.resetCause = s.lpt.resetCause ||| 0b100) ∧
    (∃ c, exec (.resetCauseWrite w) s = .next (s.setLpt { s.lpt with resetCause := c }) ∧
      ∀ i, c.getLsbD i = (s.lpt.resetCause.getLsbD i && !w.getLsbD i)) ∧
    (∀ (c : Instr) (t : State), exec c s = .next t →
      match c with
      | .powerOnReset _ _ | .pinReset _ _ | .restart _ _ _ | .resetCauseWrite _ => True
      | _ => t.lpt.resetCause = s.lpt.resetCause)

/-- R18, R36, R37, R64, R83, R122, R164, R190, R199: a reset of a station whose store fails the check. It is
OUT: the working copy is the store, the table holds bays 1 to 32, no attempt begins and no valve is driven;
the conditions follow their pins (R181). R180, R208: a power-on or pin reset clears the fault record and leaves
ACT at its reset values; a RESTART keeps the record and the counters but for their last conditions. R194, R195:
a power-on or pin reset during a store leaves the store as it was, or complete, or with the write mark set and
some of its words written, the check word only after all the others; in the last case the report is CHECK_WORD
and the station is OUT. -/
def Obligations.FailedCheckStartsInOut : Prop :=
  (∀ (s : State) (l r : EncoderRead) (b : Byte) (c : Instr),
    c ∈ [Instr.powerOnReset l r, .pinReset l r, .restart b l r] → s.cfs.storeBusy = false →
    startReportOf s.cfs.writeMark s.cfs.store ≠ .passed →
    ∃ t, exec c s = .next t ∧
      t.cfs = { store := s.cfs.store, writeMark := s.cfs.writeMark, working := s.cfs.store,
                out := true, startReport := startReportOf s.cfs.writeMark s.cfs.store,
                imageReport := .passed, image := none, storeBusy := false } ∧
      t.lif = lifReset ∧ t.ptb = { entries := entriesReset 1 32, listen := none } ∧
      t.clu = cluReset ∧ t.shu = shuReset ∧ t.osl = oslReset .out ∧
      t.stm = { stmReset with settle := some 3000 } ∧ t.mtc = mtcReset ∧
      t.fmn.causes = noCauses ∧ t.fmn.faultLine = false ∧ t.fmn.hold = s.pins.holdIn ∧
      t.fmn.supplyLow = !s.pins.supplyGood ∧ t.fmn.lineOff = false ∧ t.fmn.good = none ∧
      t.act.causes = 0 ∧ t.act.mask = 0x3FF ∧ t.act.attn = false ∧
      (c ≠ .restart b l r → t.fmn.record = none ∧ t.act = actReset) ∧
      (c = .restart b l r → t.fmn.record = s.fmn.record ∧
        t.act.freezeOnFull = s.act.freezeOnFull ∧ t.act.frozen = s.act.frozen ∧
        ∀ n, t.act.counters.get n = (s.act.counters.get n).map fun k => { k with last := false }) ∧
      t.lpt = lptReset t.lpt.resetCause s.lpt.transaction.afterReset ∧ t.pins = s.pins) ∧
  (∀ (s : State) (l r : EncoderRead) (c : Instr) (w : Words),
    c ∈ [Instr.powerOnReset l r, .pinReset l r] → s.cfs.storeBusy = true → s.cfs.image = some w →
    w.length = 53 → s.cfs.store.length = 53 →
    ∃ t, exec c s = .next t ∧ t.cfs.working = t.cfs.store ∧ t.cfs.image = none ∧
      t.cfs.storeBusy = false ∧ t.cfs.imageReport = .passed ∧
      t.cfs.startReport = startReportOf t.cfs.writeMark t.cfs.store ∧
      (t.cfs.out = true ↔ t.cfs.startReport ≠ .passed) ∧
      (t.cfs.store = s.cfs.store ∧ t.cfs.writeMark = s.cfs.writeMark ∨
        t.cfs.store = w.take 52 ++ [checkWord w] ∧ t.cfs.writeMark = false ∨
        t.cfs.writeMark = true ∧ t.cfs.startReport = .checkWord ∧ t.cfs.out = true ∧
          t.cfs.store.length = 53 ∧
          (∀ k, k < 52 → t.cfs.store[k]? = s.cfs.store[k]? ∨ t.cfs.store[k]? = w[k]?) ∧
          (t.cfs.store[52]? = s.cfs.store[52]? ∨
            t.cfs.store = w.take 52 ++ [checkWord w])) ∧
      (t.cfs.out = true → t.lif = lifReset ∧ t.clu = cluReset ∧ t.shu = shuReset ∧
        t.osl = oslReset .out ∧ t.mtc = mtcReset ∧ t.act = actReset ∧
        t.fmn.causes = noCauses ∧ t.fmn.record = none))

/-- R18, R26, R36, R64, R83, R115, R121, R131, R190: a reset of a station whose store passes the check. The
listen period and the settle timer run, both statuses are due, the first servo sample has judged both
encoders, and an active SURGE_IN has raised the epoch. R180, R208: every cause is masked and ATTN released. A
power-on or pin reset leaves the counters at their reset values, and no fault record but that of a fault found
at the start; a RESTART keeps the record unless such a fault writes it anew, the freeze-on-full, what each
counter selects and how, and, where frozen, the frozen values. -/
def Obligations.PassedCheckStartsListening : Prop :=
  ∀ (s : State) (l r : EncoderRead) (b : Byte) (c : Instr),
    c ∈ [Instr.powerOnReset l r, .pinReset l r, .restart b l r] → s.cfs.storeBusy = false →
    startReportOf s.cfs.writeMark s.cfs.store = .passed →
    ∃ t, exec c s = .next t ∧
      t.cfs = { store := s.cfs.store, writeMark := s.cfs.writeMark, working := s.cfs.store,
                out := false, startReport := .passed, imageReport := .passed, image := none,
                storeBusy := false } ∧
      t.ptb = { entries := entriesReset (Param.bayFirst s.cfs.store) (Param.bayLast s.cfs.store),
                listen := some (Param.peerTimeout s.cfs.store) } ∧
      t.lif = { lifReset with
        statusASlot := true, statusBSlot := true, sinceStatusA := some 0, sinceStatusB := some 0,
        surgeSlot := if s.pins.surgeIn then some 1 else none } ∧
      t.clu.state = .still ∧ t.clu.number = 0 ∧ t.clu.lastNumber = 0 ∧
      t.clu.lastOutcome = .abandoned ∧ t.clu.fresh = true ∧ t.clu.freshTaken = false ∧
      t.shu = shuReset ∧
      t.stm = { stmReset with
        settle := some (Param.peerTimeout s.cfs.store)
        epoch := if s.pins.surgeIn then 1 else 0 } ∧
      t.mtc.left = channelReset.take l ∧ t.mtc.right = channelReset.take r ∧
      t.osl.service = t.serviceNow ∧ t.fmn.hold = s.pins.holdIn ∧
      t.fmn.supplyLow = !s.pins.supplyGood ∧ t.fmn.lineOff = false ∧ t.fmn.good = none ∧
      t.act.mask = 0x3FF ∧ t.act.attn = false ∧
      (t.fmn.causes = noCauses → t.fmn.faultLine = false ∧
        (c ≠ .restart b l r → t.fmn.record = none) ∧
        (c = .restart b l r → t.fmn.record = s.fmn.record)) ∧
      (t.fmn.causes ≠ noCauses → t.fmn.faultLine = true ∧ t.act.causes &&& 0x001 = 0x001 ∧
        ∃ x, t.fmn.record = some x ∧ x.recorded = t.fmn.causes) ∧
      (c ≠ .restart b l r → t.act.counters = actReset.counters ∧ t.act.freezeOnFull = false ∧
        t.act.frozen = false) ∧
      (c = .restart b l r → t.act.freezeOnFull = s.act.freezeOnFull ∧
        (s.act.frozen = true → t.act.frozen = true) ∧
        ∀ n k, s.act.counters.get n = some k → ∃ d, t.act.counters.get n = some d ∧
          d.selected = k.selected ∧ d.threshold = k.threshold ∧ d.invert = k.invert ∧
          d.edge = k.edge ∧
          (s.act.frozen = true → d.value = k.value ∧ d.half = k.half ∧ d.full = k.full)) ∧
      t.lpt = lptReset t.lpt.resetCause s.lpt.transaction.afterReset ∧ t.pins = s.pins

/-! ## What every step keeps -/

/-- R207: ATTN is asserted while at least one cause is both set and unmasked, and released otherwise: every
step keeps it so. -/
def Obligations.EveryStepKeepsAttn : Prop :=
  ∀ s t : State, s.attnOk = true → step s = .next t → t.attnOk = true

/-- R156, R170, R178: every step keeps the FAULT line asserted exactly while a cause is latched, and a
latched fault keeps the claim STILL and MTC in FAULT_STOP, or in TRIM with the cause set {SKEW_TRIP}. -/
def Obligations.EveryStepKeepsTheFaultStop : Prop :=
  ∀ s t : State, s.faultLineOk = true → s.faultMotionOk = true → step s = .next t →
    t.faultLineOk = true ∧ t.faultMotionOk = true

/-- R86, R87, R92, R95: every step keeps the SURGE and TIDAL slots as STM has them, the selected slot the
one of R92 and the service state the one of R95. -/
def Obligations.EveryStepKeepsTheSelection : Prop :=
  ∀ s t : State, s.selectionOk = true → s.serviceOk = true → step s = .next t →
    t.selectionOk = true ∧ t.serviceOk = true

/-- R18, R19, R37, R103, R165, R175, R176: every step keeps one entry for each bay of the table, the ages and
rings bounded, HOLD with HOLD_IN and SUPPLY_LOW with the sense, and a station in OUT silent and still. Every
step keeps the failure count, the claim number, the epoch, the invalid runs and the data words in their
widths. -/
def Obligations.EveryStepKeepsTheRecords : Prop :=
  ∀ s t : State, step s = .next t →
    (s.tableOk = true → t.tableOk = true) ∧
    (s.agesOk = true → t.agesOk = true) ∧
    (s.ringsOk = true → t.ringsOk = true) ∧
    (s.conditionsOk = true → t.conditionsOk = true) ∧
    (s.outOk = true → t.outOk = true) ∧
    (s.widthsOk = true → t.widthsOk = true)

/-- The reset state meets every invariant that the statements above carry. -/
def Obligations.ResetMeetsTheInvariants : Prop :=
  State.reset.outputsOk = true ∧ State.reset.drivesOk = true ∧ State.reset.attnOk = true ∧
  State.reset.faultLineOk = true ∧ State.reset.faultMotionOk = true ∧
  State.reset.selectionOk = true ∧ State.reset.serviceOk = true ∧ State.reset.tableOk = true ∧
  State.reset.agesOk = true ∧ State.reset.ringsOk = true ∧ State.reset.conditionsOk = true ∧
  State.reset.outOk = true ∧ State.reset.widthsOk = true ∧ State.reset.holdDrivesOk = true ∧
  State.reset.trimDrivesOk = true ∧ State.reset.movementOk = true ∧ State.reset.motionOk = true

/-! ## Conditions -/

/-- R58, R139, R157, R175: HOLD_IN active takes HOLD and stops the gate at once; inactive it releases HOLD.
The claim in progress is ABANDONED, with no backoff. -/
def Obligations.HoldFollowsItsPin : Prop :=
  ∀ s : State, s.cfs.out = false →
    (s.pins.holdIn = false →
      ∃ t, exec .holdTaken s = .next t ∧ t.fmn = { s.fmn with hold := true } ∧
        t.pins = { s.pins with holdIn := true } ∧ t.mtc.motion = .faultStop ∧
        t.mtc.driveL = 0 ∧ t.mtc.driveR = 0 ∧ t.mtc.pump = false ∧ t.mtc.valve = false ∧
        t.mtc.movement = none ∧ t.mtc.trim = none ∧
        t.mtc.closureRequest = s.mtc.closureRequest ∧ t.clu.state = .still ∧
        t.clu.backoff = s.clu.backoff ∧
        (s.clu.state ≠ .still →
          t.clu.lastOutcome = .abandoned ∧ t.clu.lastNumber = s.clu.number) ∧
        t.osl.service = (if s.fmn.causes = noCauses then .held else .faulted) ∧
        t.ptb = s.ptb ∧ t.shu = s.shu ∧ t.stm = s.stm ∧ t.lpt = s.lpt ∧ t.cfs = s.cfs) ∧
    (s.pins.holdIn = true →
      ∃ t, exec .holdReleased s = .next t ∧ t.fmn = { s.fmn with hold := false } ∧
        t.pins = { s.pins with holdIn := false } ∧ t.osl.service = t.serviceNow ∧
        (s.fmn.causes ≠ noCauses → t.mtc = s.mtc) ∧
        t.ptb = s.ptb ∧ t.shu = s.shu ∧ t.stm = s.stm ∧ t.lpt = s.lpt ∧ t.cfs = s.cfs)

/-- R58, R157, R176: a supply that goes low takes SUPPLY_LOW and stops the gate at once; it must then be good
for the 1000 ms of the good timer before SUPPLY_LOW is released. The service state and the FAULT line do not
change. -/
def Obligations.SupplyLowFollowsTheSense : Prop :=
  ∀ s : State, s.cfs.out = false →
    (s.pins.supplyGood = true → s.fmn.supplyLow = false →
      ∃ t, exec .supplyGoesLow s = .next t ∧ t.fmn = { s.fmn with supplyLow := true } ∧
        t.pins = { s.pins with supplyGood := false } ∧ t.mtc.motion = .faultStop ∧
        t.mtc.driveL = 0 ∧ t.mtc.driveR = 0 ∧ t.mtc.pump = false ∧ t.mtc.valve = false ∧
        t.clu.state = .still ∧ t.clu.backoff = s.clu.backoff ∧ t.osl = s.osl ∧
        t.ptb = s.ptb ∧ t.shu = s.shu ∧ t.stm = s.stm ∧ t.lpt = s.lpt ∧ t.cfs = s.cfs) ∧
    (s.pins.supplyGood = true → s.fmn.supplyLow = true →
      exec .supplyGoesLow s = .next ((s.setPins { s.pins with supplyGood := false }).setFmn
        { s.fmn with good := none })) ∧
    (s.pins.supplyGood = false → s.fmn.supplyLow = true →
      exec .supplyGoesGood s = .next ((s.setPins { s.pins with supplyGood := true }).setFmn
        { s.fmn with good := some 1000 })) ∧
    (s.fmn.good.isSome = true →
      ∃ t, exec .goodTimer s = .next t ∧
        t.fmn = { s.fmn with good := none, supplyLow := false } ∧ t.osl = s.osl ∧
        (s.fmn.causes ≠ noCauses → t.mtc = s.mtc) ∧
        t.ptb = s.ptb ∧ t.shu = s.shu ∧ t.stm = s.stm ∧ t.lpt = s.lpt ∧ t.cfs = s.cfs)

/-! ## Stage, tide and surge -/

/-- R102, R103: a stage sample writes both rings, which keep the last 32: a code in the window of its channel
as the clamped stage of the scaling, another as the mark rejected. It changes nothing of the peer table, the
line's pins or the configuration. -/
def Obligations.StageSamplesEnterTheRings : Prop :=
  ∀ (s : State) (u d : BitVec 12), s.cfs.out = false →
    ∃ t xu xd, exec (.stageSample u d) s = .next t ∧
      t.stm.ringU = (s.stm.ringU ++ [xu]).drop (s.stm.ringU.length - 31) ∧
      t.stm.ringD = (s.stm.ringD ++ [xd]).drop (s.stm.ringD.length - 31) ∧
      (∀ c : Scaling, c = Param.scalingU s.cfs.working →
        (((u.toNat : Int) < c.raw4 - ((c.raw20 : Int) - c.raw4) / 40 ∨
          c.raw20 + ((c.raw20 : Int) - c.raw4) / 16 < (u.toNat : Int)) → xu = .rejected) ∧
        ((c.raw4 - ((c.raw20 : Int) - c.raw4) / 40 ≤ (u.toNat : Int) ∧
          (u.toNat : Int) ≤ c.raw20 + ((c.raw20 : Int) - c.raw4) / 16) →
          xu = .accepted (max (-10000) (min 20000 (c.st4 +
            ((u.toNat : Int) - c.raw4) * (c.st20 - c.st4) / ((c.raw20 : Int) - c.raw4)))))) ∧
      (∀ c : Scaling, c = Param.scalingD s.cfs.working →
        (((d.toNat : Int) < c.raw4 - ((c.raw20 : Int) - c.raw4) / 40 ∨
          c.raw20 + ((c.raw20 : Int) - c.raw4) / 16 < (d.toNat : Int)) → xd = .rejected) ∧
        ((c.raw4 - ((c.raw20 : Int) - c.raw4) / 40 ≤ (d.toNat : Int) ∧
          (d.toNat : Int) ≤ c.raw20 + ((c.raw20 : Int) - c.raw4) / 16) →
          xd = .accepted (max (-10000) (min 20000 (c.st4 +
            ((d.toNat : Int) - c.raw4) * (c.st20 - c.st4) / ((c.raw20 : Int) - c.raw4)))))) ∧
      t.stm.settled = s.stm.settled ∧ t.ptb = s.ptb ∧ t.shu = s.shu ∧ t.fmn = s.fmn ∧
      t.lpt = s.lpt ∧ t.cfs = s.cfs ∧ t.pins = s.pins

/-- R109 to R112, R114: with both own channels valid before and after the sample, the first head sets the
tidal state from UNKNOWN, the head sample that fills the confirm run changes the tidal state and the TIDAL
slot, and the sample that fills the surge run raises an even epoch and selects SURGE. R104 to R106: a sample
that changes a channel's own validity chooses both sources again, and a lost source sets STAGE_LOST; any other
sample leaves them. -/
def Obligations.FullRunsChangeTideAndSurge : Prop :=
  ∀ (s : State) (u d : BitVec 12), s.cfs.out = false →
    (∀ mu md : Int, ringValid s.stm.ringU = true → ringValid s.stm.ringD = true →
      ringMean (pushSample s.stm.ringU ((Param.scalingU s.cfs.working).sampleOf u)) = some mu →
      ringMean (pushSample s.stm.ringD ((Param.scalingD s.cfs.working).sampleOf d)) = some md →
      (s.stm.sourceU = .own → s.stm.sourceD = .own → s.stm.tidal = .unknown →
        ∃ t, exec (.stageSample u d) s = .next t ∧
          t.stm.tidal = (if 0 ≤ mu - md then .ebb else .flood) ∧ t.stm.confirmRun = 0 ∧
          t.osl.tidal = decide (mu - md < 0) ∧ t.act.causes &&& 0x004 = 0x004) ∧
      (s.stm.sourceU = .own → s.stm.sourceD = .own →
        Param.nConfirm s.cfs.working ≤ s.stm.confirmRun + 1 →
        (s.stm.tidal = .ebb ∧ mu - md ≤ -(Param.hFlood s.cfs.working : Int) ∨
          s.stm.tidal = .flood ∧ (Param.hEbb s.cfs.working : Int) ≤ mu - md) →
        ∃ t, exec (.tidalStateChange u d) s = .next t ∧
          t.stm.tidal = (if s.stm.tidal = .ebb then .flood else .ebb) ∧
          t.stm.confirmRun = 0 ∧ t.osl.tidal = (s.stm.tidal == .ebb) ∧
          t.act.causes &&& 0x004 = 0x004 ∧ t.ptb = s.ptb ∧ t.shu = s.shu) ∧
      (s.stm.surgeRun + 1 = Param.nSurge s.cfs.working → Param.surgeLevel s.cfs.working ≤ md →
        s.stm.epoch % 2 = 0 →
        ∃ t, exec (.surgeRunComplete u d) s = .next t ∧
          t.stm.surgeRun = Param.nSurge s.cfs.working ∧ t.stm.epoch = s.stm.epoch + 1 ∧
          t.osl.surge = true ∧ t.osl.selected = .surge ∧ t.act.causes &&& 0x002 = 0x002 ∧
          (s.lif.line ≠ .off → t.lif.surgeSlot = some (s.stm.epoch + 1)) ∧
          t.ptb = s.ptb ∧ t.shu = s.shu)) ∧
    (s.tableOk = true → ∃ t, exec (.stageSample u d) s = .next t ∧
      (ringValid t.stm.ringU = ringValid s.stm.ringU →
        ringValid t.stm.ringD = ringValid s.stm.ringD →
        t.stm.sourceU = s.stm.sourceU ∧ t.stm.sourceD = s.stm.sourceD) ∧
      (ringValid t.stm.ringU ≠ ringValid s.stm.ringU ∨
          ringValid t.stm.ringD ≠ ringValid s.stm.ringD →
        s.sourceFits (ringValid t.stm.ringU) Entry.up t.stm.sourceU ∧
        s.sourceFits (ringValid t.stm.ringD) Entry.down t.stm.sourceD) ∧
      (s.stm.sourceU ≠ .unavailable ∧ t.stm.sourceU = .unavailable ∨
          s.stm.sourceD ≠ .unavailable ∧ t.stm.sourceD = .unavailable →
        t.act.causes &&& 0x040 = 0x040))

/-- R112, R113, R115, R116, R121: SURGE_IN going active raises an even epoch, selects SURGE, asks for a SURGE frame
and abandons an ASKING or PENDING claim; an odd epoch stays as it is. Going inactive changes the level only.
The settle timer settles the station at the epoch it holds. RAISE SURGE raises a settled even epoch and
leaves an odd one; while unsettled it is refused STATE. -/
def Obligations.RaisesMakeAnEvenEpochOdd : Prop :=
  ∀ (s : State) (b : Byte), s.cfs.out = false →
    (s.pins.surgeIn = false → s.stm.epoch % 2 = 0 →
      ∃ t, exec .surgeInActive s = .next t ∧ t.stm = { s.stm with epoch := s.stm.epoch + 1 } ∧
        t.pins = { s.pins with surgeIn := true } ∧ t.osl.surge = true ∧
        t.osl.selected = .surge ∧ t.act.causes &&& 0x002 = 0x002 ∧
        (s.lif.line ≠ .off → t.lif.surgeSlot = some (s.stm.epoch + 1)) ∧
        (s.clu.state = .asking ∨ s.clu.state = .pending →
          t.clu.state = .still ∧ t.clu.lastOutcome = .abandoned ∧
          t.clu.lastNumber = s.clu.number ∧ t.clu.backoff = s.clu.backoff) ∧
        t.ptb = s.ptb ∧ t.shu = s.shu ∧ t.fmn = s.fmn ∧ t.lpt = s.lpt ∧ t.cfs = s.cfs) ∧
    (s.stm.epoch % 2 = 1 →
      exec .surgeInActive s = .next (s.setPins { s.pins with surgeIn := true })) ∧
    exec .surgeInInactive s = .next (s.setPins { s.pins with surgeIn := false }) ∧
    (s.stm.settle.isSome = true →
      exec .settleTimer s = .next (s.setStm { s.stm with settled := true, settle := none })) ∧
    (s.cfs.storeBusy = false → s.stm.settled = false →
      exec (.raiseSurge b) s =
        .next (answerCommand 0x04 .refusedState false (latchCommand 0x04 b s))) ∧
    (s.cfs.storeBusy = false → s.stm.settled = true → s.stm.epoch % 2 = 1 →
      exec (.raiseSurge b) s = .next (answerCommand 0x04 .done false (latchCommand 0x04 b s))) ∧
    (s.cfs.storeBusy = false → s.stm.settled = true → s.stm.epoch % 2 = 0 →
      ∃ t, exec (.raiseSurge b) s = .next t ∧ t.stm.epoch = s.stm.epoch + 1 ∧
        t.osl.surge = true ∧ t.osl.selected = .surge ∧
        (s.lif.line ≠ .off → t.lif.surgeSlot = some (s.stm.epoch + 1)) ∧
        (s.lif.line = .off → t.lif.surgeSlot = s.lif.surgeSlot) ∧
        t.act.causes &&& 0x202 = 0x202 ∧ t.lpt.answer = .done ∧ t.lpt.resultCode = 0x04 ∧
        t.lpt.clamped = false ∧ t.ptb = s.ptb ∧ t.shu = s.shu ∧ t.fmn = s.fmn)

/-- R117: CLEAR SURGE, by the first condition of its table that applies; DONE makes the odd epoch even, asks
for a SURGE frame and withdraws the SURGE slot. The premise on the stage condition leaves out a station that
would raise the cleared epoch again at once. -/
def Obligations.ClearSurgeAnswersByState : Prop :=
  ∀ (s : State) (b : Byte), s.cfs.storeBusy = false →
    (s.cfs.out = true ∨ s.stm.settled = false ∨ s.stm.epoch % 2 = 0 ∨ s.lif.line = .off →
      exec (.clearSurge b) s =
        .next (answerCommand 0x05 .refusedState false (latchCommand 0x05 b s))) ∧
    (s.cfs.out = false → s.stm.settled = true → s.stm.epoch % 2 = 1 → s.lif.line ≠ .off →
      (s.pins.surgeIn = true ∨ ∃ m, ringMean s.stm.ringD = some m ∧
        Param.surgeLevel s.cfs.working - Param.surgeHyst s.cfs.working ≤ m) →
      exec (.clearSurge b) s =
        .next (answerCommand 0x05 .refusedCausePersists false (latchCommand 0x05 b s))) ∧
    (s.cfs.out = false → s.stm.settled = true → s.stm.epoch % 2 = 1 → s.lif.line ≠ .off →
      s.pins.surgeIn = false →
      (∀ m, ringMean s.stm.ringD = some m →
        m < Param.surgeLevel s.cfs.working - Param.surgeHyst s.cfs.working) →
      s.stageCondition = false →
      ∃ t, exec (.clearSurge b) s = .next t ∧ t.stm.epoch = (s.stm.epoch + 1) % 16 ∧
        t.osl.surge = false ∧ t.lif.surgeSlot = some ((s.stm.epoch + 1) % 16) ∧
        t.osl.selected ≠ .surge ∧ t.act.causes &&& 0x202 = 0x202 ∧ t.lpt.answer = .done ∧
        t.lpt.resultCode = 0x05 ∧ t.ptb = s.ptb ∧ t.shu = s.shu ∧ t.fmn = s.fmn)

/-! ## Orders, floor and shares -/

/-- R88, R89, R91: SET LOCAL ORDER, WITHDRAW LOCAL ORDER and SET FLOOR, by the conditions of their tables; a
new floor re-selects. -/
def Obligations.LocalOrdersAndTheFloor : Prop :=
  ∀ (s : State) (b : Byte), s.cfs.storeBusy = false →
    (s.cfs.out = true ∨ s.commissioning = true →
      exec (.setLocalOrder b) s =
        .next (answerCommand 0x01 .refusedState false (latchCommand 0x01 b s)) ∧
      exec (.withdrawLocalOrder b) s =
        .next (answerCommand 0x02 .refusedState false (latchCommand 0x02 b s))) ∧
    (s.cfs.out = false → s.commissioning = false →
      ∃ t, exec (.setLocalOrder b) s = .next t ∧
        t.osl.localTarget = some (min s.lpt.operand0.toNat (Param.openMax s.cfs.working)) ∧
        t.osl.floor = s.osl.floor ∧ t.lpt.answer = .done ∧ t.lpt.resultCode = 0x01 ∧
        (t.lpt.clamped = true ↔ Param.openMax s.cfs.working < s.lpt.operand0.toNat) ∧
        t.ptb = s.ptb ∧ t.shu = s.shu ∧ t.stm = s.stm ∧ t.fmn = s.fmn ∧ t.cfs = s.cfs) ∧
    (s.cfs.out = false → s.commissioning = false → s.osl.localTarget = none →
      exec (.withdrawLocalOrder b) s =
        .next (answerCommand 0x02 .refusedState false (latchCommand 0x02 b s))) ∧
    (s.cfs.out = false → s.commissioning = false → s.osl.localTarget.isSome = true →
      ∃ t, exec (.withdrawLocalOrder b) s = .next t ∧ t.osl.localTarget = none ∧
        t.osl.selected ≠ .localOrder ∧ t.lpt.answer = .done ∧ t.lpt.resultCode = 0x02 ∧
        t.ptb = s.ptb ∧ t.shu = s.shu ∧ t.stm = s.stm ∧ t.fmn = s.fmn ∧ t.cfs = s.cfs) ∧
    (s.cfs.out = true → exec (.setFloor b) s =
      .next (answerCommand 0x06 .refusedState false (latchCommand 0x06 b s))) ∧
    (s.cfs.out = false → 6 < b.toNat → exec (.setFloor b) s =
      .next (answerCommand 0x06 .refusedRange false (latchCommand 0x06 b s))) ∧
    (s.cfs.out = false → b.toNat ≤ 6 →
      ∃ t, exec (.setFloor b) s = .next t ∧ t.osl.floor = b.toNat ∧
        t.osl.selected = t.osl.choose s.cfs.working ∧ t.lpt.answer = .done ∧
        t.lpt.resultCode = 0x06 ∧ t.osl.localTarget = s.osl.localTarget ∧
        t.osl.weirTarget = s.osl.weirTarget ∧
        t.ptb = s.ptb ∧ t.shu = s.shu ∧ t.stm = s.stm ∧ t.fmn = s.fmn ∧ t.cfs = s.cfs)

/-- R72, but for the adoption that follows on the line (R71): ISSUE WEIR ORDER queues an ORDER frame of the next stamp, its repeat flag clear and its aggregate
clamped to 480000, and writes nothing into the weir order record; it is refused STATE in OUT, in
commissioning and while the line state is OFF. -/
def Obligations.IssuedOrdersAreQueued : Prop :=
  ∀ (s : State) (b : Byte), s.cfs.storeBusy = false →
    (s.cfs.out = true ∨ s.commissioning = true ∨ s.lif.line = .off →
      exec (.issueWeirOrder b) s =
        .next (answerCommand 0x03 .refusedState false (latchCommand 0x03 b s))) ∧
    (s.cfs.out = false → s.commissioning = false → s.lif.line ≠ .off →
      ∃ t, exec (.issueWeirOrder b) s = .next t ∧
        t.lif.orderSlot = some {
          stamp := (match s.shu.order with | some o => (o.stamp + 1) % 4096 | none => 1)
          isRepeat := false
          aggregate := min 480000 (65536 * s.lpt.operand0.toNat + s.lpt.operand1.toNat) } ∧
        t.lpt.answer = .done ∧ t.lpt.resultCode = 0x03 ∧
        (t.lpt.clamped = true ↔
          480000 < 65536 * s.lpt.operand0.toNat + s.lpt.operand1.toNat) ∧
        t.act.causes &&& 0x200 = 0x200 ∧ t.shu = s.shu ∧ t.osl = s.osl ∧ t.ptb = s.ptb ∧
        t.clu = s.clu ∧ t.stm = s.stm ∧ t.mtc = s.mtc ∧ t.fmn = s.fmn ∧ t.cfs = s.cfs)

/-- R76 to R79: the shares of one computation of remainder r: each is at most the cap, and together they are
r, or the members' caps where r exceeds them. A member's weight is at least 1 (R19, R188). -/
def Obligations.SharesAddUpToTheRemainder : Prop :=
  ∀ (cap r : Nat) (members : List Member), 1 ≤ cap → members ≠ [] →
    (members.map fun m => m.bay).Nodup → (∀ m, m ∈ members → 1 ≤ m.weight) →
    (computeShares cap members r).map (fun x => x.1) = members.map (fun m => m.bay) ∧
    ((computeShares cap members r).map fun x => x.2).sum = min r (members.length * cap) ∧
    ∀ x, x ∈ computeShares cap members r → x.2 ≤ cap

/-! ## The host's commands -/

/-- R187, R205: while a store is in progress every command is answered REFUSED BUSY and reaches no block,
RESTART among them; otherwise a code absent from the table, or a COUNTER CONTROL action above 3, is answered
REFUSED RANGE and reaches no block. That an unknown code is answered BUSY too during a store is the model's
choice of log 16, and that an action above 3 is spelled as the unknown command is that of log 17. -/
def Obligations.BusyAndUnknownCommandsAreRefused : Prop :=
  ∀ (s : State) (w : Word) (l r : EncoderRead),
    (s.cfs.storeBusy = true → exec (instrOfCommand w l r) s =
      .next (answerCommand (commandCode w) .refusedBusy false
        (s.setLpt { s.lpt with command := w }))) ∧
    (s.cfs.storeBusy = false → isUnknownCommand (commandCode w) (commandByte w) = true →
      instrOfCommand w l r = .unknownCommand (commandCode w) (commandByte w) ∧
      exec (.unknownCommand (commandCode w) (commandByte w)) s =
        .next (answerCommand (commandCode w) .refusedRange false
          (s.setLpt { s.lpt with command := w })))

/-- R29, R31, R32: DECLARE BOUND and WITHDRAW DECLARATION for a neighbour that is not LIVE: the declaration
saves the presence and the bound once, and the withdrawal restores them; a LIVE neighbour and one without a
declaration refuse STATE, another bay or a bad range refuses RANGE. -/
def Obligations.DeclarationsSaveAndRestore : Prop :=
  ∀ (s : State) (b : Byte) (e : Entry), s.cfs.storeBusy = false → s.cfs.out = false →
    (s.isNeighbour b.toNat = false →
      exec (.declareBound b) s =
        .next (answerCommand 0x07 .refusedRange false (latchCommand 0x07 b s)) ∧
      exec (.withdrawDeclaration b) s =
        .next (answerCommand 0x08 .refusedRange false (latchCommand 0x08 b s))) ∧
    (s.lpt.operand1.toNat < s.lpt.operand0.toNat ∨ 15000 < s.lpt.operand1.toNat →
      exec (.declareBound b) s =
        .next (answerCommand 0x07 .refusedRange false (latchCommand 0x07 b s))) ∧
    (s.isNeighbour b.toNat = true → s.entry b.toNat = some e →
      s.lpt.operand0.toNat ≤ s.lpt.operand1.toNat → s.lpt.operand1.toNat ≤ 15000 →
      (e.presence = .live → exec (.declareBound b) s =
        .next (answerCommand 0x07 .refusedState false (latchCommand 0x07 b s))) ∧
      (e.presence ≠ .live → ∃ t, exec (.declareBound b) s = .next t ∧
        t.entry b.toNat = some { e with
          presence := .declared
          bound := some { lo := s.lpt.operand0.toNat, hi := s.lpt.operand1.toNat }
          saved := if e.presence = .declared then e.saved
            else some { presence := e.presence, bound := e.bound } } ∧
        (∀ k, k ≠ b.toNat → t.entry k = s.entry k) ∧ t.lpt.answer = .done ∧
        t.lpt.resultCode = 0x07 ∧ t.osl = s.osl ∧ t.mtc = s.mtc ∧ t.stm = s.stm)) ∧
    (s.isNeighbour b.toNat = true → s.entry b.toNat = some e →
      (e.saved = none → exec (.withdrawDeclaration b) s =
        .next (answerCommand 0x08 .refusedState false (latchCommand 0x08 b s))) ∧
      (∀ x, e.saved = some x → ∃ t, exec (.withdrawDeclaration b) s = .next t ∧
        t.entry b.toNat = some { e with presence := x.presence, bound := x.bound, saved := none } ∧
        (∀ k, k ≠ b.toNat → t.entry k = s.entry k) ∧ t.lpt.answer = .done ∧
        t.lpt.resultCode = 0x08 ∧
        (s.ptb.listen = none → x.bound = none → t.act.causes &&& 0x020 = 0x020) ∧
        t.osl = s.osl ∧ t.mtc = s.mtc ∧ t.stm = s.stm))

/-- R171, R172, R173: FAULT RESET, by the first condition of its table that applies; DONE empties the cause
set, releases FAULT, keeps the fault record and the conditions, and takes MTC to STOPPED where no closure is
wanted. -/
def Obligations.FaultResetClearsAllOrNothing : Prop :=
  ∀ (s : State) (b : Byte), s.cfs.storeBusy = false →
    (s.cfs.out = true ∨ s.fmn.causes = noCauses →
      exec (.faultReset b) s =
        .next (answerCommand 0x09 .refusedState false (latchCommand 0x09 b s))) ∧
    (s.cfs.out = false →
      (s.fmn.causes.duplicateBay = true ∨
        (s.fmn.causes.encoderL = true ∧ s.mtc.left.lastRead = .invalid) ∨
        (s.fmn.causes.encoderR = true ∧ s.mtc.right.lastRead = .invalid) ∨
        (s.fmn.causes.skewTrip = true ∧ ∃ k, s.mtc.skew = some k ∧
          Param.skewTrip s.cfs.working ≤ k.natAbs) ∨
        (s.fmn.causes.overtravel = true ∧ ∃ x, (s.mtc.left.value = some x ∨
          s.mtc.right.value = some x) ∧ (x + 50 < Param.strokeMin s.cfs.working ∨
            Param.strokeMax s.cfs.working + 50 < x))) →
      exec (.faultReset b) s =
        .next (answerCommand 0x09 .refusedCausePersists false (latchCommand 0x09 b s))) ∧
    (s.cfs.out = false → s.fmn.causes ≠ noCauses → s.anyPersists = false →
      ∃ t, exec (.faultReset b) s = .next t ∧
        t.fmn = { s.fmn with causes := noCauses, faultLine := false } ∧
        t.osl.service = t.serviceNow ∧ t.lpt.answer = .done ∧ t.lpt.resultCode = 0x09 ∧
        (s.mtc.motion = .faultStop ∨ s.mtc.motion = .trim → s.mtc.closureRequest = false →
          t.mtc.motion = .stopped ∧ t.mtc.pump = false ∧ t.mtc.valve = false ∧
          t.mtc.driveL = 0 ∧ t.mtc.driveR = 0) ∧
        t.act.causes &&& 0x200 = 0x200 ∧
        t.ptb = s.ptb ∧ t.shu = s.shu ∧ t.stm = s.stm ∧ t.cfs = s.cfs)

/-- R159: TRIM, by the first condition of its table that applies; DONE sets the trim record of the named
hoist, toward the other hoist's stroke, and begins phase SETTLE with the pump on. -/
def Obligations.TrimBeginsTowardTheOtherHoist : Prop :=
  ∀ (s : State) (b : Byte), s.cfs.storeBusy = false →
    (s.cfs.out = true ∨ s.commissioning = true → exec (.trim b) s =
      .next (answerCommand 0x0A .refusedState false (latchCommand 0x0A b s))) ∧
    (s.cfs.out = false → s.commissioning = false → 1 < b.toNat → exec (.trim b) s =
      .next (answerCommand 0x0A .refusedRange false (latchCommand 0x0A b s))) ∧
    (s.cfs.out = false → s.commissioning = false → b.toNat ≤ 1 →
      (s.fmn.causes ≠ onlySkewTrip ∨ s.mtc.motion ≠ .faultStop ∨ s.fmn.hold = true ∨
        s.fmn.supplyLow = true ∨ s.mtc.left.value = none ∨ s.mtc.right.value = none ∨
        ∃ l r, s.mtc.left.value = some l ∧ s.mtc.right.value = some r ∧
          ((l : Int) - r).natAbs ≤ Param.skewWarn s.cfs.working / 2) →
      exec (.trim b) s =
        .next (answerCommand 0x0A .refusedState false (latchCommand 0x0A b s))) ∧
    (∀ l r, s.cfs.out = false → s.commissioning = false → b.toNat ≤ 1 →
      s.fmn.causes = onlySkewTrip → s.mtc.motion = .faultStop → s.fmn.hold = false →
      s.fmn.supplyLow = false → s.mtc.left.value = some l → s.mtc.right.value = some r →
      Param.skewWarn s.cfs.working / 2 < ((l : Int) - r).natAbs →
      ∃ t h start other, exec (.trim b) s = .next t ∧
        (h, start, other) = (if b.toNat = 0 then (Hoist.left, l, r) else (Hoist.right, r, l)) ∧
        t.mtc.motion = .trim ∧ t.mtc.phase = some .settle ∧ t.mtc.pump = true ∧
        t.mtc.valve = false ∧ t.mtc.driveL = 0 ∧ t.mtc.driveR = 0 ∧
        t.mtc.trim = some {
          hoist := h, start := start, setpoint := none
          limit := if other < start
            then (start : Int) - (Param.skewTrip s.cfs.working / 2 : Nat)
            else (start : Int) + (Param.skewTrip s.cfs.working / 2 : Nat) } ∧
        t.mtc.pumpSettle = some (Param.pumpSettle s.cfs.working) ∧ t.fmn = s.fmn ∧
        t.lpt.answer = .done ∧ t.lpt.resultCode = 0x0A ∧ t.clu = s.clu ∧ t.osl = s.osl ∧
        t.ptb = s.ptb ∧ t.stm = s.stm)

/-- R205: COUNTER CONTROL, action by action: what DONE writes, and what is refused. -/
def Obligations.CounterControlWritesTheCounters : Prop :=
  ∀ (s : State) (n : BitVec 4), s.cfs.storeBusy = false →
    (3 < n.toNat % 8 ∨ 17 < s.lpt.operand0.toNat % 32 → exec (.counterSelect n) s =
      .next (answerCommand 0x0B .refusedRange false (latchCommand 0x0B (n.setWidth 8) s))) ∧
    (n.toNat % 8 ≤ 3 → s.lpt.operand0.toNat % 32 ≤ 17 →
      ∃ t c, exec (.counterSelect n) s = .next t ∧ t.lpt.answer = .done ∧
        s.act.counters.get (n.toNat % 8) = some c ∧
        t.act.counters.get (n.toNat % 8) = some { c with
          selected := eventOfCode (s.lpt.operand0.toNat % 32), threshold := s.lpt.operand1.toNat
          invert := s.lpt.operand0.getLsbD 8, edge := s.lpt.operand0.getLsbD 9, last := false } ∧
        (∀ k, k ≠ n.toNat % 8 → t.act.counters.get k = s.act.counters.get k) ∧
        t.act.frozen = s.act.frozen ∧ t.act.freezeOnFull = s.act.freezeOnFull ∧
        t.mtc = s.mtc ∧ t.lif = s.lif) ∧
    (4 < n.toNat % 8 → exec (.counterReset n) s = .next (answerCommand 0x0B .refusedRange false
      (latchCommand 0x0B (0x10 + n.setWidth 8) s))) ∧
    (n.toNat % 8 ≤ 4 →
      ∃ t, exec (.counterReset n) s = .next t ∧ t.lpt.answer = .done ∧
        (∀ k, t.act.counters.get k = (s.act.counters.get k).map fun c =>
          if k = n.toNat % 8 ∨ n.toNat % 8 = 4 then
            { c with value := 0, half := false, full := false } else c) ∧
        t.act.frozen = s.act.frozen ∧ t.act.freezeOnFull = s.act.freezeOnFull ∧
        t.mtc = s.mtc ∧ t.lif = s.lif) ∧
    (s.act.frozen = false → exec (.counterRelease n) s = .next (answerCommand 0x0B .refusedState
      false (latchCommand 0x0B (0x20 + n.setWidth 8) s))) ∧
    (s.act.frozen = true →
      ∃ t, exec (.counterRelease n) s = .next t ∧ t.lpt.answer = .done ∧ t.act.frozen = false ∧
        t.act.counters = s.act.counters ∧ t.act.freezeOnFull = s.act.freezeOnFull) ∧
    (∃ t, exec (.freezeMode n) s = .next t ∧ t.lpt.answer = .done ∧
      t.act.freezeOnFull = s.lpt.operand0.getLsbD 0 ∧ t.act.frozen = s.act.frozen ∧
      t.act.counters = s.act.counters)

/-- R201, R203, R204: at a count event a counter that selects it and is not frozen increases by 1 and wraps
at 2^32; the flags and attention causes follow, and a wrap freezes under freeze-on-full. Frozen counters and
counters of other events stay. R202: at a hand-over a counter of a sample event is increased alike where its
condition holds, with edge only where it did not hold at the hand-over before; the last condition is kept,
while frozen too. R151: the values handed over, as a sample in OUT hands them. -/
def Obligations.CountEventsIncreaseTheirCounters : Prop :=
  (∀ (s : State) (e : CountedEvent) (n : Nat) (c : Counter),
    s.act.counters.get n = some c → c.value < 4294967296 →
    (s.act.frozen = true ∨ c.selected ≠ some e →
      (countEvent e s).act.counters.get n = some c) ∧
    (s.act.frozen = true → (countEvent e s).act = s.act) ∧
    (s.act.frozen = false → c.selected = some e →
      (countEvent e s).act.counters.get n = some { c with
        value := (c.value + 1) % 4294967296
        half := c.half || decide (c.value = 2147483647)
        full := c.full || decide (c.value = 4294967295) } ∧
      (c.value = 2147483647 → (countEvent e s).act.causes &&& 0x080 = 0x080) ∧
      (c.value = 4294967295 → (countEvent e s).act.causes &&& 0x100 = 0x100 ∧
        (countEvent e s).act.frozen = s.act.freezeOnFull))) ∧
  (∀ (s : State) (v : SampleValues) (n : Nat) (c : Counter) (x : Nat) (holds : Bool),
    s.act.counters.get n = some c → c.value < 4294967296 →
    (c.selected = some .skewMagnitude ∧ x = v.skew ∨
      c.selected = some .followingError ∧ x = v.following ∨
      c.selected = some .staggerGap ∧ x = v.gap) →
    holds = (if c.invert then decide (x < c.threshold) else decide (c.threshold ≤ x)) →
    (s.act.frozen = false → holds = true → (c.edge = false ∨ c.last = false) →
      (handOverSamples v s).act.counters.get n = some { c with
        value := (c.value + 1) % 4294967296
        half := c.half || decide (c.value = 2147483647)
        full := c.full || decide (c.value = 4294967295)
        last := true }) ∧
    (s.act.frozen = true ∨ holds = false ∨ (c.edge = true ∧ c.last = true) →
      (handOverSamples v s).act.counters.get n = some { c with last := holds })) ∧
  (∀ (s : State) (v : SampleValues) (n : Nat) (c : Counter), s.act.counters.get n = some c →
    c.selected ≠ some .skewMagnitude → c.selected ≠ some .followingError →
    c.selected ≠ some .staggerGap → (handOverSamples v s).act.counters.get n = some c) ∧
  (∀ (s : State) (l r : EncoderRead), s.cfs.out = true → s.mtc.motion.bothLoops = false →
    s.mtc.trimMoves = false →
    ∃ s1 k, exec (.servoSample l r) s = .next (handOverSamples
        { skew := k, following := 0, gap := 0 } s1) ∧
      s1.mtc.left = s.mtc.left.take l ∧ s1.mtc.right = s.mtc.right.take r ∧
      (∀ a b, s1.mtc.left.value = some a → s1.mtc.right.value = some b →
        k = ((a : Int) - b).natAbs) ∧
      (s1.mtc.left.value = none ∨ s1.mtc.right.value = none → k = 0))

/-- R191 to R194, R196: entering and leaving commissioning, writing the image, and a store from its
acceptance to its end. That an accepted store leaves IMAGE_REPORT as it is, is the model's choice of log 39,
and that the image takes its check word at the store's end is that of log 44. -/
def Obligations.CommissioningBuildsAndStoresAnImage : Prop :=
  ∀ (s : State) (b : Byte), s.cfs.storeBusy = false →
    (s.cfs.image = none → b.toNat ≤ 1 →
      (s.cfs.out = true ∨ (s.pins.holdIn = true ∧ s.mtc.motion = .stopped)) →
      ∃ t, exec (.enterCommissioning b) s = .next t ∧
        t.cfs = { s.cfs with
          image := some (if b.toNat = 0 then s.cfs.store else defaultWords)
          imageReport := t.cfs.imageReport } ∧
        t.osl.service = t.serviceNow ∧ t.lpt.answer = .done ∧ t.lpt.resultCode = 0x10 ∧
        t.fmn = s.fmn ∧ t.ptb = s.ptb ∧ t.stm = s.stm ∧ t.shu = s.shu) ∧
    (∀ w, s.cfs.image = some w →
      exec (.enterCommissioning b) s =
        .next (answerCommand 0x10 .refusedState false (latchCommand 0x10 b s)) ∧
      (51 < b.toNat ∨ wordInRange b.toNat s.lpt.operand0 = false →
        exec (.commissionWrite b) s =
          .next (answerCommand 0x11 .refusedRange false (latchCommand 0x11 b s))) ∧
      (b.toNat ≤ 51 → wordInRange b.toNat s.lpt.operand0 = true →
        ∃ t, exec (.commissionWrite b) s = .next t ∧ t.lpt.answer = .done ∧
          t.cfs = { s.cfs with
            image := some (w.set b.toNat s.lpt.operand0)
            imageReport := rangeAndConstraintReport (w.set b.toNat s.lpt.operand0) } ∧
          t.osl = s.osl ∧ t.mtc = s.mtc ∧ t.lif = s.lif) ∧
      (rangeAndConstraintReport w = .passed →
        exec (.commissionStore b) s = .next ((s.setLpt { s.lpt with
          command := (0x12 : Byte) ++ b, resultCode := 0x12, clamped := false,
          answer := .inProgress }).setCfs { s.cfs with storeBusy := true })) ∧
      (rangeAndConstraintReport w ≠ .passed →
        ∃ t, exec (.commissionStore b) s = .next t ∧ t.lpt.answer = .refusedRange ∧
          t.cfs = { s.cfs with imageReport := rangeAndConstraintReport w } ∧
          t.osl = s.osl ∧ t.mtc = s.mtc ∧ t.lif = s.lif) ∧
      (∃ t, exec (.leaveCommissioning b) s = .next t ∧ t.lpt.answer = .done ∧
        t.cfs = { s.cfs with image := none } ∧ t.osl.service = t.serviceNow ∧
        t.fmn = s.fmn ∧ t.ptb = s.ptb ∧ t.stm = s.stm ∧ t.shu = s.shu)) ∧
    (s.cfs.image = none → ∀ c, c ∈ [(0x11, Instr.commissionWrite b), (0x12, .commissionStore b),
        (0x13, .leaveCommissioning b)] →
      exec c.2 s = .next (answerCommand c.1 .refusedState false (latchCommand c.1 b s))) ∧
    (∀ w, s.cfs.image = some w → w.length = 53 →
      ∃ t, exec .storeComplete (s.setCfs { s.cfs with storeBusy := true }) = .next t ∧
        t.cfs.store = w.take 52 ++ [checkWord w] ∧ t.cfs.writeMark = false ∧
        t.cfs.storeBusy = false ∧ t.cfs.image = some (w.take 52 ++ [checkWord w]) ∧
        t.cfs.working = s.cfs.working ∧ t.lpt.answer = .done ∧ t.lpt.resultCode = 0x12 ∧
        t.act.causes &&& 0x200 = 0x200 ∧
        (rangeAndConstraintReport w = .passed → startReportOf false t.cfs.store = .passed) ∧
        t.osl = s.osl ∧ t.mtc = s.mtc ∧ t.lif = s.lif ∧ t.ptb = s.ptb)

/-- R182, R184, R186: the register writes. A 1 written to ATTN_CAUSE clears its cause and leaves the others;
ATTN_MASK and the operands take the word; a write of TABLE_SELECT clears the capture; a write of TABLE_INDEX
captures the whole entry, or clears the data words where the table has none. A write elsewhere, but for
the six registers that have a row of their own, is ignored. R182, R183, R199: in a transaction the sixteenth
bit of a write puts the command of its word into the queue, and a read's word is the register as it stands at
its first bit; each goes on at the next address. A write, and a transaction that a reset has ended, shifts out
zeros. That a write's word takes effect by its command joining the queue at that bit, and so when the command
reaches the front, is the model's choice of log 29. The header's bits, the select and the release, and the later
bits of a read's word are not stated here. -/
def Obligations.RegisterWritesTakeTheWord : Prop :=
  ∀ (s : State) (w : Word) (a : BitVec 7),
    (∃ t, exec (.attnCauseWrite w) s = .next t ∧
      (∀ i, i < 10 → t.act.causes.getLsbD i = (s.act.causes.getLsbD i && !w.getLsbD i)) ∧
      t.act.mask = s.act.mask ∧ t.act.counters = s.act.counters ∧
      (t.act.attn = true ↔
        ∃ i, t.act.causes.getLsbD i = true ∧ s.act.mask.getLsbD i = false) ∧
      t.lpt = s.lpt ∧ t.mtc = s.mtc) ∧
    (∃ t, exec (.attnMaskWrite w) s = .next t ∧
      (∀ i, i < 10 → t.act.mask.getLsbD i = w.getLsbD i) ∧ t.act.causes = s.act.causes ∧
      t.act.counters = s.act.counters ∧
      (t.act.attn = true ↔
        ∃ i, s.act.causes.getLsbD i = true ∧ t.act.mask.getLsbD i = false) ∧
      t.lpt = s.lpt ∧ t.mtc = s.mtc) ∧
    (∃ t, exec (.tableSelectWrite w) s = .next t ∧
      t.lpt = { s.lpt with tableSelect := w.setWidth 4, captureValid := false,
                           data := List.replicate 16 0 } ∧
      t.act = s.act ∧ t.mtc = s.mtc) ∧
    (∀ x, s.captureEntry s.lpt.tableSelect.toNat (w.toNat % 256) = some x →
      exec (.tableIndexWrite w) s = .next (s.setLpt { s.lpt with
        tableIndex := w.setWidth 8, captureValid := true
        data := (List.range 16).map fun k => x.getD k 0 })) ∧
    (s.captureEntry s.lpt.tableSelect.toNat (w.toNat % 256) = none →
      exec (.tableIndexWrite w) s = .next (s.setLpt { s.lpt with
        tableIndex := w.setWidth 8, captureValid := false, data := List.replicate 16 0 })) ∧
    (exec (.registerWrite 0x09 w) s = .next (s.setLpt { s.lpt with operand0 := w }) ∧
      exec (.registerWrite 0x0A w) s = .next (s.setLpt { s.lpt with operand1 := w })) ∧
    (behavedAddresses.contains a = false → a ≠ 0x09 → a ≠ 0x0A →
      exec (.registerWrite a w) s = .next s) ∧
    (∀ (bit : Bool) (l r : EncoderRead),
      (∀ bits, s.lpt.transaction = .write a bits → bits.length = 15 →
        bits ++ [bit] = wordBits w → State.portClock bit l r s = (some false,
          (s.setTransaction (.write (nextAddr a) [])).setPending
            (s.pending ++ [instrOfWrite a w l r]))) ∧
      (∀ bits, s.lpt.transaction = .write a bits → bits.length < 15 →
        State.portClock bit l r s =
          (some false, s.setTransaction (.write a (bits ++ [bit])))) ∧
      (s.lpt.transaction = .read a [] → State.portClock bit l r s =
        (some ((s.readRegister a).getLsbD 15),
          s.setTransaction (.read (nextAddr a) ((wordBits (s.readRegister a)).drop 1)))) ∧
      (s.lpt.transaction = .ended → State.portClock bit l r s = (some false, s)))
end

