-- ==== Sys2Proof/Laws/State.lean ====
section
/-! SUPPORT. One lemma per field per update of the state, each true by rfl: what a setter writes, and that
it leaves every other field. No later proof unfolds a record update. -/

namespace Sys2Proof.Machine

@[simp] theorem State.setLif_lif (s : State) (x : Lif) : (s.setLif x).lif = x := rfl
@[simp] theorem State.setLif_ptb (s : State) (x : Lif) : (s.setLif x).ptb = s.ptb := rfl
@[simp] theorem State.setLif_clu (s : State) (x : Lif) : (s.setLif x).clu = s.clu := rfl
@[simp] theorem State.setLif_shu (s : State) (x : Lif) : (s.setLif x).shu = s.shu := rfl
@[simp] theorem State.setLif_osl (s : State) (x : Lif) : (s.setLif x).osl = s.osl := rfl
@[simp] theorem State.setLif_stm (s : State) (x : Lif) : (s.setLif x).stm = s.stm := rfl
@[simp] theorem State.setLif_mtc (s : State) (x : Lif) : (s.setLif x).mtc = s.mtc := rfl
@[simp] theorem State.setLif_fmn (s : State) (x : Lif) : (s.setLif x).fmn = s.fmn := rfl
@[simp] theorem State.setLif_lpt (s : State) (x : Lif) : (s.setLif x).lpt = s.lpt := rfl
@[simp] theorem State.setLif_cfs (s : State) (x : Lif) : (s.setLif x).cfs = s.cfs := rfl
@[simp] theorem State.setLif_act (s : State) (x : Lif) : (s.setLif x).act = s.act := rfl
@[simp] theorem State.setLif_pins (s : State) (x : Lif) : (s.setLif x).pins = s.pins := rfl
@[simp] theorem State.setLif_freeCount (s : State) (x : Lif) : (s.setLif x).freeCount = s.freeCount := rfl
@[simp] theorem State.setLif_pending (s : State) (x : Lif) : (s.setLif x).pending = s.pending := rfl

@[simp] theorem State.setPtb_lif (s : State) (x : Ptb) : (s.setPtb x).lif = s.lif := rfl
@[simp] theorem State.setPtb_ptb (s : State) (x : Ptb) : (s.setPtb x).ptb = x := rfl
@[simp] theorem State.setPtb_clu (s : State) (x : Ptb) : (s.setPtb x).clu = s.clu := rfl
@[simp] theorem State.setPtb_shu (s : State) (x : Ptb) : (s.setPtb x).shu = s.shu := rfl
@[simp] theorem State.setPtb_osl (s : State) (x : Ptb) : (s.setPtb x).osl = s.osl := rfl
@[simp] theorem State.setPtb_stm (s : State) (x : Ptb) : (s.setPtb x).stm = s.stm := rfl
@[simp] theorem State.setPtb_mtc (s : State) (x : Ptb) : (s.setPtb x).mtc = s.mtc := rfl
@[simp] theorem State.setPtb_fmn (s : State) (x : Ptb) : (s.setPtb x).fmn = s.fmn := rfl
@[simp] theorem State.setPtb_lpt (s : State) (x : Ptb) : (s.setPtb x).lpt = s.lpt := rfl
@[simp] theorem State.setPtb_cfs (s : State) (x : Ptb) : (s.setPtb x).cfs = s.cfs := rfl
@[simp] theorem State.setPtb_act (s : State) (x : Ptb) : (s.setPtb x).act = s.act := rfl
@[simp] theorem State.setPtb_pins (s : State) (x : Ptb) : (s.setPtb x).pins = s.pins := rfl
@[simp] theorem State.setPtb_freeCount (s : State) (x : Ptb) : (s.setPtb x).freeCount = s.freeCount := rfl
@[simp] theorem State.setPtb_pending (s : State) (x : Ptb) : (s.setPtb x).pending = s.pending := rfl

@[simp] theorem State.setClu_lif (s : State) (x : Clu) : (s.setClu x).lif = s.lif := rfl
@[simp] theorem State.setClu_ptb (s : State) (x : Clu) : (s.setClu x).ptb = s.ptb := rfl
@[simp] theorem State.setClu_clu (s : State) (x : Clu) : (s.setClu x).clu = x := rfl
@[simp] theorem State.setClu_shu (s : State) (x : Clu) : (s.setClu x).shu = s.shu := rfl
@[simp] theorem State.setClu_osl (s : State) (x : Clu) : (s.setClu x).osl = s.osl := rfl
@[simp] theorem State.setClu_stm (s : State) (x : Clu) : (s.setClu x).stm = s.stm := rfl
@[simp] theorem State.setClu_mtc (s : State) (x : Clu) : (s.setClu x).mtc = s.mtc := rfl
@[simp] theorem State.setClu_fmn (s : State) (x : Clu) : (s.setClu x).fmn = s.fmn := rfl
@[simp] theorem State.setClu_lpt (s : State) (x : Clu) : (s.setClu x).lpt = s.lpt := rfl
@[simp] theorem State.setClu_cfs (s : State) (x : Clu) : (s.setClu x).cfs = s.cfs := rfl
@[simp] theorem State.setClu_act (s : State) (x : Clu) : (s.setClu x).act = s.act := rfl
@[simp] theorem State.setClu_pins (s : State) (x : Clu) : (s.setClu x).pins = s.pins := rfl
@[simp] theorem State.setClu_freeCount (s : State) (x : Clu) : (s.setClu x).freeCount = s.freeCount := rfl
@[simp] theorem State.setClu_pending (s : State) (x : Clu) : (s.setClu x).pending = s.pending := rfl

@[simp] theorem State.setShu_lif (s : State) (x : Shu) : (s.setShu x).lif = s.lif := rfl
@[simp] theorem State.setShu_ptb (s : State) (x : Shu) : (s.setShu x).ptb = s.ptb := rfl
@[simp] theorem State.setShu_clu (s : State) (x : Shu) : (s.setShu x).clu = s.clu := rfl
@[simp] theorem State.setShu_shu (s : State) (x : Shu) : (s.setShu x).shu = x := rfl
@[simp] theorem State.setShu_osl (s : State) (x : Shu) : (s.setShu x).osl = s.osl := rfl
@[simp] theorem State.setShu_stm (s : State) (x : Shu) : (s.setShu x).stm = s.stm := rfl
@[simp] theorem State.setShu_mtc (s : State) (x : Shu) : (s.setShu x).mtc = s.mtc := rfl
@[simp] theorem State.setShu_fmn (s : State) (x : Shu) : (s.setShu x).fmn = s.fmn := rfl
@[simp] theorem State.setShu_lpt (s : State) (x : Shu) : (s.setShu x).lpt = s.lpt := rfl
@[simp] theorem State.setShu_cfs (s : State) (x : Shu) : (s.setShu x).cfs = s.cfs := rfl
@[simp] theorem State.setShu_act (s : State) (x : Shu) : (s.setShu x).act = s.act := rfl
@[simp] theorem State.setShu_pins (s : State) (x : Shu) : (s.setShu x).pins = s.pins := rfl
@[simp] theorem State.setShu_freeCount (s : State) (x : Shu) : (s.setShu x).freeCount = s.freeCount := rfl
@[simp] theorem State.setShu_pending (s : State) (x : Shu) : (s.setShu x).pending = s.pending := rfl

@[simp] theorem State.setOsl_lif (s : State) (x : Osl) : (s.setOsl x).lif = s.lif := rfl
@[simp] theorem State.setOsl_ptb (s : State) (x : Osl) : (s.setOsl x).ptb = s.ptb := rfl
@[simp] theorem State.setOsl_clu (s : State) (x : Osl) : (s.setOsl x).clu = s.clu := rfl
@[simp] theorem State.setOsl_shu (s : State) (x : Osl) : (s.setOsl x).shu = s.shu := rfl
@[simp] theorem State.setOsl_osl (s : State) (x : Osl) : (s.setOsl x).osl = x := rfl
@[simp] theorem State.setOsl_stm (s : State) (x : Osl) : (s.setOsl x).stm = s.stm := rfl
@[simp] theorem State.setOsl_mtc (s : State) (x : Osl) : (s.setOsl x).mtc = s.mtc := rfl
@[simp] theorem State.setOsl_fmn (s : State) (x : Osl) : (s.setOsl x).fmn = s.fmn := rfl
@[simp] theorem State.setOsl_lpt (s : State) (x : Osl) : (s.setOsl x).lpt = s.lpt := rfl
@[simp] theorem State.setOsl_cfs (s : State) (x : Osl) : (s.setOsl x).cfs = s.cfs := rfl
@[simp] theorem State.setOsl_act (s : State) (x : Osl) : (s.setOsl x).act = s.act := rfl
@[simp] theorem State.setOsl_pins (s : State) (x : Osl) : (s.setOsl x).pins = s.pins := rfl
@[simp] theorem State.setOsl_freeCount (s : State) (x : Osl) : (s.setOsl x).freeCount = s.freeCount := rfl
@[simp] theorem State.setOsl_pending (s : State) (x : Osl) : (s.setOsl x).pending = s.pending := rfl

@[simp] theorem State.setStm_lif (s : State) (x : Stm) : (s.setStm x).lif = s.lif := rfl
@[simp] theorem State.setStm_ptb (s : State) (x : Stm) : (s.setStm x).ptb = s.ptb := rfl
@[simp] theorem State.setStm_clu (s : State) (x : Stm) : (s.setStm x).clu = s.clu := rfl
@[simp] theorem State.setStm_shu (s : State) (x : Stm) : (s.setStm x).shu = s.shu := rfl
@[simp] theorem State.setStm_osl (s : State) (x : Stm) : (s.setStm x).osl = s.osl := rfl
@[simp] theorem State.setStm_stm (s : State) (x : Stm) : (s.setStm x).stm = x := rfl
@[simp] theorem State.setStm_mtc (s : State) (x : Stm) : (s.setStm x).mtc = s.mtc := rfl
@[simp] theorem State.setStm_fmn (s : State) (x : Stm) : (s.setStm x).fmn = s.fmn := rfl
@[simp] theorem State.setStm_lpt (s : State) (x : Stm) : (s.setStm x).lpt = s.lpt := rfl
@[simp] theorem State.setStm_cfs (s : State) (x : Stm) : (s.setStm x).cfs = s.cfs := rfl
@[simp] theorem State.setStm_act (s : State) (x : Stm) : (s.setStm x).act = s.act := rfl
@[simp] theorem State.setStm_pins (s : State) (x : Stm) : (s.setStm x).pins = s.pins := rfl
@[simp] theorem State.setStm_freeCount (s : State) (x : Stm) : (s.setStm x).freeCount = s.freeCount := rfl
@[simp] theorem State.setStm_pending (s : State) (x : Stm) : (s.setStm x).pending = s.pending := rfl

@[simp] theorem State.setMtc_lif (s : State) (x : Mtc) : (s.setMtc x).lif = s.lif := rfl
@[simp] theorem State.setMtc_ptb (s : State) (x : Mtc) : (s.setMtc x).ptb = s.ptb := rfl
@[simp] theorem State.setMtc_clu (s : State) (x : Mtc) : (s.setMtc x).clu = s.clu := rfl
@[simp] theorem State.setMtc_shu (s : State) (x : Mtc) : (s.setMtc x).shu = s.shu := rfl
@[simp] theorem State.setMtc_osl (s : State) (x : Mtc) : (s.setMtc x).osl = s.osl := rfl
@[simp] theorem State.setMtc_stm (s : State) (x : Mtc) : (s.setMtc x).stm = s.stm := rfl
@[simp] theorem State.setMtc_mtc (s : State) (x : Mtc) : (s.setMtc x).mtc = x := rfl
@[simp] theorem State.setMtc_fmn (s : State) (x : Mtc) : (s.setMtc x).fmn = s.fmn := rfl
@[simp] theorem State.setMtc_lpt (s : State) (x : Mtc) : (s.setMtc x).lpt = s.lpt := rfl
@[simp] theorem State.setMtc_cfs (s : State) (x : Mtc) : (s.setMtc x).cfs = s.cfs := rfl
@[simp] theorem State.setMtc_act (s : State) (x : Mtc) : (s.setMtc x).act = s.act := rfl
@[simp] theorem State.setMtc_pins (s : State) (x : Mtc) : (s.setMtc x).pins = s.pins := rfl
@[simp] theorem State.setMtc_freeCount (s : State) (x : Mtc) : (s.setMtc x).freeCount = s.freeCount := rfl
@[simp] theorem State.setMtc_pending (s : State) (x : Mtc) : (s.setMtc x).pending = s.pending := rfl

@[simp] theorem State.setFmn_lif (s : State) (x : Fmn) : (s.setFmn x).lif = s.lif := rfl
@[simp] theorem State.setFmn_ptb (s : State) (x : Fmn) : (s.setFmn x).ptb = s.ptb := rfl
@[simp] theorem State.setFmn_clu (s : State) (x : Fmn) : (s.setFmn x).clu = s.clu := rfl
@[simp] theorem State.setFmn_shu (s : State) (x : Fmn) : (s.setFmn x).shu = s.shu := rfl
@[simp] theorem State.setFmn_osl (s : State) (x : Fmn) : (s.setFmn x).osl = s.osl := rfl
@[simp] theorem State.setFmn_stm (s : State) (x : Fmn) : (s.setFmn x).stm = s.stm := rfl
@[simp] theorem State.setFmn_mtc (s : State) (x : Fmn) : (s.setFmn x).mtc = s.mtc := rfl
@[simp] theorem State.setFmn_fmn (s : State) (x : Fmn) : (s.setFmn x).fmn = x := rfl
@[simp] theorem State.setFmn_lpt (s : State) (x : Fmn) : (s.setFmn x).lpt = s.lpt := rfl
@[simp] theorem State.setFmn_cfs (s : State) (x : Fmn) : (s.setFmn x).cfs = s.cfs := rfl
@[simp] theorem State.setFmn_act (s : State) (x : Fmn) : (s.setFmn x).act = s.act := rfl
@[simp] theorem State.setFmn_pins (s : State) (x : Fmn) : (s.setFmn x).pins = s.pins := rfl
@[simp] theorem State.setFmn_freeCount (s : State) (x : Fmn) : (s.setFmn x).freeCount = s.freeCount := rfl
@[simp] theorem State.setFmn_pending (s : State) (x : Fmn) : (s.setFmn x).pending = s.pending := rfl

@[simp] theorem State.setLpt_lif (s : State) (x : Lpt) : (s.setLpt x).lif = s.lif := rfl
@[simp] theorem State.setLpt_ptb (s : State) (x : Lpt) : (s.setLpt x).ptb = s.ptb := rfl
@[simp] theorem State.setLpt_clu (s : State) (x : Lpt) : (s.setLpt x).clu = s.clu := rfl
@[simp] theorem State.setLpt_shu (s : State) (x : Lpt) : (s.setLpt x).shu = s.shu := rfl
@[simp] theorem State.setLpt_osl (s : State) (x : Lpt) : (s.setLpt x).osl = s.osl := rfl
@[simp] theorem State.setLpt_stm (s : State) (x : Lpt) : (s.setLpt x).stm = s.stm := rfl
@[simp] theorem State.setLpt_mtc (s : State) (x : Lpt) : (s.setLpt x).mtc = s.mtc := rfl
@[simp] theorem State.setLpt_fmn (s : State) (x : Lpt) : (s.setLpt x).fmn = s.fmn := rfl
@[simp] theorem State.setLpt_lpt (s : State) (x : Lpt) : (s.setLpt x).lpt = x := rfl
@[simp] theorem State.setLpt_cfs (s : State) (x : Lpt) : (s.setLpt x).cfs = s.cfs := rfl
@[simp] theorem State.setLpt_act (s : State) (x : Lpt) : (s.setLpt x).act = s.act := rfl
@[simp] theorem State.setLpt_pins (s : State) (x : Lpt) : (s.setLpt x).pins = s.pins := rfl
@[simp] theorem State.setLpt_freeCount (s : State) (x : Lpt) : (s.setLpt x).freeCount = s.freeCount := rfl
@[simp] theorem State.setLpt_pending (s : State) (x : Lpt) : (s.setLpt x).pending = s.pending := rfl

@[simp] theorem State.setCfs_lif (s : State) (x : Cfs) : (s.setCfs x).lif = s.lif := rfl
@[simp] theorem State.setCfs_ptb (s : State) (x : Cfs) : (s.setCfs x).ptb = s.ptb := rfl
@[simp] theorem State.setCfs_clu (s : State) (x : Cfs) : (s.setCfs x).clu = s.clu := rfl
@[simp] theorem State.setCfs_shu (s : State) (x : Cfs) : (s.setCfs x).shu = s.shu := rfl
@[simp] theorem State.setCfs_osl (s : State) (x : Cfs) : (s.setCfs x).osl = s.osl := rfl
@[simp] theorem State.setCfs_stm (s : State) (x : Cfs) : (s.setCfs x).stm = s.stm := rfl
@[simp] theorem State.setCfs_mtc (s : State) (x : Cfs) : (s.setCfs x).mtc = s.mtc := rfl
@[simp] theorem State.setCfs_fmn (s : State) (x : Cfs) : (s.setCfs x).fmn = s.fmn := rfl
@[simp] theorem State.setCfs_lpt (s : State) (x : Cfs) : (s.setCfs x).lpt = s.lpt := rfl
@[simp] theorem State.setCfs_cfs (s : State) (x : Cfs) : (s.setCfs x).cfs = x := rfl
@[simp] theorem State.setCfs_act (s : State) (x : Cfs) : (s.setCfs x).act = s.act := rfl
@[simp] theorem State.setCfs_pins (s : State) (x : Cfs) : (s.setCfs x).pins = s.pins := rfl
@[simp] theorem State.setCfs_freeCount (s : State) (x : Cfs) : (s.setCfs x).freeCount = s.freeCount := rfl
@[simp] theorem State.setCfs_pending (s : State) (x : Cfs) : (s.setCfs x).pending = s.pending := rfl

@[simp] theorem State.setAct_lif (s : State) (x : Act) : (s.setAct x).lif = s.lif := rfl
@[simp] theorem State.setAct_ptb (s : State) (x : Act) : (s.setAct x).ptb = s.ptb := rfl
@[simp] theorem State.setAct_clu (s : State) (x : Act) : (s.setAct x).clu = s.clu := rfl
@[simp] theorem State.setAct_shu (s : State) (x : Act) : (s.setAct x).shu = s.shu := rfl
@[simp] theorem State.setAct_osl (s : State) (x : Act) : (s.setAct x).osl = s.osl := rfl
@[simp] theorem State.setAct_stm (s : State) (x : Act) : (s.setAct x).stm = s.stm := rfl
@[simp] theorem State.setAct_mtc (s : State) (x : Act) : (s.setAct x).mtc = s.mtc := rfl
@[simp] theorem State.setAct_fmn (s : State) (x : Act) : (s.setAct x).fmn = s.fmn := rfl
@[simp] theorem State.setAct_lpt (s : State) (x : Act) : (s.setAct x).lpt = s.lpt := rfl
@[simp] theorem State.setAct_cfs (s : State) (x : Act) : (s.setAct x).cfs = s.cfs := rfl
@[simp] theorem State.setAct_act (s : State) (x : Act) : (s.setAct x).act = x := rfl
@[simp] theorem State.setAct_pins (s : State) (x : Act) : (s.setAct x).pins = s.pins := rfl
@[simp] theorem State.setAct_freeCount (s : State) (x : Act) : (s.setAct x).freeCount = s.freeCount := rfl
@[simp] theorem State.setAct_pending (s : State) (x : Act) : (s.setAct x).pending = s.pending := rfl

@[simp] theorem State.setPins_lif (s : State) (x : Pins) : (s.setPins x).lif = s.lif := rfl
@[simp] theorem State.setPins_ptb (s : State) (x : Pins) : (s.setPins x).ptb = s.ptb := rfl
@[simp] theorem State.setPins_clu (s : State) (x : Pins) : (s.setPins x).clu = s.clu := rfl
@[simp] theorem State.setPins_shu (s : State) (x : Pins) : (s.setPins x).shu = s.shu := rfl
@[simp] theorem State.setPins_osl (s : State) (x : Pins) : (s.setPins x).osl = s.osl := rfl
@[simp] theorem State.setPins_stm (s : State) (x : Pins) : (s.setPins x).stm = s.stm := rfl
@[simp] theorem State.setPins_mtc (s : State) (x : Pins) : (s.setPins x).mtc = s.mtc := rfl
@[simp] theorem State.setPins_fmn (s : State) (x : Pins) : (s.setPins x).fmn = s.fmn := rfl
@[simp] theorem State.setPins_lpt (s : State) (x : Pins) : (s.setPins x).lpt = s.lpt := rfl
@[simp] theorem State.setPins_cfs (s : State) (x : Pins) : (s.setPins x).cfs = s.cfs := rfl
@[simp] theorem State.setPins_act (s : State) (x : Pins) : (s.setPins x).act = s.act := rfl
@[simp] theorem State.setPins_pins (s : State) (x : Pins) : (s.setPins x).pins = x := rfl
@[simp] theorem State.setPins_freeCount (s : State) (x : Pins) : (s.setPins x).freeCount = s.freeCount := rfl
@[simp] theorem State.setPins_pending (s : State) (x : Pins) : (s.setPins x).pending = s.pending := rfl

@[simp] theorem State.setPending_lif (s : State) (x : List Instr) : (s.setPending x).lif = s.lif := rfl
@[simp] theorem State.setPending_ptb (s : State) (x : List Instr) : (s.setPending x).ptb = s.ptb := rfl
@[simp] theorem State.setPending_clu (s : State) (x : List Instr) : (s.setPending x).clu = s.clu := rfl
@[simp] theorem State.setPending_shu (s : State) (x : List Instr) : (s.setPending x).shu = s.shu := rfl
@[simp] theorem State.setPending_osl (s : State) (x : List Instr) : (s.setPending x).osl = s.osl := rfl
@[simp] theorem State.setPending_stm (s : State) (x : List Instr) : (s.setPending x).stm = s.stm := rfl
@[simp] theorem State.setPending_mtc (s : State) (x : List Instr) : (s.setPending x).mtc = s.mtc := rfl
@[simp] theorem State.setPending_fmn (s : State) (x : List Instr) : (s.setPending x).fmn = s.fmn := rfl
@[simp] theorem State.setPending_lpt (s : State) (x : List Instr) : (s.setPending x).lpt = s.lpt := rfl
@[simp] theorem State.setPending_cfs (s : State) (x : List Instr) : (s.setPending x).cfs = s.cfs := rfl
@[simp] theorem State.setPending_act (s : State) (x : List Instr) : (s.setPending x).act = s.act := rfl
@[simp] theorem State.setPending_pins (s : State) (x : List Instr) : (s.setPending x).pins = s.pins := rfl
@[simp] theorem State.setPending_freeCount (s : State) (x : List Instr) : (s.setPending x).freeCount = s.freeCount := rfl
@[simp] theorem State.setPending_pending (s : State) (x : List Instr) : (s.setPending x).pending = x := rfl

end Sys2Proof.Machine
end

