-- ==== Sys2Proof/Laws/Frames.lean ====
section
/-! SUPPORT. What each shared operation leaves unchanged: one lemma per operation, naming every block of
the state that it does not write. The provers cite these instead of unfolding the operation. -/

namespace Sys2Proof.Machine

@[simp] theorem setAttention_frame (c : AttnCause) (s : State) :
    (setAttention c s).lif = s.lif ∧
    (setAttention c s).ptb = s.ptb ∧
    (setAttention c s).clu = s.clu ∧
    (setAttention c s).shu = s.shu ∧
    (setAttention c s).osl = s.osl ∧
    (setAttention c s).stm = s.stm ∧
    (setAttention c s).mtc = s.mtc ∧
    (setAttention c s).fmn = s.fmn ∧
    (setAttention c s).lpt = s.lpt ∧
    (setAttention c s).cfs = s.cfs ∧
    (setAttention c s).pins = s.pins ∧
    (setAttention c s).freeCount = s.freeCount ∧
    (setAttention c s).pending = s.pending := by
  unfold setAttention
  repeat' (first | split | dsimp only)
  all_goals simp [*]

@[simp] theorem countEvent_frame (e : CountedEvent) (s : State) :
    (countEvent e s).lif = s.lif ∧
    (countEvent e s).ptb = s.ptb ∧
    (countEvent e s).clu = s.clu ∧
    (countEvent e s).shu = s.shu ∧
    (countEvent e s).osl = s.osl ∧
    (countEvent e s).stm = s.stm ∧
    (countEvent e s).mtc = s.mtc ∧
    (countEvent e s).fmn = s.fmn ∧
    (countEvent e s).lpt = s.lpt ∧
    (countEvent e s).cfs = s.cfs ∧
    (countEvent e s).pins = s.pins ∧
    (countEvent e s).freeCount = s.freeCount ∧
    (countEvent e s).pending = s.pending := by
  unfold countEvent
  repeat' (first | split | dsimp only)
  all_goals simp [*]

@[simp] theorem handOverSamples_frame (v : SampleValues) (s : State) :
    (handOverSamples v s).lif = s.lif ∧
    (handOverSamples v s).ptb = s.ptb ∧
    (handOverSamples v s).clu = s.clu ∧
    (handOverSamples v s).shu = s.shu ∧
    (handOverSamples v s).osl = s.osl ∧
    (handOverSamples v s).stm = s.stm ∧
    (handOverSamples v s).mtc = s.mtc ∧
    (handOverSamples v s).fmn = s.fmn ∧
    (handOverSamples v s).lpt = s.lpt ∧
    (handOverSamples v s).cfs = s.cfs ∧
    (handOverSamples v s).pins = s.pins ∧
    (handOverSamples v s).freeCount = s.freeCount ∧
    (handOverSamples v s).pending = s.pending := by
  unfold handOverSamples
  repeat' (first | split | dsimp only)
  all_goals simp [*]

@[simp] theorem State.updateEntry_frame (s : State) (b : Nat) (f : Entry → Entry) :
    (s.updateEntry b f).lif = s.lif ∧
    (s.updateEntry b f).clu = s.clu ∧
    (s.updateEntry b f).shu = s.shu ∧
    (s.updateEntry b f).osl = s.osl ∧
    (s.updateEntry b f).stm = s.stm ∧
    (s.updateEntry b f).mtc = s.mtc ∧
    (s.updateEntry b f).fmn = s.fmn ∧
    (s.updateEntry b f).lpt = s.lpt ∧
    (s.updateEntry b f).cfs = s.cfs ∧
    (s.updateEntry b f).act = s.act ∧
    (s.updateEntry b f).pins = s.pins ∧
    (s.updateEntry b f).freeCount = s.freeCount ∧
    (s.updateEntry b f).pending = s.pending := by
  unfold State.updateEntry
  repeat' (first | split | dsimp only)
  all_goals simp [*]

@[simp] theorem queueSurge_frame (epoch : Nat) (s : State) :
    (queueSurge epoch s).ptb = s.ptb ∧
    (queueSurge epoch s).clu = s.clu ∧
    (queueSurge epoch s).shu = s.shu ∧
    (queueSurge epoch s).osl = s.osl ∧
    (queueSurge epoch s).stm = s.stm ∧
    (queueSurge epoch s).mtc = s.mtc ∧
    (queueSurge epoch s).fmn = s.fmn ∧
    (queueSurge epoch s).lpt = s.lpt ∧
    (queueSurge epoch s).cfs = s.cfs ∧
    (queueSurge epoch s).act = s.act ∧
    (queueSurge epoch s).pins = s.pins ∧
    (queueSurge epoch s).freeCount = s.freeCount ∧
    (queueSurge epoch s).pending = s.pending := by
  unfold queueSurge
  repeat' (first | split | dsimp only)
  all_goals simp [*]

@[simp] theorem queueVerdict_frame (v : VerdictContent) (s : State) :
    (queueVerdict v s).ptb = s.ptb ∧
    (queueVerdict v s).clu = s.clu ∧
    (queueVerdict v s).shu = s.shu ∧
    (queueVerdict v s).osl = s.osl ∧
    (queueVerdict v s).stm = s.stm ∧
    (queueVerdict v s).mtc = s.mtc ∧
    (queueVerdict v s).fmn = s.fmn ∧
    (queueVerdict v s).lpt = s.lpt ∧
    (queueVerdict v s).cfs = s.cfs ∧
    (queueVerdict v s).act = s.act ∧
    (queueVerdict v s).pins = s.pins ∧
    (queueVerdict v s).freeCount = s.freeCount ∧
    (queueVerdict v s).pending = s.pending := by
  unfold queueVerdict
  repeat' (first | split | dsimp only)
  all_goals simp [*]

@[simp] theorem queueClaim_frame (c : ClaimContent) (s : State) :
    (queueClaim c s).ptb = s.ptb ∧
    (queueClaim c s).clu = s.clu ∧
    (queueClaim c s).shu = s.shu ∧
    (queueClaim c s).osl = s.osl ∧
    (queueClaim c s).stm = s.stm ∧
    (queueClaim c s).mtc = s.mtc ∧
    (queueClaim c s).fmn = s.fmn ∧
    (queueClaim c s).lpt = s.lpt ∧
    (queueClaim c s).cfs = s.cfs ∧
    (queueClaim c s).act = s.act ∧
    (queueClaim c s).pins = s.pins ∧
    (queueClaim c s).freeCount = s.freeCount ∧
    (queueClaim c s).pending = s.pending := by
  unfold queueClaim
  repeat' (first | split | dsimp only)
  all_goals simp [*]

@[simp] theorem withdrawClaim_frame (s : State) :
    (withdrawClaim s).ptb = s.ptb ∧
    (withdrawClaim s).clu = s.clu ∧
    (withdrawClaim s).shu = s.shu ∧
    (withdrawClaim s).osl = s.osl ∧
    (withdrawClaim s).stm = s.stm ∧
    (withdrawClaim s).mtc = s.mtc ∧
    (withdrawClaim s).fmn = s.fmn ∧
    (withdrawClaim s).lpt = s.lpt ∧
    (withdrawClaim s).cfs = s.cfs ∧
    (withdrawClaim s).act = s.act ∧
    (withdrawClaim s).pins = s.pins ∧
    (withdrawClaim s).freeCount = s.freeCount ∧
    (withdrawClaim s).pending = s.pending := by
  unfold withdrawClaim
  repeat' (first | split | dsimp only)
  all_goals simp [*]

@[simp] theorem queueOrder_frame (c : OrderContent) (s : State) :
    (queueOrder c s).ptb = s.ptb ∧
    (queueOrder c s).clu = s.clu ∧
    (queueOrder c s).shu = s.shu ∧
    (queueOrder c s).osl = s.osl ∧
    (queueOrder c s).stm = s.stm ∧
    (queueOrder c s).mtc = s.mtc ∧
    (queueOrder c s).fmn = s.fmn ∧
    (queueOrder c s).lpt = s.lpt ∧
    (queueOrder c s).cfs = s.cfs ∧
    (queueOrder c s).act = s.act ∧
    (queueOrder c s).pins = s.pins ∧
    (queueOrder c s).freeCount = s.freeCount ∧
    (queueOrder c s).pending = s.pending := by
  unfold queueOrder
  repeat' (first | split | dsimp only)
  all_goals simp [*]

@[simp] theorem dueStatusA_frame (s : State) :
    (dueStatusA s).ptb = s.ptb ∧
    (dueStatusA s).clu = s.clu ∧
    (dueStatusA s).shu = s.shu ∧
    (dueStatusA s).osl = s.osl ∧
    (dueStatusA s).stm = s.stm ∧
    (dueStatusA s).mtc = s.mtc ∧
    (dueStatusA s).fmn = s.fmn ∧
    (dueStatusA s).lpt = s.lpt ∧
    (dueStatusA s).cfs = s.cfs ∧
    (dueStatusA s).act = s.act ∧
    (dueStatusA s).pins = s.pins ∧
    (dueStatusA s).freeCount = s.freeCount ∧
    (dueStatusA s).pending = s.pending := by
  unfold dueStatusA
  repeat' (first | split | dsimp only)
  all_goals simp [*]

@[simp] theorem dueStatusB_frame (s : State) :
    (dueStatusB s).ptb = s.ptb ∧
    (dueStatusB s).clu = s.clu ∧
    (dueStatusB s).shu = s.shu ∧
    (dueStatusB s).osl = s.osl ∧
    (dueStatusB s).stm = s.stm ∧
    (dueStatusB s).mtc = s.mtc ∧
    (dueStatusB s).fmn = s.fmn ∧
    (dueStatusB s).lpt = s.lpt ∧
    (dueStatusB s).cfs = s.cfs ∧
    (dueStatusB s).act = s.act ∧
    (dueStatusB s).pins = s.pins ∧
    (dueStatusB s).freeCount = s.freeCount ∧
    (dueStatusB s).pending = s.pending := by
  unfold dueStatusB
  repeat' (first | split | dsimp only)
  all_goals simp [*]

@[simp] theorem makeClaim_frame (p t : Nat) (s : State) :
    (makeClaim p t s).ptb = s.ptb ∧
    (makeClaim p t s).shu = s.shu ∧
    (makeClaim p t s).osl = s.osl ∧
    (makeClaim p t s).stm = s.stm ∧
    (makeClaim p t s).mtc = s.mtc ∧
    (makeClaim p t s).fmn = s.fmn ∧
    (makeClaim p t s).lpt = s.lpt ∧
    (makeClaim p t s).cfs = s.cfs ∧
    (makeClaim p t s).act = s.act ∧
    (makeClaim p t s).pins = s.pins ∧
    (makeClaim p t s).freeCount = s.freeCount ∧
    (makeClaim p t s).pending = s.pending := by
  unfold makeClaim
  repeat' (first | split | dsimp only)
  all_goals simp [*]

@[simp] theorem testClaim_frame (s : State) :
    (testClaim s).ptb = s.ptb ∧
    (testClaim s).shu = s.shu ∧
    (testClaim s).osl = s.osl ∧
    (testClaim s).stm = s.stm ∧
    (testClaim s).mtc = s.mtc ∧
    (testClaim s).fmn = s.fmn ∧
    (testClaim s).lpt = s.lpt ∧
    (testClaim s).cfs = s.cfs ∧
    (testClaim s).act = s.act ∧
    (testClaim s).pins = s.pins ∧
    (testClaim s).freeCount = s.freeCount ∧
    (testClaim s).pending = s.pending := by
  unfold testClaim
  repeat' (first | split | dsimp only)
  all_goals simp [*]

@[simp] theorem endClosureRow_frame (s : State) :
    (endClosureRow s).lif = s.lif ∧
    (endClosureRow s).ptb = s.ptb ∧
    (endClosureRow s).shu = s.shu ∧
    (endClosureRow s).osl = s.osl ∧
    (endClosureRow s).stm = s.stm ∧
    (endClosureRow s).mtc = s.mtc ∧
    (endClosureRow s).fmn = s.fmn ∧
    (endClosureRow s).lpt = s.lpt ∧
    (endClosureRow s).cfs = s.cfs ∧
    (endClosureRow s).act = s.act ∧
    (endClosureRow s).pins = s.pins ∧
    (endClosureRow s).freeCount = s.freeCount ∧
    (endClosureRow s).pending = s.pending := by
  unfold endClosureRow
  repeat' (first | split | dsimp only)
  all_goals simp [*]

@[simp] theorem resolveClaim_frame (o : ClaimOutcome) (s : State) :
    (resolveClaim o s).ptb = s.ptb ∧
    (resolveClaim o s).shu = s.shu ∧
    (resolveClaim o s).osl = s.osl ∧
    (resolveClaim o s).stm = s.stm ∧
    (resolveClaim o s).mtc = s.mtc ∧
    (resolveClaim o s).fmn = s.fmn ∧
    (resolveClaim o s).lpt = s.lpt ∧
    (resolveClaim o s).cfs = s.cfs ∧
    (resolveClaim o s).act = s.act ∧
    (resolveClaim o s).pins = s.pins ∧
    (resolveClaim o s).freeCount = s.freeCount ∧
    (resolveClaim o s).pending = s.pending := by
  unfold resolveClaim
  repeat' (first | split | dsimp only)
  all_goals simp [*]

@[simp] theorem startBackoff_frame (s : State) :
    (startBackoff s).lif = s.lif ∧
    (startBackoff s).ptb = s.ptb ∧
    (startBackoff s).shu = s.shu ∧
    (startBackoff s).osl = s.osl ∧
    (startBackoff s).stm = s.stm ∧
    (startBackoff s).mtc = s.mtc ∧
    (startBackoff s).fmn = s.fmn ∧
    (startBackoff s).lpt = s.lpt ∧
    (startBackoff s).cfs = s.cfs ∧
    (startBackoff s).act = s.act ∧
    (startBackoff s).pins = s.pins ∧
    (startBackoff s).freeCount = s.freeCount ∧
    (startBackoff s).pending = s.pending := by
  unfold startBackoff
  repeat' (first | split | dsimp only)
  all_goals simp [*]

@[simp] theorem abandonClaim_frame (s : State) :
    (abandonClaim s).ptb = s.ptb ∧
    (abandonClaim s).shu = s.shu ∧
    (abandonClaim s).osl = s.osl ∧
    (abandonClaim s).stm = s.stm ∧
    (abandonClaim s).mtc = s.mtc ∧
    (abandonClaim s).fmn = s.fmn ∧
    (abandonClaim s).lpt = s.lpt ∧
    (abandonClaim s).cfs = s.cfs ∧
    (abandonClaim s).act = s.act ∧
    (abandonClaim s).pins = s.pins ∧
    (abandonClaim s).freeCount = s.freeCount ∧
    (abandonClaim s).pending = s.pending := by
  unfold abandonClaim
  repeat' (first | split | dsimp only)
  all_goals simp [*]

@[simp] theorem statusOnLeavingRest_frame (before : Motion) (s : State) :
    (statusOnLeavingRest before s).ptb = s.ptb ∧
    (statusOnLeavingRest before s).clu = s.clu ∧
    (statusOnLeavingRest before s).shu = s.shu ∧
    (statusOnLeavingRest before s).osl = s.osl ∧
    (statusOnLeavingRest before s).stm = s.stm ∧
    (statusOnLeavingRest before s).mtc = s.mtc ∧
    (statusOnLeavingRest before s).fmn = s.fmn ∧
    (statusOnLeavingRest before s).lpt = s.lpt ∧
    (statusOnLeavingRest before s).cfs = s.cfs ∧
    (statusOnLeavingRest before s).act = s.act ∧
    (statusOnLeavingRest before s).pins = s.pins ∧
    (statusOnLeavingRest before s).freeCount = s.freeCount ∧
    (statusOnLeavingRest before s).pending = s.pending := by
  unfold statusOnLeavingRest
  repeat' (first | split | dsimp only)
  all_goals simp [*]

@[simp] theorem setMotion_frame (m : Mtc) (s : State) :
    (setMotion m s).ptb = s.ptb ∧
    (setMotion m s).clu = s.clu ∧
    (setMotion m s).shu = s.shu ∧
    (setMotion m s).osl = s.osl ∧
    (setMotion m s).stm = s.stm ∧
    (setMotion m s).fmn = s.fmn ∧
    (setMotion m s).lpt = s.lpt ∧
    (setMotion m s).cfs = s.cfs ∧
    (setMotion m s).act = s.act ∧
    (setMotion m s).pins = s.pins ∧
    (setMotion m s).freeCount = s.freeCount ∧
    (setMotion m s).pending = s.pending := by
  unfold setMotion
  repeat' (first | split | dsimp only)
  all_goals simp [*]

@[simp] theorem enterFaultStop_frame (s : State) :
    (enterFaultStop s).ptb = s.ptb ∧
    (enterFaultStop s).clu = s.clu ∧
    (enterFaultStop s).shu = s.shu ∧
    (enterFaultStop s).osl = s.osl ∧
    (enterFaultStop s).stm = s.stm ∧
    (enterFaultStop s).fmn = s.fmn ∧
    (enterFaultStop s).lpt = s.lpt ∧
    (enterFaultStop s).cfs = s.cfs ∧
    (enterFaultStop s).act = s.act ∧
    (enterFaultStop s).pins = s.pins ∧
    (enterFaultStop s).freeCount = s.freeCount ∧
    (enterFaultStop s).pending = s.pending := by
  unfold enterFaultStop
  repeat' (first | split | dsimp only)
  all_goals simp [*]

@[simp] theorem closureTest_frame (s : State) :
    (closureTest s).ptb = s.ptb ∧
    (closureTest s).clu = s.clu ∧
    (closureTest s).shu = s.shu ∧
    (closureTest s).osl = s.osl ∧
    (closureTest s).stm = s.stm ∧
    (closureTest s).fmn = s.fmn ∧
    (closureTest s).lpt = s.lpt ∧
    (closureTest s).cfs = s.cfs ∧
    (closureTest s).act = s.act ∧
    (closureTest s).pins = s.pins ∧
    (closureTest s).freeCount = s.freeCount ∧
    (closureTest s).pending = s.pending := by
  unfold closureTest
  repeat' (first | split | dsimp only)
  all_goals simp [*]

@[simp] theorem enterStopped_frame (s : State) :
    (enterStopped s).ptb = s.ptb ∧
    (enterStopped s).shu = s.shu ∧
    (enterStopped s).osl = s.osl ∧
    (enterStopped s).stm = s.stm ∧
    (enterStopped s).fmn = s.fmn ∧
    (enterStopped s).lpt = s.lpt ∧
    (enterStopped s).cfs = s.cfs ∧
    (enterStopped s).act = s.act ∧
    (enterStopped s).pins = s.pins ∧
    (enterStopped s).freeCount = s.freeCount ∧
    (enterStopped s).pending = s.pending := by
  unfold enterStopped
  repeat' (first | split | dsimp only)
  all_goals simp [*]

@[simp] theorem reportAbandon_frame (s : State) :
    (reportAbandon s).ptb = s.ptb ∧
    (reportAbandon s).shu = s.shu ∧
    (reportAbandon s).osl = s.osl ∧
    (reportAbandon s).stm = s.stm ∧
    (reportAbandon s).fmn = s.fmn ∧
    (reportAbandon s).lpt = s.lpt ∧
    (reportAbandon s).cfs = s.cfs ∧
    (reportAbandon s).act = s.act ∧
    (reportAbandon s).pins = s.pins ∧
    (reportAbandon s).freeCount = s.freeCount ∧
    (reportAbandon s).pending = s.pending := by
  unfold reportAbandon
  repeat' (first | split | dsimp only)
  all_goals simp [*]

@[simp] theorem enterSettling_frame (s : State) :
    (enterSettling s).ptb = s.ptb ∧
    (enterSettling s).shu = s.shu ∧
    (enterSettling s).osl = s.osl ∧
    (enterSettling s).stm = s.stm ∧
    (enterSettling s).fmn = s.fmn ∧
    (enterSettling s).lpt = s.lpt ∧
    (enterSettling s).cfs = s.cfs ∧
    (enterSettling s).act = s.act ∧
    (enterSettling s).pins = s.pins ∧
    (enterSettling s).freeCount = s.freeCount ∧
    (enterSettling s).pending = s.pending := by
  unfold enterSettling
  repeat' (first | split | dsimp only)
  all_goals simp [*]

@[simp] theorem runOnExpiry_frame (s : State) :
    (runOnExpiry s).ptb = s.ptb ∧
    (runOnExpiry s).shu = s.shu ∧
    (runOnExpiry s).osl = s.osl ∧
    (runOnExpiry s).stm = s.stm ∧
    (runOnExpiry s).fmn = s.fmn ∧
    (runOnExpiry s).lpt = s.lpt ∧
    (runOnExpiry s).cfs = s.cfs ∧
    (runOnExpiry s).act = s.act ∧
    (runOnExpiry s).pins = s.pins ∧
    (runOnExpiry s).freeCount = s.freeCount ∧
    (runOnExpiry s).pending = s.pending := by
  unfold runOnExpiry
  repeat' (first | split | dsimp only)
  all_goals simp [*]

@[simp] theorem endMovement_frame (s : State) :
    (endMovement s).ptb = s.ptb ∧
    (endMovement s).shu = s.shu ∧
    (endMovement s).osl = s.osl ∧
    (endMovement s).stm = s.stm ∧
    (endMovement s).fmn = s.fmn ∧
    (endMovement s).lpt = s.lpt ∧
    (endMovement s).cfs = s.cfs ∧
    (endMovement s).pins = s.pins ∧
    (endMovement s).freeCount = s.freeCount ∧
    (endMovement s).pending = s.pending := by
  unfold endMovement
  repeat' (first | split | dsimp only)
  all_goals simp [*]

@[simp] theorem enterHolding_frame (s : State) :
    (enterHolding s).ptb = s.ptb ∧
    (enterHolding s).shu = s.shu ∧
    (enterHolding s).osl = s.osl ∧
    (enterHolding s).stm = s.stm ∧
    (enterHolding s).fmn = s.fmn ∧
    (enterHolding s).lpt = s.lpt ∧
    (enterHolding s).cfs = s.cfs ∧
    (enterHolding s).pins = s.pins ∧
    (enterHolding s).freeCount = s.freeCount ∧
    (enterHolding s).pending = s.pending := by
  unfold enterHolding
  repeat' (first | split | dsimp only)
  all_goals simp [*]

@[simp] theorem newGoal_frame (q : Nat) (s : State) :
    (newGoal q s).lif = s.lif ∧
    (newGoal q s).ptb = s.ptb ∧
    (newGoal q s).clu = s.clu ∧
    (newGoal q s).shu = s.shu ∧
    (newGoal q s).osl = s.osl ∧
    (newGoal q s).stm = s.stm ∧
    (newGoal q s).fmn = s.fmn ∧
    (newGoal q s).lpt = s.lpt ∧
    (newGoal q s).cfs = s.cfs ∧
    (newGoal q s).act = s.act ∧
    (newGoal q s).pins = s.pins ∧
    (newGoal q s).freeCount = s.freeCount ∧
    (newGoal q s).pending = s.pending := by
  unfold newGoal
  repeat' (first | split | dsimp only)
  all_goals simp [*]

@[simp] theorem targetStop_frame (s : State) :
    (targetStop s).ptb = s.ptb ∧
    (targetStop s).clu = s.clu ∧
    (targetStop s).shu = s.shu ∧
    (targetStop s).osl = s.osl ∧
    (targetStop s).stm = s.stm ∧
    (targetStop s).fmn = s.fmn ∧
    (targetStop s).lpt = s.lpt ∧
    (targetStop s).cfs = s.cfs ∧
    (targetStop s).act = s.act ∧
    (targetStop s).pins = s.pins ∧
    (targetStop s).freeCount = s.freeCount ∧
    (targetStop s).pending = s.pending := by
  unfold targetStop
  repeat' (first | split | dsimp only)
  all_goals simp [*]

@[simp] theorem abandonStop_frame (s : State) :
    (abandonStop s).ptb = s.ptb ∧
    (abandonStop s).shu = s.shu ∧
    (abandonStop s).osl = s.osl ∧
    (abandonStop s).stm = s.stm ∧
    (abandonStop s).fmn = s.fmn ∧
    (abandonStop s).lpt = s.lpt ∧
    (abandonStop s).cfs = s.cfs ∧
    (abandonStop s).act = s.act ∧
    (abandonStop s).pins = s.pins ∧
    (abandonStop s).freeCount = s.freeCount ∧
    (abandonStop s).pending = s.pending := by
  unfold abandonStop
  repeat' (first | split | dsimp only)
  all_goals simp [*]

@[simp] theorem handStride_frame (limits : Span) (e : Nat) (s : State) :
    (handStride limits e s).ptb = s.ptb ∧
    (handStride limits e s).clu = s.clu ∧
    (handStride limits e s).shu = s.shu ∧
    (handStride limits e s).osl = s.osl ∧
    (handStride limits e s).stm = s.stm ∧
    (handStride limits e s).fmn = s.fmn ∧
    (handStride limits e s).lpt = s.lpt ∧
    (handStride limits e s).cfs = s.cfs ∧
    (handStride limits e s).act = s.act ∧
    (handStride limits e s).pins = s.pins ∧
    (handStride limits e s).freeCount = s.freeCount ∧
    (handStride limits e s).pending = s.pending := by
  unfold handStride
  repeat' (first | split | dsimp only)
  all_goals simp [*]

@[simp] theorem surgeSelected_frame (s : State) :
    (surgeSelected s).ptb = s.ptb ∧
    (surgeSelected s).clu = s.clu ∧
    (surgeSelected s).shu = s.shu ∧
    (surgeSelected s).osl = s.osl ∧
    (surgeSelected s).stm = s.stm ∧
    (surgeSelected s).fmn = s.fmn ∧
    (surgeSelected s).lpt = s.lpt ∧
    (surgeSelected s).cfs = s.cfs ∧
    (surgeSelected s).act = s.act ∧
    (surgeSelected s).pins = s.pins ∧
    (surgeSelected s).freeCount = s.freeCount ∧
    (surgeSelected s).pending = s.pending := by
  unfold surgeSelected
  repeat' (first | split | dsimp only)
  all_goals simp [*]

@[simp] theorem surgeDeselected_frame (s : State) :
    (surgeDeselected s).ptb = s.ptb ∧
    (surgeDeselected s).shu = s.shu ∧
    (surgeDeselected s).osl = s.osl ∧
    (surgeDeselected s).stm = s.stm ∧
    (surgeDeselected s).fmn = s.fmn ∧
    (surgeDeselected s).lpt = s.lpt ∧
    (surgeDeselected s).cfs = s.cfs ∧
    (surgeDeselected s).act = s.act ∧
    (surgeDeselected s).pins = s.pins ∧
    (surgeDeselected s).freeCount = s.freeCount ∧
    (surgeDeselected s).pending = s.pending := by
  unfold surgeDeselected
  repeat' (first | split | dsimp only)
  all_goals simp [*]

@[simp] theorem leavePriming_frame (s : State) :
    (leavePriming s).ptb = s.ptb ∧
    (leavePriming s).shu = s.shu ∧
    (leavePriming s).osl = s.osl ∧
    (leavePriming s).stm = s.stm ∧
    (leavePriming s).fmn = s.fmn ∧
    (leavePriming s).lpt = s.lpt ∧
    (leavePriming s).cfs = s.cfs ∧
    (leavePriming s).pins = s.pins ∧
    (leavePriming s).freeCount = s.freeCount ∧
    (leavePriming s).pending = s.pending := by
  unfold leavePriming
  repeat' (first | split | dsimp only)
  all_goals simp [*]

@[simp] theorem endTrim_frame (s : State) :
    (endTrim s).ptb = s.ptb ∧
    (endTrim s).clu = s.clu ∧
    (endTrim s).shu = s.shu ∧
    (endTrim s).osl = s.osl ∧
    (endTrim s).stm = s.stm ∧
    (endTrim s).fmn = s.fmn ∧
    (endTrim s).lpt = s.lpt ∧
    (endTrim s).cfs = s.cfs ∧
    (endTrim s).act = s.act ∧
    (endTrim s).pins = s.pins ∧
    (endTrim s).freeCount = s.freeCount ∧
    (endTrim s).pending = s.pending := by
  unfold endTrim
  repeat' (first | split | dsimp only)
  all_goals simp [*]

@[simp] theorem evalService_frame (s : State) :
    (evalService s).ptb = s.ptb ∧
    (evalService s).clu = s.clu ∧
    (evalService s).shu = s.shu ∧
    (evalService s).stm = s.stm ∧
    (evalService s).mtc = s.mtc ∧
    (evalService s).fmn = s.fmn ∧
    (evalService s).lpt = s.lpt ∧
    (evalService s).cfs = s.cfs ∧
    (evalService s).act = s.act ∧
    (evalService s).pins = s.pins ∧
    (evalService s).freeCount = s.freeCount ∧
    (evalService s).pending = s.pending := by
  unfold evalService
  repeat' (first | split | dsimp only)
  all_goals simp [*]

@[simp] theorem captureRest_frame (s : State) :
    (captureRest s).lif = s.lif ∧
    (captureRest s).ptb = s.ptb ∧
    (captureRest s).clu = s.clu ∧
    (captureRest s).shu = s.shu ∧
    (captureRest s).stm = s.stm ∧
    (captureRest s).mtc = s.mtc ∧
    (captureRest s).fmn = s.fmn ∧
    (captureRest s).lpt = s.lpt ∧
    (captureRest s).cfs = s.cfs ∧
    (captureRest s).act = s.act ∧
    (captureRest s).pins = s.pins ∧
    (captureRest s).freeCount = s.freeCount ∧
    (captureRest s).pending = s.pending := by
  unfold captureRest
  repeat' (first | split | dsimp only)
  all_goals simp [*]

@[simp] theorem midStride_frame (u : Nat) (s : State) :
    (midStride u s).ptb = s.ptb ∧
    (midStride u s).clu = s.clu ∧
    (midStride u s).shu = s.shu ∧
    (midStride u s).osl = s.osl ∧
    (midStride u s).stm = s.stm ∧
    (midStride u s).fmn = s.fmn ∧
    (midStride u s).lpt = s.lpt ∧
    (midStride u s).cfs = s.cfs ∧
    (midStride u s).act = s.act ∧
    (midStride u s).pins = s.pins ∧
    (midStride u s).freeCount = s.freeCount ∧
    (midStride u s).pending = s.pending := by
  unfold midStride
  repeat' (first | split | dsimp only)
  all_goals simp [*]

@[simp] theorem targetReport_frame (s : State) :
    (targetReport s).ptb = s.ptb ∧
    (targetReport s).shu = s.shu ∧
    (targetReport s).osl = s.osl ∧
    (targetReport s).stm = s.stm ∧
    (targetReport s).fmn = s.fmn ∧
    (targetReport s).lpt = s.lpt ∧
    (targetReport s).cfs = s.cfs ∧
    (targetReport s).act = s.act ∧
    (targetReport s).pins = s.pins ∧
    (targetReport s).freeCount = s.freeCount ∧
    (targetReport s).pending = s.pending := by
  unfold targetReport
  repeat' (first | split | dsimp only)
  all_goals simp [*]

@[simp] theorem surgeReport_frame (before : Slot) (s : State) :
    (surgeReport before s).ptb = s.ptb ∧
    (surgeReport before s).shu = s.shu ∧
    (surgeReport before s).osl = s.osl ∧
    (surgeReport before s).stm = s.stm ∧
    (surgeReport before s).fmn = s.fmn ∧
    (surgeReport before s).lpt = s.lpt ∧
    (surgeReport before s).cfs = s.cfs ∧
    (surgeReport before s).act = s.act ∧
    (surgeReport before s).pins = s.pins ∧
    (surgeReport before s).freeCount = s.freeCount ∧
    (surgeReport before s).pending = s.pending := by
  unfold surgeReport
  repeat' (first | split | dsimp only)
  all_goals simp [*]

@[simp] theorem reselect_frame (s : State) :
    (reselect s).ptb = s.ptb ∧
    (reselect s).shu = s.shu ∧
    (reselect s).stm = s.stm ∧
    (reselect s).fmn = s.fmn ∧
    (reselect s).lpt = s.lpt ∧
    (reselect s).cfs = s.cfs ∧
    (reselect s).act = s.act ∧
    (reselect s).pins = s.pins ∧
    (reselect s).freeCount = s.freeCount ∧
    (reselect s).pending = s.pending := by
  unfold reselect
  repeat' (first | split | dsimp only)
  all_goals simp [*]

@[simp] theorem setTidalSlot_frame (b : Bool) (s : State) :
    (setTidalSlot b s).ptb = s.ptb ∧
    (setTidalSlot b s).shu = s.shu ∧
    (setTidalSlot b s).stm = s.stm ∧
    (setTidalSlot b s).fmn = s.fmn ∧
    (setTidalSlot b s).lpt = s.lpt ∧
    (setTidalSlot b s).cfs = s.cfs ∧
    (setTidalSlot b s).act = s.act ∧
    (setTidalSlot b s).pins = s.pins ∧
    (setTidalSlot b s).freeCount = s.freeCount ∧
    (setTidalSlot b s).pending = s.pending := by
  unfold setTidalSlot
  repeat' (first | split | dsimp only)
  all_goals simp [*]

@[simp] theorem handWeir_frame (share : Nat) (s : State) :
    (handWeir share s).ptb = s.ptb ∧
    (handWeir share s).shu = s.shu ∧
    (handWeir share s).stm = s.stm ∧
    (handWeir share s).fmn = s.fmn ∧
    (handWeir share s).lpt = s.lpt ∧
    (handWeir share s).cfs = s.cfs ∧
    (handWeir share s).act = s.act ∧
    (handWeir share s).pins = s.pins ∧
    (handWeir share s).freeCount = s.freeCount ∧
    (handWeir share s).pending = s.pending := by
  unfold handWeir
  repeat' (first | split | dsimp only)
  all_goals simp [*]

@[simp] theorem setLocal_frame (target : Nat) (s : State) :
    (setLocal target s).ptb = s.ptb ∧
    (setLocal target s).shu = s.shu ∧
    (setLocal target s).stm = s.stm ∧
    (setLocal target s).fmn = s.fmn ∧
    (setLocal target s).lpt = s.lpt ∧
    (setLocal target s).cfs = s.cfs ∧
    (setLocal target s).act = s.act ∧
    (setLocal target s).pins = s.pins ∧
    (setLocal target s).freeCount = s.freeCount ∧
    (setLocal target s).pending = s.pending := by
  unfold setLocal
  repeat' (first | split | dsimp only)
  all_goals simp [*]

@[simp] theorem surgeAbandon_frame (s : State) :
    (surgeAbandon s).ptb = s.ptb ∧
    (surgeAbandon s).shu = s.shu ∧
    (surgeAbandon s).osl = s.osl ∧
    (surgeAbandon s).stm = s.stm ∧
    (surgeAbandon s).fmn = s.fmn ∧
    (surgeAbandon s).lpt = s.lpt ∧
    (surgeAbandon s).cfs = s.cfs ∧
    (surgeAbandon s).act = s.act ∧
    (surgeAbandon s).pins = s.pins ∧
    (surgeAbandon s).freeCount = s.freeCount ∧
    (surgeAbandon s).pending = s.pending := by
  unfold surgeAbandon
  repeat' (first | split | dsimp only)
  all_goals simp [*]

@[simp] theorem changeEpoch_frame (e : Nat) (s : State) :
    (changeEpoch e s).ptb = s.ptb ∧
    (changeEpoch e s).shu = s.shu ∧
    (changeEpoch e s).fmn = s.fmn ∧
    (changeEpoch e s).lpt = s.lpt ∧
    (changeEpoch e s).cfs = s.cfs ∧
    (changeEpoch e s).pins = s.pins ∧
    (changeEpoch e s).freeCount = s.freeCount ∧
    (changeEpoch e s).pending = s.pending := by
  unfold changeEpoch
  repeat' (first | split | dsimp only)
  all_goals simp [*]

@[simp] theorem raiseEpoch_frame (s : State) :
    (raiseEpoch s).ptb = s.ptb ∧
    (raiseEpoch s).shu = s.shu ∧
    (raiseEpoch s).fmn = s.fmn ∧
    (raiseEpoch s).lpt = s.lpt ∧
    (raiseEpoch s).cfs = s.cfs ∧
    (raiseEpoch s).pins = s.pins ∧
    (raiseEpoch s).freeCount = s.freeCount ∧
    (raiseEpoch s).pending = s.pending := by
  unfold raiseEpoch
  repeat' (first | split | dsimp only)
  all_goals simp [*]

@[simp] theorem raiseTests_frame (s : State) :
    (raiseTests s).ptb = s.ptb ∧
    (raiseTests s).shu = s.shu ∧
    (raiseTests s).fmn = s.fmn ∧
    (raiseTests s).lpt = s.lpt ∧
    (raiseTests s).cfs = s.cfs ∧
    (raiseTests s).pins = s.pins ∧
    (raiseTests s).freeCount = s.freeCount ∧
    (raiseTests s).pending = s.pending := by
  unfold raiseTests
  repeat' (first | split | dsimp only)
  all_goals simp [*]

@[simp] theorem clearEpoch_frame (s : State) :
    (clearEpoch s).ptb = s.ptb ∧
    (clearEpoch s).shu = s.shu ∧
    (clearEpoch s).fmn = s.fmn ∧
    (clearEpoch s).lpt = s.lpt ∧
    (clearEpoch s).cfs = s.cfs ∧
    (clearEpoch s).pins = s.pins ∧
    (clearEpoch s).freeCount = s.freeCount ∧
    (clearEpoch s).pending = s.pending := by
  unfold clearEpoch
  repeat' (first | split | dsimp only)
  all_goals simp [*]

@[simp] theorem adoptEpoch_frame (e : Nat) (s : State) :
    (adoptEpoch e s).ptb = s.ptb ∧
    (adoptEpoch e s).shu = s.shu ∧
    (adoptEpoch e s).fmn = s.fmn ∧
    (adoptEpoch e s).lpt = s.lpt ∧
    (adoptEpoch e s).cfs = s.cfs ∧
    (adoptEpoch e s).pins = s.pins ∧
    (adoptEpoch e s).freeCount = s.freeCount ∧
    (adoptEpoch e s).pending = s.pending := by
  unfold adoptEpoch
  repeat' (first | split | dsimp only)
  all_goals simp [*]

@[simp] theorem settleNow_frame (s : State) :
    (settleNow s).lif = s.lif ∧
    (settleNow s).ptb = s.ptb ∧
    (settleNow s).clu = s.clu ∧
    (settleNow s).shu = s.shu ∧
    (settleNow s).osl = s.osl ∧
    (settleNow s).mtc = s.mtc ∧
    (settleNow s).fmn = s.fmn ∧
    (settleNow s).lpt = s.lpt ∧
    (settleNow s).cfs = s.cfs ∧
    (settleNow s).act = s.act ∧
    (settleNow s).pins = s.pins ∧
    (settleNow s).freeCount = s.freeCount ∧
    (settleNow s).pending = s.pending := by
  unfold settleNow
  repeat' (first | split | dsimp only)
  all_goals simp [*]

@[simp] theorem surgeFromPeer_frame (e : Nat) (s : State) :
    (surgeFromPeer e s).ptb = s.ptb ∧
    (surgeFromPeer e s).shu = s.shu ∧
    (surgeFromPeer e s).fmn = s.fmn ∧
    (surgeFromPeer e s).lpt = s.lpt ∧
    (surgeFromPeer e s).cfs = s.cfs ∧
    (surgeFromPeer e s).pins = s.pins ∧
    (surgeFromPeer e s).freeCount = s.freeCount ∧
    (surgeFromPeer e s).pending = s.pending := by
  unfold surgeFromPeer
  repeat' (first | split | dsimp only)
  all_goals simp [*]

@[simp] theorem surgeFromSelf_frame (e : Nat) (s : State) :
    (surgeFromSelf e s).ptb = s.ptb ∧
    (surgeFromSelf e s).shu = s.shu ∧
    (surgeFromSelf e s).fmn = s.fmn ∧
    (surgeFromSelf e s).lpt = s.lpt ∧
    (surgeFromSelf e s).cfs = s.cfs ∧
    (surgeFromSelf e s).pins = s.pins ∧
    (surgeFromSelf e s).freeCount = s.freeCount ∧
    (surgeFromSelf e s).pending = s.pending := by
  unfold surgeFromSelf
  repeat' (first | split | dsimp only)
  all_goals simp [*]

@[simp] theorem epochFromStatus_frame (e : Nat) (senderFresh : Bool) (s : State) :
    (epochFromStatus e senderFresh s).ptb = s.ptb ∧
    (epochFromStatus e senderFresh s).shu = s.shu ∧
    (epochFromStatus e senderFresh s).fmn = s.fmn ∧
    (epochFromStatus e senderFresh s).lpt = s.lpt ∧
    (epochFromStatus e senderFresh s).cfs = s.cfs ∧
    (epochFromStatus e senderFresh s).pins = s.pins ∧
    (epochFromStatus e senderFresh s).freeCount = s.freeCount ∧
    (epochFromStatus e senderFresh s).pending = s.pending := by
  unfold epochFromStatus
  repeat' (first | split | dsimp only)
  all_goals simp [*]

@[simp] theorem chooseSources_frame (s : State) :
    (chooseSources s).lif = s.lif ∧
    (chooseSources s).ptb = s.ptb ∧
    (chooseSources s).clu = s.clu ∧
    (chooseSources s).shu = s.shu ∧
    (chooseSources s).osl = s.osl ∧
    (chooseSources s).mtc = s.mtc ∧
    (chooseSources s).fmn = s.fmn ∧
    (chooseSources s).lpt = s.lpt ∧
    (chooseSources s).cfs = s.cfs ∧
    (chooseSources s).pins = s.pins ∧
    (chooseSources s).freeCount = s.freeCount ∧
    (chooseSources s).pending = s.pending := by
  unfold chooseSources
  repeat' (first | split | dsimp only)
  all_goals simp [*]

@[simp] theorem firstFault_frame (c : Cause) (s : State) :
    (firstFault c s).ptb = s.ptb ∧
    (firstFault c s).shu = s.shu ∧
    (firstFault c s).stm = s.stm ∧
    (firstFault c s).lpt = s.lpt ∧
    (firstFault c s).cfs = s.cfs ∧
    (firstFault c s).pins = s.pins ∧
    (firstFault c s).freeCount = s.freeCount ∧
    (firstFault c s).pending = s.pending := by
  unfold firstFault
  repeat' (first | split | dsimp only)
  all_goals simp [*]

@[simp] theorem secondFault_frame (c : Cause) (s : State) :
    (secondFault c s).ptb = s.ptb ∧
    (secondFault c s).clu = s.clu ∧
    (secondFault c s).shu = s.shu ∧
    (secondFault c s).osl = s.osl ∧
    (secondFault c s).stm = s.stm ∧
    (secondFault c s).lpt = s.lpt ∧
    (secondFault c s).cfs = s.cfs ∧
    (secondFault c s).pins = s.pins ∧
    (secondFault c s).freeCount = s.freeCount ∧
    (secondFault c s).pending = s.pending := by
  unfold secondFault
  repeat' (first | split | dsimp only)
  all_goals simp [*]

@[simp] theorem reportFault_frame (c : Cause) (s : State) :
    (reportFault c s).ptb = s.ptb ∧
    (reportFault c s).shu = s.shu ∧
    (reportFault c s).stm = s.stm ∧
    (reportFault c s).lpt = s.lpt ∧
    (reportFault c s).cfs = s.cfs ∧
    (reportFault c s).pins = s.pins ∧
    (reportFault c s).freeCount = s.freeCount ∧
    (reportFault c s).pending = s.pending := by
  unfold reportFault
  repeat' (first | split | dsimp only)
  all_goals simp [*]

@[simp] theorem clearFaults_frame (s : State) :
    (clearFaults s).ptb = s.ptb ∧
    (clearFaults s).shu = s.shu ∧
    (clearFaults s).stm = s.stm ∧
    (clearFaults s).lpt = s.lpt ∧
    (clearFaults s).cfs = s.cfs ∧
    (clearFaults s).act = s.act ∧
    (clearFaults s).pins = s.pins ∧
    (clearFaults s).freeCount = s.freeCount ∧
    (clearFaults s).pending = s.pending := by
  unfold clearFaults
  repeat' (first | split | dsimp only)
  all_goals simp [*]

@[simp] theorem stopForCondition_frame (s : State) :
    (stopForCondition s).ptb = s.ptb ∧
    (stopForCondition s).shu = s.shu ∧
    (stopForCondition s).osl = s.osl ∧
    (stopForCondition s).stm = s.stm ∧
    (stopForCondition s).fmn = s.fmn ∧
    (stopForCondition s).lpt = s.lpt ∧
    (stopForCondition s).cfs = s.cfs ∧
    (stopForCondition s).act = s.act ∧
    (stopForCondition s).pins = s.pins ∧
    (stopForCondition s).freeCount = s.freeCount ∧
    (stopForCondition s).pending = s.pending := by
  unfold stopForCondition
  repeat' (first | split | dsimp only)
  all_goals simp [*]

@[simp] theorem conditionEnds_frame (s : State) :
    (conditionEnds s).ptb = s.ptb ∧
    (conditionEnds s).clu = s.clu ∧
    (conditionEnds s).shu = s.shu ∧
    (conditionEnds s).osl = s.osl ∧
    (conditionEnds s).stm = s.stm ∧
    (conditionEnds s).fmn = s.fmn ∧
    (conditionEnds s).lpt = s.lpt ∧
    (conditionEnds s).cfs = s.cfs ∧
    (conditionEnds s).act = s.act ∧
    (conditionEnds s).pins = s.pins ∧
    (conditionEnds s).freeCount = s.freeCount ∧
    (conditionEnds s).pending = s.pending := by
  unfold conditionEnds
  repeat' (first | split | dsimp only)
  all_goals simp [*]

@[simp] theorem takeHold_frame (s : State) :
    (takeHold s).ptb = s.ptb ∧
    (takeHold s).shu = s.shu ∧
    (takeHold s).stm = s.stm ∧
    (takeHold s).lpt = s.lpt ∧
    (takeHold s).cfs = s.cfs ∧
    (takeHold s).act = s.act ∧
    (takeHold s).pins = s.pins ∧
    (takeHold s).freeCount = s.freeCount ∧
    (takeHold s).pending = s.pending := by
  unfold takeHold
  repeat' (first | split | dsimp only)
  all_goals simp [*]

@[simp] theorem takeSupplyLow_frame (s : State) :
    (takeSupplyLow s).ptb = s.ptb ∧
    (takeSupplyLow s).shu = s.shu ∧
    (takeSupplyLow s).osl = s.osl ∧
    (takeSupplyLow s).stm = s.stm ∧
    (takeSupplyLow s).lpt = s.lpt ∧
    (takeSupplyLow s).cfs = s.cfs ∧
    (takeSupplyLow s).act = s.act ∧
    (takeSupplyLow s).pins = s.pins ∧
    (takeSupplyLow s).freeCount = s.freeCount ∧
    (takeSupplyLow s).pending = s.pending := by
  unfold takeSupplyLow
  repeat' (first | split | dsimp only)
  all_goals simp [*]

@[simp] theorem runShares_frame (adoption : Bool) (s : State) :
    (runShares adoption s).ptb = s.ptb ∧
    (runShares adoption s).stm = s.stm ∧
    (runShares adoption s).fmn = s.fmn ∧
    (runShares adoption s).lpt = s.lpt ∧
    (runShares adoption s).cfs = s.cfs ∧
    (runShares adoption s).act = s.act ∧
    (runShares adoption s).pins = s.pins ∧
    (runShares adoption s).freeCount = s.freeCount ∧
    (runShares adoption s).pending = s.pending := by
  unfold runShares
  repeat' (first | split | dsimp only)
  all_goals simp [*]

@[simp] theorem shareReport_frame (s : State) :
    (shareReport s).ptb = s.ptb ∧
    (shareReport s).stm = s.stm ∧
    (shareReport s).fmn = s.fmn ∧
    (shareReport s).lpt = s.lpt ∧
    (shareReport s).cfs = s.cfs ∧
    (shareReport s).act = s.act ∧
    (shareReport s).pins = s.pins ∧
    (shareReport s).freeCount = s.freeCount ∧
    (shareReport s).pending = s.pending := by
  unfold shareReport
  repeat' (first | split | dsimp only)
  all_goals simp [*]

@[simp] theorem openingReport_frame (b : Nat) (opening : Nat) (s : State) :
    (openingReport b opening s).ptb = s.ptb ∧
    (openingReport b opening s).stm = s.stm ∧
    (openingReport b opening s).fmn = s.fmn ∧
    (openingReport b opening s).lpt = s.lpt ∧
    (openingReport b opening s).cfs = s.cfs ∧
    (openingReport b opening s).act = s.act ∧
    (openingReport b opening s).pins = s.pins ∧
    (openingReport b opening s).freeCount = s.freeCount ∧
    (openingReport b opening s).pending = s.pending := by
  unfold openingReport
  repeat' (first | split | dsimp only)
  all_goals simp [*]

@[simp] theorem weightReport_frame (b : Nat) (s : State) :
    (weightReport b s).ptb = s.ptb ∧
    (weightReport b s).stm = s.stm ∧
    (weightReport b s).fmn = s.fmn ∧
    (weightReport b s).lpt = s.lpt ∧
    (weightReport b s).cfs = s.cfs ∧
    (weightReport b s).act = s.act ∧
    (weightReport b s).pins = s.pins ∧
    (weightReport b s).freeCount = s.freeCount ∧
    (weightReport b s).pending = s.pending := by
  unfold weightReport
  repeat' (first | split | dsimp only)
  all_goals simp [*]

@[simp] theorem restartRepeat_frame (s : State) :
    (restartRepeat s).ptb = s.ptb ∧
    (restartRepeat s).clu = s.clu ∧
    (restartRepeat s).shu = s.shu ∧
    (restartRepeat s).osl = s.osl ∧
    (restartRepeat s).stm = s.stm ∧
    (restartRepeat s).mtc = s.mtc ∧
    (restartRepeat s).fmn = s.fmn ∧
    (restartRepeat s).lpt = s.lpt ∧
    (restartRepeat s).cfs = s.cfs ∧
    (restartRepeat s).act = s.act ∧
    (restartRepeat s).pins = s.pins ∧
    (restartRepeat s).freeCount = s.freeCount ∧
    (restartRepeat s).pending = s.pending := by
  unfold restartRepeat
  repeat' (first | split | dsimp only)
  all_goals simp [*]

@[simp] theorem takeOrder_frame (sender : Nat) (c : OrderContent) (s : State) :
    (takeOrder sender c s).ptb = s.ptb ∧
    (takeOrder sender c s).stm = s.stm ∧
    (takeOrder sender c s).fmn = s.fmn ∧
    (takeOrder sender c s).lpt = s.lpt ∧
    (takeOrder sender c s).cfs = s.cfs ∧
    (takeOrder sender c s).pins = s.pins ∧
    (takeOrder sender c s).freeCount = s.freeCount ∧
    (takeOrder sender c s).pending = s.pending := by
  unfold takeOrder
  repeat' (first | split | dsimp only)
  all_goals simp [*]

@[simp] theorem heard_frame (b : Nat) (s : State) :
    (heard b s).fmn = s.fmn ∧
    (heard b s).lpt = s.lpt ∧
    (heard b s).cfs = s.cfs ∧
    (heard b s).pins = s.pins ∧
    (heard b s).freeCount = s.freeCount ∧
    (heard b s).pending = s.pending := by
  unfold heard
  repeat' (first | split | dsimp only)
  all_goals simp [*]

@[simp] theorem listenStart_frame (s : State) :
    (listenStart s).clu = s.clu ∧
    (listenStart s).shu = s.shu ∧
    (listenStart s).stm = s.stm ∧
    (listenStart s).mtc = s.mtc ∧
    (listenStart s).fmn = s.fmn ∧
    (listenStart s).lpt = s.lpt ∧
    (listenStart s).cfs = s.cfs ∧
    (listenStart s).act = s.act ∧
    (listenStart s).pins = s.pins ∧
    (listenStart s).freeCount = s.freeCount ∧
    (listenStart s).pending = s.pending := by
  unfold listenStart
  repeat' (first | split | dsimp only)
  all_goals simp [*]

@[simp] theorem reportUnknown_frame (s : State) :
    (reportUnknown s).lif = s.lif ∧
    (reportUnknown s).ptb = s.ptb ∧
    (reportUnknown s).clu = s.clu ∧
    (reportUnknown s).shu = s.shu ∧
    (reportUnknown s).osl = s.osl ∧
    (reportUnknown s).stm = s.stm ∧
    (reportUnknown s).mtc = s.mtc ∧
    (reportUnknown s).fmn = s.fmn ∧
    (reportUnknown s).lpt = s.lpt ∧
    (reportUnknown s).cfs = s.cfs ∧
    (reportUnknown s).pins = s.pins ∧
    (reportUnknown s).freeCount = s.freeCount ∧
    (reportUnknown s).pending = s.pending := by
  unfold reportUnknown
  repeat' (first | split | dsimp only)
  all_goals simp [*]

@[simp] theorem listenEnd_frame (s : State) :
    (listenEnd s).shu = s.shu ∧
    (listenEnd s).stm = s.stm ∧
    (listenEnd s).mtc = s.mtc ∧
    (listenEnd s).fmn = s.fmn ∧
    (listenEnd s).lpt = s.lpt ∧
    (listenEnd s).cfs = s.cfs ∧
    (listenEnd s).pins = s.pins ∧
    (listenEnd s).freeCount = s.freeCount ∧
    (listenEnd s).pending = s.pending := by
  unfold listenEnd
  repeat' (first | split | dsimp only)
  all_goals simp [*]

@[simp] theorem takeStatusA_frame (b : Nat) (c : StatusA) (s : State) :
    (takeStatusA b c s).stm = s.stm ∧
    (takeStatusA b c s).fmn = s.fmn ∧
    (takeStatusA b c s).lpt = s.lpt ∧
    (takeStatusA b c s).cfs = s.cfs ∧
    (takeStatusA b c s).pins = s.pins ∧
    (takeStatusA b c s).freeCount = s.freeCount ∧
    (takeStatusA b c s).pending = s.pending := by
  unfold takeStatusA
  repeat' (first | split | dsimp only)
  all_goals simp [*]

@[simp] theorem takeStatusB_frame (b : Nat) (c : StatusB) (s : State) :
    (takeStatusB b c s).fmn = s.fmn ∧
    (takeStatusB b c s).lpt = s.lpt ∧
    (takeStatusB b c s).cfs = s.cfs ∧
    (takeStatusB b c s).pins = s.pins ∧
    (takeStatusB b c s).freeCount = s.freeCount ∧
    (takeStatusB b c s).pending = s.pending := by
  unfold takeStatusB
  repeat' (first | split | dsimp only)
  all_goals simp [*]

@[simp] theorem takeOwnStatusA_frame (c : StatusA) (s : State) :
    (takeOwnStatusA c s).lif = s.lif ∧
    (takeOwnStatusA c s).clu = s.clu ∧
    (takeOwnStatusA c s).shu = s.shu ∧
    (takeOwnStatusA c s).osl = s.osl ∧
    (takeOwnStatusA c s).stm = s.stm ∧
    (takeOwnStatusA c s).mtc = s.mtc ∧
    (takeOwnStatusA c s).fmn = s.fmn ∧
    (takeOwnStatusA c s).lpt = s.lpt ∧
    (takeOwnStatusA c s).cfs = s.cfs ∧
    (takeOwnStatusA c s).act = s.act ∧
    (takeOwnStatusA c s).pins = s.pins ∧
    (takeOwnStatusA c s).freeCount = s.freeCount ∧
    (takeOwnStatusA c s).pending = s.pending := by
  unfold takeOwnStatusA
  repeat' (first | split | dsimp only)
  all_goals simp [*]

@[simp] theorem takeOwnStatusB_frame (c : StatusB) (s : State) :
    (takeOwnStatusB c s).lif = s.lif ∧
    (takeOwnStatusB c s).clu = s.clu ∧
    (takeOwnStatusB c s).shu = s.shu ∧
    (takeOwnStatusB c s).osl = s.osl ∧
    (takeOwnStatusB c s).stm = s.stm ∧
    (takeOwnStatusB c s).mtc = s.mtc ∧
    (takeOwnStatusB c s).fmn = s.fmn ∧
    (takeOwnStatusB c s).lpt = s.lpt ∧
    (takeOwnStatusB c s).cfs = s.cfs ∧
    (takeOwnStatusB c s).act = s.act ∧
    (takeOwnStatusB c s).pins = s.pins ∧
    (takeOwnStatusB c s).freeCount = s.freeCount ∧
    (takeOwnStatusB c s).pending = s.pending := by
  unfold takeOwnStatusB
  repeat' (first | split | dsimp only)
  all_goals simp [*]

@[simp] theorem writeBound_frame (b : Nat) (x : Span) (s : State) :
    (writeBound b x s).shu = s.shu ∧
    (writeBound b x s).osl = s.osl ∧
    (writeBound b x s).stm = s.stm ∧
    (writeBound b x s).mtc = s.mtc ∧
    (writeBound b x s).fmn = s.fmn ∧
    (writeBound b x s).lpt = s.lpt ∧
    (writeBound b x s).cfs = s.cfs ∧
    (writeBound b x s).act = s.act ∧
    (writeBound b x s).pins = s.pins ∧
    (writeBound b x s).freeCount = s.freeCount ∧
    (writeBound b x s).pending = s.pending := by
  unfold writeBound
  repeat' (first | split | dsimp only)
  all_goals simp [*]

@[simp] theorem grantClaim_frame (s : State) :
    (grantClaim s).ptb = s.ptb ∧
    (grantClaim s).shu = s.shu ∧
    (grantClaim s).osl = s.osl ∧
    (grantClaim s).stm = s.stm ∧
    (grantClaim s).fmn = s.fmn ∧
    (grantClaim s).lpt = s.lpt ∧
    (grantClaim s).cfs = s.cfs ∧
    (grantClaim s).pins = s.pins ∧
    (grantClaim s).freeCount = s.freeCount ∧
    (grantClaim s).pending = s.pending := by
  unfold grantClaim
  repeat' (first | split | dsimp only)
  all_goals simp [*]

@[simp] theorem demurClaim_frame (s : State) :
    (demurClaim s).ptb = s.ptb ∧
    (demurClaim s).shu = s.shu ∧
    (demurClaim s).osl = s.osl ∧
    (demurClaim s).stm = s.stm ∧
    (demurClaim s).mtc = s.mtc ∧
    (demurClaim s).fmn = s.fmn ∧
    (demurClaim s).lpt = s.lpt ∧
    (demurClaim s).cfs = s.cfs ∧
    (demurClaim s).pins = s.pins ∧
    (demurClaim s).freeCount = s.freeCount ∧
    (demurClaim s).pending = s.pending := by
  unfold demurClaim
  repeat' (first | split | dsimp only)
  all_goals simp [*]

@[simp] theorem applyVerdicts_frame (s : State) :
    (applyVerdicts s).ptb = s.ptb ∧
    (applyVerdicts s).shu = s.shu ∧
    (applyVerdicts s).osl = s.osl ∧
    (applyVerdicts s).stm = s.stm ∧
    (applyVerdicts s).fmn = s.fmn ∧
    (applyVerdicts s).lpt = s.lpt ∧
    (applyVerdicts s).cfs = s.cfs ∧
    (applyVerdicts s).pins = s.pins ∧
    (applyVerdicts s).freeCount = s.freeCount ∧
    (applyVerdicts s).pending = s.pending := by
  unfold applyVerdicts
  repeat' (first | split | dsimp only)
  all_goals simp [*]

@[simp] theorem takeOwnClaim_frame (c : ClaimContent) (s : State) :
    (takeOwnClaim c s).ptb = s.ptb ∧
    (takeOwnClaim c s).shu = s.shu ∧
    (takeOwnClaim c s).osl = s.osl ∧
    (takeOwnClaim c s).stm = s.stm ∧
    (takeOwnClaim c s).fmn = s.fmn ∧
    (takeOwnClaim c s).lpt = s.lpt ∧
    (takeOwnClaim c s).cfs = s.cfs ∧
    (takeOwnClaim c s).pins = s.pins ∧
    (takeOwnClaim c s).freeCount = s.freeCount ∧
    (takeOwnClaim c s).pending = s.pending := by
  unfold takeOwnClaim
  repeat' (first | split | dsimp only)
  all_goals simp [*]

@[simp] theorem recordVerdict_frame (b : Nat) (v : Verdict) (s : State) :
    (recordVerdict b v s).lif = s.lif ∧
    (recordVerdict b v s).ptb = s.ptb ∧
    (recordVerdict b v s).shu = s.shu ∧
    (recordVerdict b v s).osl = s.osl ∧
    (recordVerdict b v s).stm = s.stm ∧
    (recordVerdict b v s).mtc = s.mtc ∧
    (recordVerdict b v s).fmn = s.fmn ∧
    (recordVerdict b v s).lpt = s.lpt ∧
    (recordVerdict b v s).cfs = s.cfs ∧
    (recordVerdict b v s).act = s.act ∧
    (recordVerdict b v s).pins = s.pins ∧
    (recordVerdict b v s).freeCount = s.freeCount ∧
    (recordVerdict b v s).pending = s.pending := by
  unfold recordVerdict
  repeat' (first | split | dsimp only)
  all_goals simp [*]

@[simp] theorem takeVerdict_frame (b : Nat) (c : VerdictContent) (s : State) :
    (takeVerdict b c s).ptb = s.ptb ∧
    (takeVerdict b c s).shu = s.shu ∧
    (takeVerdict b c s).osl = s.osl ∧
    (takeVerdict b c s).stm = s.stm ∧
    (takeVerdict b c s).fmn = s.fmn ∧
    (takeVerdict b c s).lpt = s.lpt ∧
    (takeVerdict b c s).cfs = s.cfs ∧
    (takeVerdict b c s).pins = s.pins ∧
    (takeVerdict b c s).freeCount = s.freeCount ∧
    (takeVerdict b c s).pending = s.pending := by
  unfold takeVerdict
  repeat' (first | split | dsimp only)
  all_goals simp [*]

@[simp] theorem judgeClaim_frame (b : Nat) (c : ClaimContent) (s : State) :
    (judgeClaim b c s).shu = s.shu ∧
    (judgeClaim b c s).osl = s.osl ∧
    (judgeClaim b c s).stm = s.stm ∧
    (judgeClaim b c s).mtc = s.mtc ∧
    (judgeClaim b c s).fmn = s.fmn ∧
    (judgeClaim b c s).lpt = s.lpt ∧
    (judgeClaim b c s).cfs = s.cfs ∧
    (judgeClaim b c s).act = s.act ∧
    (judgeClaim b c s).pins = s.pins ∧
    (judgeClaim b c s).freeCount = s.freeCount ∧
    (judgeClaim b c s).pending = s.pending := by
  unfold judgeClaim
  repeat' (first | split | dsimp only)
  all_goals simp [*]

@[simp] theorem takeClaim_frame (b : Nat) (c : ClaimContent) (s : State) :
    (takeClaim b c s).shu = s.shu ∧
    (takeClaim b c s).osl = s.osl ∧
    (takeClaim b c s).stm = s.stm ∧
    (takeClaim b c s).mtc = s.mtc ∧
    (takeClaim b c s).fmn = s.fmn ∧
    (takeClaim b c s).lpt = s.lpt ∧
    (takeClaim b c s).cfs = s.cfs ∧
    (takeClaim b c s).act = s.act ∧
    (takeClaim b c s).pins = s.pins ∧
    (takeClaim b c s).freeCount = s.freeCount ∧
    (takeClaim b c s).pending = s.pending := by
  unfold takeClaim
  repeat' (first | split | dsimp only)
  all_goals simp [*]

@[simp] theorem claimLineOff_frame (s : State) :
    (claimLineOff s).ptb = s.ptb ∧
    (claimLineOff s).shu = s.shu ∧
    (claimLineOff s).osl = s.osl ∧
    (claimLineOff s).stm = s.stm ∧
    (claimLineOff s).fmn = s.fmn ∧
    (claimLineOff s).lpt = s.lpt ∧
    (claimLineOff s).cfs = s.cfs ∧
    (claimLineOff s).act = s.act ∧
    (claimLineOff s).pins = s.pins ∧
    (claimLineOff s).freeCount = s.freeCount ∧
    (claimLineOff s).pending = s.pending := by
  unfold claimLineOff
  repeat' (first | split | dsimp only)
  all_goals simp [*]

@[simp] theorem deliver_frame (b : Nat) (f : Frame) (s : State) :
    (deliver b f s).fmn = s.fmn ∧
    (deliver b f s).lpt = s.lpt ∧
    (deliver b f s).cfs = s.cfs ∧
    (deliver b f s).pins = s.pins ∧
    (deliver b f s).freeCount = s.freeCount ∧
    (deliver b f s).pending = s.pending := by
  unfold deliver
  repeat' (first | split | dsimp only)
  all_goals simp [*]

@[simp] theorem discardFrame_frame (s : State) :
    (discardFrame s).lif = s.lif ∧
    (discardFrame s).ptb = s.ptb ∧
    (discardFrame s).clu = s.clu ∧
    (discardFrame s).shu = s.shu ∧
    (discardFrame s).osl = s.osl ∧
    (discardFrame s).stm = s.stm ∧
    (discardFrame s).mtc = s.mtc ∧
    (discardFrame s).fmn = s.fmn ∧
    (discardFrame s).lpt = s.lpt ∧
    (discardFrame s).cfs = s.cfs ∧
    (discardFrame s).pins = s.pins ∧
    (discardFrame s).freeCount = s.freeCount ∧
    (discardFrame s).pending = s.pending := by
  unfold discardFrame
  repeat' (first | split | dsimp only)
  all_goals simp [*]

@[simp] theorem receiveFrame_frame (f : RawFrame) (s : State) :
    (receiveFrame f s).lpt = s.lpt ∧
    (receiveFrame f s).cfs = s.cfs ∧
    (receiveFrame f s).pins = s.pins ∧
    (receiveFrame f s).freeCount = s.freeCount ∧
    (receiveFrame f s).pending = s.pending := by
  unfold receiveFrame
  repeat' (first | split | dsimp only)
  all_goals simp [*]

@[simp] theorem ownStatusA_frame (c : StatusA) (s : State) :
    (ownStatusA c s).shu = s.shu ∧
    (ownStatusA c s).osl = s.osl ∧
    (ownStatusA c s).stm = s.stm ∧
    (ownStatusA c s).mtc = s.mtc ∧
    (ownStatusA c s).fmn = s.fmn ∧
    (ownStatusA c s).lpt = s.lpt ∧
    (ownStatusA c s).cfs = s.cfs ∧
    (ownStatusA c s).act = s.act ∧
    (ownStatusA c s).pins = s.pins ∧
    (ownStatusA c s).freeCount = s.freeCount ∧
    (ownStatusA c s).pending = s.pending := by
  unfold ownStatusA
  repeat' (first | split | dsimp only)
  all_goals simp [*]

@[simp] theorem takeOwnFrame_frame (f : Frame) (s : State) :
    (takeOwnFrame f s).fmn = s.fmn ∧
    (takeOwnFrame f s).lpt = s.lpt ∧
    (takeOwnFrame f s).cfs = s.cfs ∧
    (takeOwnFrame f s).pins = s.pins ∧
    (takeOwnFrame f s).freeCount = s.freeCount ∧
    (takeOwnFrame f s).pending = s.pending := by
  unfold takeOwnFrame
  repeat' (first | split | dsimp only)
  all_goals simp [*]

@[simp] theorem lineOn_frame (s : State) :
    (lineOn s).ptb = s.ptb ∧
    (lineOn s).shu = s.shu ∧
    (lineOn s).osl = s.osl ∧
    (lineOn s).stm = s.stm ∧
    (lineOn s).mtc = s.mtc ∧
    (lineOn s).lpt = s.lpt ∧
    (lineOn s).cfs = s.cfs ∧
    (lineOn s).act = s.act ∧
    (lineOn s).pins = s.pins ∧
    (lineOn s).freeCount = s.freeCount ∧
    (lineOn s).pending = s.pending := by
  unfold lineOn
  repeat' (first | split | dsimp only)
  all_goals simp [*]

@[simp] theorem goOff_frame (s : State) :
    (goOff s).ptb = s.ptb ∧
    (goOff s).shu = s.shu ∧
    (goOff s).osl = s.osl ∧
    (goOff s).stm = s.stm ∧
    (goOff s).lpt = s.lpt ∧
    (goOff s).cfs = s.cfs ∧
    (goOff s).act = s.act ∧
    (goOff s).pins = s.pins ∧
    (goOff s).freeCount = s.freeCount ∧
    (goOff s).pending = s.pending := by
  unfold goOff
  repeat' (first | split | dsimp only)
  all_goals simp [*]

@[simp] theorem failAttempt_frame (s : State) :
    (failAttempt s).ptb = s.ptb ∧
    (failAttempt s).shu = s.shu ∧
    (failAttempt s).osl = s.osl ∧
    (failAttempt s).stm = s.stm ∧
    (failAttempt s).lpt = s.lpt ∧
    (failAttempt s).cfs = s.cfs ∧
    (failAttempt s).pins = s.pins ∧
    (failAttempt s).freeCount = s.freeCount ∧
    (failAttempt s).pending = s.pending := by
  unfold failAttempt
  repeat' (first | split | dsimp only)
  all_goals simp [*]

@[simp] theorem startStatuses_frame (s : State) :
    (startStatuses s).ptb = s.ptb ∧
    (startStatuses s).clu = s.clu ∧
    (startStatuses s).shu = s.shu ∧
    (startStatuses s).osl = s.osl ∧
    (startStatuses s).stm = s.stm ∧
    (startStatuses s).mtc = s.mtc ∧
    (startStatuses s).fmn = s.fmn ∧
    (startStatuses s).lpt = s.lpt ∧
    (startStatuses s).cfs = s.cfs ∧
    (startStatuses s).act = s.act ∧
    (startStatuses s).pins = s.pins ∧
    (startStatuses s).freeCount = s.freeCount ∧
    (startStatuses s).pending = s.pending := by
  unfold startStatuses
  repeat' (first | split | dsimp only)
  all_goals simp [*]

@[simp] theorem countRead_frame (c : Channel) (s : State) :
    (countRead c s).lif = s.lif ∧
    (countRead c s).ptb = s.ptb ∧
    (countRead c s).clu = s.clu ∧
    (countRead c s).shu = s.shu ∧
    (countRead c s).osl = s.osl ∧
    (countRead c s).stm = s.stm ∧
    (countRead c s).mtc = s.mtc ∧
    (countRead c s).fmn = s.fmn ∧
    (countRead c s).lpt = s.lpt ∧
    (countRead c s).cfs = s.cfs ∧
    (countRead c s).pins = s.pins ∧
    (countRead c s).freeCount = s.freeCount ∧
    (countRead c s).pending = s.pending := by
  unfold countRead
  repeat' (first | split | dsimp only)
  all_goals simp [*]

@[simp] theorem reportIf_frame (p : Bool) (c : Cause) (s : State) :
    (reportIf p c s).ptb = s.ptb ∧
    (reportIf p c s).shu = s.shu ∧
    (reportIf p c s).stm = s.stm ∧
    (reportIf p c s).lpt = s.lpt ∧
    (reportIf p c s).cfs = s.cfs ∧
    (reportIf p c s).pins = s.pins ∧
    (reportIf p c s).freeCount = s.freeCount ∧
    (reportIf p c s).pending = s.pending := by
  unfold reportIf
  repeat' (first | split | dsimp only)
  all_goals simp [*]

@[simp] theorem readEncoders_frame (l r : EncoderRead) (s : State) :
    (readEncoders l r s).ptb = s.ptb ∧
    (readEncoders l r s).shu = s.shu ∧
    (readEncoders l r s).stm = s.stm ∧
    (readEncoders l r s).lpt = s.lpt ∧
    (readEncoders l r s).cfs = s.cfs ∧
    (readEncoders l r s).pins = s.pins ∧
    (readEncoders l r s).freeCount = s.freeCount ∧
    (readEncoders l r s).pending = s.pending := by
  unfold readEncoders
  repeat' (first | split | dsimp only)
  all_goals simp [*]

@[simp] theorem overtravelTest_frame (s : State) :
    (overtravelTest s).ptb = s.ptb ∧
    (overtravelTest s).shu = s.shu ∧
    (overtravelTest s).stm = s.stm ∧
    (overtravelTest s).lpt = s.lpt ∧
    (overtravelTest s).cfs = s.cfs ∧
    (overtravelTest s).pins = s.pins ∧
    (overtravelTest s).freeCount = s.freeCount ∧
    (overtravelTest s).pending = s.pending := by
  unfold overtravelTest
  repeat' (first | split | dsimp only)
  all_goals simp [*]

@[simp] theorem skewTripTest_frame (s : State) :
    (skewTripTest s).ptb = s.ptb ∧
    (skewTripTest s).shu = s.shu ∧
    (skewTripTest s).stm = s.stm ∧
    (skewTripTest s).lpt = s.lpt ∧
    (skewTripTest s).cfs = s.cfs ∧
    (skewTripTest s).pins = s.pins ∧
    (skewTripTest s).freeCount = s.freeCount ∧
    (skewTripTest s).pending = s.pending := by
  unfold skewTripTest
  repeat' (first | split | dsimp only)
  all_goals simp [*]

@[simp] theorem advanceSetpoint_frame (s : State) :
    (advanceSetpoint s).ptb = s.ptb ∧
    (advanceSetpoint s).shu = s.shu ∧
    (advanceSetpoint s).osl = s.osl ∧
    (advanceSetpoint s).stm = s.stm ∧
    (advanceSetpoint s).fmn = s.fmn ∧
    (advanceSetpoint s).lpt = s.lpt ∧
    (advanceSetpoint s).cfs = s.cfs ∧
    (advanceSetpoint s).act = s.act ∧
    (advanceSetpoint s).pins = s.pins ∧
    (advanceSetpoint s).freeCount = s.freeCount ∧
    (advanceSetpoint s).pending = s.pending := by
  unfold advanceSetpoint
  repeat' (first | split | dsimp only)
  all_goals simp [*]

@[simp] theorem computeDrives_frame (s : State) :
    (computeDrives s).lif = s.lif ∧
    (computeDrives s).ptb = s.ptb ∧
    (computeDrives s).clu = s.clu ∧
    (computeDrives s).shu = s.shu ∧
    (computeDrives s).osl = s.osl ∧
    (computeDrives s).stm = s.stm ∧
    (computeDrives s).fmn = s.fmn ∧
    (computeDrives s).lpt = s.lpt ∧
    (computeDrives s).cfs = s.cfs ∧
    (computeDrives s).act = s.act ∧
    (computeDrives s).pins = s.pins ∧
    (computeDrives s).freeCount = s.freeCount ∧
    (computeDrives s).pending = s.pending := by
  unfold computeDrives
  repeat' (first | split | dsimp only)
  all_goals simp [*]

@[simp] theorem updateStalls_frame (s : State) :
    (updateStalls s).ptb = s.ptb ∧
    (updateStalls s).shu = s.shu ∧
    (updateStalls s).stm = s.stm ∧
    (updateStalls s).lpt = s.lpt ∧
    (updateStalls s).cfs = s.cfs ∧
    (updateStalls s).pins = s.pins ∧
    (updateStalls s).freeCount = s.freeCount ∧
    (updateStalls s).pending = s.pending := by
  unfold updateStalls
  repeat' (first | split | dsimp only)
  all_goals simp [*]

@[simp] theorem settleStep_frame (s : State) :
    (settleStep s).ptb = s.ptb ∧
    (settleStep s).shu = s.shu ∧
    (settleStep s).osl = s.osl ∧
    (settleStep s).stm = s.stm ∧
    (settleStep s).fmn = s.fmn ∧
    (settleStep s).lpt = s.lpt ∧
    (settleStep s).cfs = s.cfs ∧
    (settleStep s).pins = s.pins ∧
    (settleStep s).freeCount = s.freeCount ∧
    (settleStep s).pending = s.pending := by
  unfold settleStep
  repeat' (first | split | dsimp only)
  all_goals simp [*]

@[simp] theorem settleAndTrim_frame (settling : Bool) (s : State) :
    (settleAndTrim settling s).ptb = s.ptb ∧
    (settleAndTrim settling s).shu = s.shu ∧
    (settleAndTrim settling s).osl = s.osl ∧
    (settleAndTrim settling s).stm = s.stm ∧
    (settleAndTrim settling s).fmn = s.fmn ∧
    (settleAndTrim settling s).lpt = s.lpt ∧
    (settleAndTrim settling s).cfs = s.cfs ∧
    (settleAndTrim settling s).pins = s.pins ∧
    (settleAndTrim settling s).freeCount = s.freeCount ∧
    (settleAndTrim settling s).pending = s.pending := by
  unfold settleAndTrim
  repeat' (first | split | dsimp only)
  all_goals simp [*]

@[simp] theorem handOver_frame (s : State) :
    (handOver s).lif = s.lif ∧
    (handOver s).ptb = s.ptb ∧
    (handOver s).clu = s.clu ∧
    (handOver s).shu = s.shu ∧
    (handOver s).osl = s.osl ∧
    (handOver s).stm = s.stm ∧
    (handOver s).mtc = s.mtc ∧
    (handOver s).fmn = s.fmn ∧
    (handOver s).lpt = s.lpt ∧
    (handOver s).cfs = s.cfs ∧
    (handOver s).pins = s.pins ∧
    (handOver s).freeCount = s.freeCount ∧
    (handOver s).pending = s.pending := by
  unfold handOver
  repeat' (first | split | dsimp only)
  all_goals simp [*]

@[simp] theorem leaveFaultStop_frame (s : State) :
    (leaveFaultStop s).ptb = s.ptb ∧
    (leaveFaultStop s).shu = s.shu ∧
    (leaveFaultStop s).osl = s.osl ∧
    (leaveFaultStop s).stm = s.stm ∧
    (leaveFaultStop s).fmn = s.fmn ∧
    (leaveFaultStop s).lpt = s.lpt ∧
    (leaveFaultStop s).cfs = s.cfs ∧
    (leaveFaultStop s).act = s.act ∧
    (leaveFaultStop s).pins = s.pins ∧
    (leaveFaultStop s).freeCount = s.freeCount ∧
    (leaveFaultStop s).pending = s.pending := by
  unfold leaveFaultStop
  repeat' (first | split | dsimp only)
  all_goals simp [*]

@[simp] theorem awaitRest_frame (s : State) :
    (awaitRest s).lif = s.lif ∧
    (awaitRest s).ptb = s.ptb ∧
    (awaitRest s).clu = s.clu ∧
    (awaitRest s).shu = s.shu ∧
    (awaitRest s).stm = s.stm ∧
    (awaitRest s).mtc = s.mtc ∧
    (awaitRest s).fmn = s.fmn ∧
    (awaitRest s).lpt = s.lpt ∧
    (awaitRest s).cfs = s.cfs ∧
    (awaitRest s).act = s.act ∧
    (awaitRest s).pins = s.pins ∧
    (awaitRest s).freeCount = s.freeCount ∧
    (awaitRest s).pending = s.pending := by
  unfold awaitRest
  repeat' (first | split | dsimp only)
  all_goals simp [*]

@[simp] theorem firstStroke_frame (before : Option Nat) (s : State) :
    (firstStroke before s).ptb = s.ptb ∧
    (firstStroke before s).clu = s.clu ∧
    (firstStroke before s).shu = s.shu ∧
    (firstStroke before s).osl = s.osl ∧
    (firstStroke before s).stm = s.stm ∧
    (firstStroke before s).fmn = s.fmn ∧
    (firstStroke before s).lpt = s.lpt ∧
    (firstStroke before s).cfs = s.cfs ∧
    (firstStroke before s).act = s.act ∧
    (firstStroke before s).pins = s.pins ∧
    (firstStroke before s).freeCount = s.freeCount ∧
    (firstStroke before s).pending = s.pending := by
  unfold firstStroke
  repeat' (first | split | dsimp only)
  all_goals simp [*]

@[simp] theorem openingTest_frame (s : State) :
    (openingTest s).ptb = s.ptb ∧
    (openingTest s).shu = s.shu ∧
    (openingTest s).osl = s.osl ∧
    (openingTest s).stm = s.stm ∧
    (openingTest s).mtc = s.mtc ∧
    (openingTest s).fmn = s.fmn ∧
    (openingTest s).lpt = s.lpt ∧
    (openingTest s).cfs = s.cfs ∧
    (openingTest s).act = s.act ∧
    (openingTest s).pins = s.pins ∧
    (openingTest s).freeCount = s.freeCount ∧
    (openingTest s).pending = s.pending := by
  unfold openingTest
  repeat' (first | split | dsimp only)
  all_goals simp [*]

@[simp] theorem sampleTests_frame (s : State) :
    (sampleTests s).ptb = s.ptb ∧
    (sampleTests s).shu = s.shu ∧
    (sampleTests s).stm = s.stm ∧
    (sampleTests s).lpt = s.lpt ∧
    (sampleTests s).cfs = s.cfs ∧
    (sampleTests s).pins = s.pins ∧
    (sampleTests s).freeCount = s.freeCount ∧
    (sampleTests s).pending = s.pending := by
  unfold sampleTests
  repeat' (first | split | dsimp only)
  all_goals simp [*]

@[simp] theorem sampleDrives_frame (s : State) :
    (sampleDrives s).ptb = s.ptb ∧
    (sampleDrives s).shu = s.shu ∧
    (sampleDrives s).stm = s.stm ∧
    (sampleDrives s).lpt = s.lpt ∧
    (sampleDrives s).cfs = s.cfs ∧
    (sampleDrives s).pins = s.pins ∧
    (sampleDrives s).freeCount = s.freeCount ∧
    (sampleDrives s).pending = s.pending := by
  unfold sampleDrives
  repeat' (first | split | dsimp only)
  all_goals simp [*]

@[simp] theorem sampleSteps_frame (s : State) :
    (sampleSteps s).ptb = s.ptb ∧
    (sampleSteps s).shu = s.shu ∧
    (sampleSteps s).stm = s.stm ∧
    (sampleSteps s).lpt = s.lpt ∧
    (sampleSteps s).cfs = s.cfs ∧
    (sampleSteps s).pins = s.pins ∧
    (sampleSteps s).freeCount = s.freeCount ∧
    (sampleSteps s).pending = s.pending := by
  unfold sampleSteps
  repeat' (first | split | dsimp only)
  all_goals simp [*]

@[simp] theorem sample_frame (l r : EncoderRead) (s : State) :
    (sample l r s).ptb = s.ptb ∧
    (sample l r s).shu = s.shu ∧
    (sample l r s).stm = s.stm ∧
    (sample l r s).lpt = s.lpt ∧
    (sample l r s).cfs = s.cfs ∧
    (sample l r s).pins = s.pins ∧
    (sample l r s).freeCount = s.freeCount ∧
    (sample l r s).pending = s.pending := by
  unfold sample
  repeat' (first | split | dsimp only)
  all_goals simp [*]

@[simp] theorem countSample_frame (x : Sample) (s : State) :
    (countSample x s).lif = s.lif ∧
    (countSample x s).ptb = s.ptb ∧
    (countSample x s).clu = s.clu ∧
    (countSample x s).shu = s.shu ∧
    (countSample x s).osl = s.osl ∧
    (countSample x s).stm = s.stm ∧
    (countSample x s).mtc = s.mtc ∧
    (countSample x s).fmn = s.fmn ∧
    (countSample x s).lpt = s.lpt ∧
    (countSample x s).cfs = s.cfs ∧
    (countSample x s).pins = s.pins ∧
    (countSample x s).freeCount = s.freeCount ∧
    (countSample x s).pending = s.pending := by
  unfold countSample
  repeat' (first | split | dsimp only)
  all_goals simp [*]

@[simp] theorem writeRings_frame (u d : BitVec 12) (s : State) :
    (writeRings u d s).lif = s.lif ∧
    (writeRings u d s).ptb = s.ptb ∧
    (writeRings u d s).clu = s.clu ∧
    (writeRings u d s).shu = s.shu ∧
    (writeRings u d s).osl = s.osl ∧
    (writeRings u d s).mtc = s.mtc ∧
    (writeRings u d s).fmn = s.fmn ∧
    (writeRings u d s).lpt = s.lpt ∧
    (writeRings u d s).cfs = s.cfs ∧
    (writeRings u d s).pins = s.pins ∧
    (writeRings u d s).freeCount = s.freeCount ∧
    (writeRings u d s).pending = s.pending := by
  unfold writeRings
  repeat' (first | split | dsimp only)
  all_goals simp [*]

@[simp] theorem surgeStep_frame (s : State) :
    (surgeStep s).ptb = s.ptb ∧
    (surgeStep s).shu = s.shu ∧
    (surgeStep s).fmn = s.fmn ∧
    (surgeStep s).lpt = s.lpt ∧
    (surgeStep s).cfs = s.cfs ∧
    (surgeStep s).pins = s.pins ∧
    (surgeStep s).freeCount = s.freeCount ∧
    (surgeStep s).pending = s.pending := by
  unfold surgeStep
  repeat' (first | split | dsimp only)
  all_goals simp [*]

@[simp] theorem changeTide_frame (t : Tidal) (s : State) :
    (changeTide t s).ptb = s.ptb ∧
    (changeTide t s).shu = s.shu ∧
    (changeTide t s).fmn = s.fmn ∧
    (changeTide t s).lpt = s.lpt ∧
    (changeTide t s).cfs = s.cfs ∧
    (changeTide t s).pins = s.pins ∧
    (changeTide t s).freeCount = s.freeCount ∧
    (changeTide t s).pending = s.pending := by
  unfold changeTide
  repeat' (first | split | dsimp only)
  all_goals simp [*]

@[simp] theorem tidalRules_frame (head : Int) (s : State) :
    (tidalRules head s).ptb = s.ptb ∧
    (tidalRules head s).shu = s.shu ∧
    (tidalRules head s).fmn = s.fmn ∧
    (tidalRules head s).lpt = s.lpt ∧
    (tidalRules head s).cfs = s.cfs ∧
    (tidalRules head s).pins = s.pins ∧
    (tidalRules head s).freeCount = s.freeCount ∧
    (tidalRules head s).pending = s.pending := by
  unfold tidalRules
  repeat' (first | split | dsimp only)
  all_goals simp [*]

@[simp] theorem tidalStep_frame (s : State) :
    (tidalStep s).ptb = s.ptb ∧
    (tidalStep s).shu = s.shu ∧
    (tidalStep s).fmn = s.fmn ∧
    (tidalStep s).lpt = s.lpt ∧
    (tidalStep s).cfs = s.cfs ∧
    (tidalStep s).pins = s.pins ∧
    (tidalStep s).freeCount = s.freeCount ∧
    (tidalStep s).pending = s.pending := by
  unfold tidalStep
  repeat' (first | split | dsimp only)
  all_goals simp [*]

@[simp] theorem validityStep_frame (before : Stm) (s : State) :
    (validityStep before s).lif = s.lif ∧
    (validityStep before s).ptb = s.ptb ∧
    (validityStep before s).clu = s.clu ∧
    (validityStep before s).shu = s.shu ∧
    (validityStep before s).osl = s.osl ∧
    (validityStep before s).mtc = s.mtc ∧
    (validityStep before s).fmn = s.fmn ∧
    (validityStep before s).lpt = s.lpt ∧
    (validityStep before s).cfs = s.cfs ∧
    (validityStep before s).pins = s.pins ∧
    (validityStep before s).freeCount = s.freeCount ∧
    (validityStep before s).pending = s.pending := by
  unfold validityStep
  repeat' (first | split | dsimp only)
  all_goals simp [*]

@[simp] theorem stageSample_frame (u d : BitVec 12) (s : State) :
    (stageSample u d s).ptb = s.ptb ∧
    (stageSample u d s).shu = s.shu ∧
    (stageSample u d s).fmn = s.fmn ∧
    (stageSample u d s).lpt = s.lpt ∧
    (stageSample u d s).cfs = s.cfs ∧
    (stageSample u d s).pins = s.pins ∧
    (stageSample u d s).freeCount = s.freeCount ∧
    (stageSample u d s).pending = s.pending := by
  unfold stageSample
  repeat' (first | split | dsimp only)
  all_goals simp [*]

@[simp] theorem startConditions_frame (s : State) :
    (startConditions s).ptb = s.ptb ∧
    (startConditions s).shu = s.shu ∧
    (startConditions s).stm = s.stm ∧
    (startConditions s).lpt = s.lpt ∧
    (startConditions s).cfs = s.cfs ∧
    (startConditions s).act = s.act ∧
    (startConditions s).pins = s.pins ∧
    (startConditions s).freeCount = s.freeCount ∧
    (startConditions s).pending = s.pending := by
  unfold startConditions
  repeat' (first | split | dsimp only)
  all_goals simp [*]

@[simp] theorem startStage_frame (s : State) :
    (startStage s).ptb = s.ptb ∧
    (startStage s).shu = s.shu ∧
    (startStage s).fmn = s.fmn ∧
    (startStage s).lpt = s.lpt ∧
    (startStage s).cfs = s.cfs ∧
    (startStage s).pins = s.pins ∧
    (startStage s).freeCount = s.freeCount ∧
    (startStage s).pending = s.pending := by
  unfold startStage
  repeat' (first | split | dsimp only)
  all_goals simp [*]

@[simp] theorem answerCommand_frame (code : Byte) (a : Answer) (clamped : Bool) (s : State) :
    (answerCommand code a clamped s).lif = s.lif ∧
    (answerCommand code a clamped s).ptb = s.ptb ∧
    (answerCommand code a clamped s).clu = s.clu ∧
    (answerCommand code a clamped s).shu = s.shu ∧
    (answerCommand code a clamped s).osl = s.osl ∧
    (answerCommand code a clamped s).stm = s.stm ∧
    (answerCommand code a clamped s).mtc = s.mtc ∧
    (answerCommand code a clamped s).fmn = s.fmn ∧
    (answerCommand code a clamped s).cfs = s.cfs ∧
    (answerCommand code a clamped s).pins = s.pins ∧
    (answerCommand code a clamped s).freeCount = s.freeCount ∧
    (answerCommand code a clamped s).pending = s.pending := by
  unfold answerCommand
  repeat' (first | split | dsimp only)
  all_goals simp [*]

@[simp] theorem latchCommand_frame (code b : Byte) (s : State) :
    (latchCommand code b s).lif = s.lif ∧
    (latchCommand code b s).ptb = s.ptb ∧
    (latchCommand code b s).clu = s.clu ∧
    (latchCommand code b s).shu = s.shu ∧
    (latchCommand code b s).osl = s.osl ∧
    (latchCommand code b s).stm = s.stm ∧
    (latchCommand code b s).mtc = s.mtc ∧
    (latchCommand code b s).fmn = s.fmn ∧
    (latchCommand code b s).cfs = s.cfs ∧
    (latchCommand code b s).act = s.act ∧
    (latchCommand code b s).pins = s.pins ∧
    (latchCommand code b s).freeCount = s.freeCount ∧
    (latchCommand code b s).pending = s.pending := by
  unfold latchCommand
  repeat' (first | split | dsimp only)
  all_goals simp [*]

@[simp] theorem beginTrim_frame (t : Trim) (s : State) :
    (beginTrim t s).ptb = s.ptb ∧
    (beginTrim t s).clu = s.clu ∧
    (beginTrim t s).shu = s.shu ∧
    (beginTrim t s).osl = s.osl ∧
    (beginTrim t s).stm = s.stm ∧
    (beginTrim t s).fmn = s.fmn ∧
    (beginTrim t s).lpt = s.lpt ∧
    (beginTrim t s).cfs = s.cfs ∧
    (beginTrim t s).act = s.act ∧
    (beginTrim t s).pins = s.pins ∧
    (beginTrim t s).freeCount = s.freeCount ∧
    (beginTrim t s).pending = s.pending := by
  unfold beginTrim
  repeat' (first | split | dsimp only)
  all_goals simp [*]

@[simp] theorem enterCommissioning_frame (b : Byte) (s : State) :
    (enterCommissioning b s).ptb = s.ptb ∧
    (enterCommissioning b s).shu = s.shu ∧
    (enterCommissioning b s).stm = s.stm ∧
    (enterCommissioning b s).fmn = s.fmn ∧
    (enterCommissioning b s).lpt = s.lpt ∧
    (enterCommissioning b s).act = s.act ∧
    (enterCommissioning b s).pins = s.pins ∧
    (enterCommissioning b s).freeCount = s.freeCount ∧
    (enterCommissioning b s).pending = s.pending := by
  unfold enterCommissioning
  repeat' (first | split | dsimp only)
  all_goals simp [*]

@[simp] theorem completeStore_frame (s : State) :
    (completeStore s).lif = s.lif ∧
    (completeStore s).ptb = s.ptb ∧
    (completeStore s).clu = s.clu ∧
    (completeStore s).shu = s.shu ∧
    (completeStore s).osl = s.osl ∧
    (completeStore s).stm = s.stm ∧
    (completeStore s).mtc = s.mtc ∧
    (completeStore s).fmn = s.fmn ∧
    (completeStore s).pins = s.pins ∧
    (completeStore s).freeCount = s.freeCount ∧
    (completeStore s).pending = s.pending := by
  unfold completeStore
  repeat' (first | split | dsimp only)
  all_goals simp [*]

@[simp] theorem leaveCommissioning_frame (s : State) :
    (leaveCommissioning s).ptb = s.ptb ∧
    (leaveCommissioning s).shu = s.shu ∧
    (leaveCommissioning s).stm = s.stm ∧
    (leaveCommissioning s).fmn = s.fmn ∧
    (leaveCommissioning s).lpt = s.lpt ∧
    (leaveCommissioning s).act = s.act ∧
    (leaveCommissioning s).pins = s.pins ∧
    (leaveCommissioning s).freeCount = s.freeCount ∧
    (leaveCommissioning s).pending = s.pending := by
  unfold leaveCommissioning
  repeat' (first | split | dsimp only)
  all_goals simp [*]

end Sys2Proof.Machine
end

