-- ==== Sys2Proof/Laws/Fields.lean ====
section
/-! SUPPORT. What each shared operation leaves unchanged inside a block that it does write: one lemma per
operation, over the fields that other blocks read. -/

namespace Sys2Proof.Machine

@[simp] theorem setMotion_mtc (m : Mtc) (s : State) : (setMotion m s).mtc = m := by
  unfold setMotion statusOnLeavingRest; split <;> simp

@[simp] theorem Mtc.enter_left (m : Mtc) (a : Motion) (b : Option Phase) : (m.enter a b).left = m.left := rfl

@[simp] theorem Mtc.enter_right (m : Mtc) (a : Motion) (b : Option Phase) : (m.enter a b).right = m.right := rfl

@[simp] theorem Mtc.faultStop_left (m : Mtc) : m.faultStop.left = m.left := rfl

@[simp] theorem Mtc.faultStop_right (m : Mtc) : m.faultStop.right = m.right := rfl

@[simp] theorem Mtc.startSequence_left (w : Words) (m : Mtc) : (m.startSequence w).left = m.left := by
  unfold Mtc.startSequence; split <;> rfl

@[simp] theorem Mtc.startSequence_right (w : Words) (m : Mtc) : (m.startSequence w).right = m.right := by
  unfold Mtc.startSequence; split <;> rfl

@[simp] theorem Mtc.closureFromSetpoint_left (w : Words) (m : Mtc) : (m.closureFromSetpoint w).left = m.left := rfl

@[simp] theorem Mtc.closureFromSetpoint_right (w : Words) (m : Mtc) : (m.closureFromSetpoint w).right = m.right := rfl

@[simp] theorem State.updateEntry_fields (s : State) (b : Nat) (f : Entry → Entry) :
    (s.updateEntry b f).ptb.listen = s.ptb.listen := by
  unfold State.updateEntry
  repeat' (first | split | dsimp only)
  all_goals simp [*]

@[simp] theorem queueSurge_fields (epoch : Nat) (s : State) :
    (queueSurge epoch s).lif.line = s.lif.line ∧
    (queueSurge epoch s).lif.failures = s.lif.failures ∧
    (queueSurge epoch s).lif.offTimer = s.lif.offTimer ∧
    (queueSurge epoch s).lif.sinceStatusA = s.lif.sinceStatusA ∧
    (queueSurge epoch s).lif.sinceStatusB = s.lif.sinceStatusB ∧
    (queueSurge epoch s).lif.repeatTimer = s.lif.repeatTimer ∧
    (queueSurge epoch s).lif.orderSlot = s.lif.orderSlot := by
  unfold queueSurge
  repeat' (first | split | dsimp only)
  all_goals simp [*]

@[simp] theorem queueVerdict_fields (v : VerdictContent) (s : State) :
    (queueVerdict v s).lif.line = s.lif.line ∧
    (queueVerdict v s).lif.failures = s.lif.failures ∧
    (queueVerdict v s).lif.offTimer = s.lif.offTimer ∧
    (queueVerdict v s).lif.sinceStatusA = s.lif.sinceStatusA ∧
    (queueVerdict v s).lif.sinceStatusB = s.lif.sinceStatusB ∧
    (queueVerdict v s).lif.repeatTimer = s.lif.repeatTimer ∧
    (queueVerdict v s).lif.surgeSlot = s.lif.surgeSlot ∧
    (queueVerdict v s).lif.orderSlot = s.lif.orderSlot := by
  unfold queueVerdict
  repeat' (first | split | dsimp only)
  all_goals simp [*]

@[simp] theorem queueClaim_fields (c : ClaimContent) (s : State) :
    (queueClaim c s).lif.line = s.lif.line ∧
    (queueClaim c s).lif.failures = s.lif.failures ∧
    (queueClaim c s).lif.offTimer = s.lif.offTimer ∧
    (queueClaim c s).lif.sinceStatusA = s.lif.sinceStatusA ∧
    (queueClaim c s).lif.sinceStatusB = s.lif.sinceStatusB ∧
    (queueClaim c s).lif.repeatTimer = s.lif.repeatTimer ∧
    (queueClaim c s).lif.surgeSlot = s.lif.surgeSlot ∧
    (queueClaim c s).lif.orderSlot = s.lif.orderSlot := by
  unfold queueClaim
  repeat' (first | split | dsimp only)
  all_goals simp [*]

@[simp] theorem withdrawClaim_fields (s : State) :
    (withdrawClaim s).lif.line = s.lif.line ∧
    (withdrawClaim s).lif.failures = s.lif.failures ∧
    (withdrawClaim s).lif.offTimer = s.lif.offTimer ∧
    (withdrawClaim s).lif.sinceStatusA = s.lif.sinceStatusA ∧
    (withdrawClaim s).lif.sinceStatusB = s.lif.sinceStatusB ∧
    (withdrawClaim s).lif.repeatTimer = s.lif.repeatTimer ∧
    (withdrawClaim s).lif.surgeSlot = s.lif.surgeSlot ∧
    (withdrawClaim s).lif.orderSlot = s.lif.orderSlot := by
  unfold withdrawClaim
  repeat' (first | split | dsimp only)
  all_goals simp [*]

@[simp] theorem queueOrder_fields (c : OrderContent) (s : State) :
    (queueOrder c s).lif.line = s.lif.line ∧
    (queueOrder c s).lif.failures = s.lif.failures ∧
    (queueOrder c s).lif.offTimer = s.lif.offTimer ∧
    (queueOrder c s).lif.sinceStatusA = s.lif.sinceStatusA ∧
    (queueOrder c s).lif.sinceStatusB = s.lif.sinceStatusB ∧
    (queueOrder c s).lif.repeatTimer = s.lif.repeatTimer ∧
    (queueOrder c s).lif.surgeSlot = s.lif.surgeSlot := by
  unfold queueOrder
  repeat' (first | split | dsimp only)
  all_goals simp [*]

@[simp] theorem dueStatusA_fields (s : State) :
    (dueStatusA s).lif.line = s.lif.line ∧
    (dueStatusA s).lif.failures = s.lif.failures ∧
    (dueStatusA s).lif.offTimer = s.lif.offTimer ∧
    (dueStatusA s).lif.sinceStatusA = s.lif.sinceStatusA ∧
    (dueStatusA s).lif.sinceStatusB = s.lif.sinceStatusB ∧
    (dueStatusA s).lif.repeatTimer = s.lif.repeatTimer ∧
    (dueStatusA s).lif.surgeSlot = s.lif.surgeSlot ∧
    (dueStatusA s).lif.orderSlot = s.lif.orderSlot := by
  unfold dueStatusA
  repeat' (first | split | dsimp only)
  all_goals simp [*]

@[simp] theorem dueStatusB_fields (s : State) :
    (dueStatusB s).lif.line = s.lif.line ∧
    (dueStatusB s).lif.failures = s.lif.failures ∧
    (dueStatusB s).lif.offTimer = s.lif.offTimer ∧
    (dueStatusB s).lif.sinceStatusA = s.lif.sinceStatusA ∧
    (dueStatusB s).lif.sinceStatusB = s.lif.sinceStatusB ∧
    (dueStatusB s).lif.repeatTimer = s.lif.repeatTimer ∧
    (dueStatusB s).lif.surgeSlot = s.lif.surgeSlot ∧
    (dueStatusB s).lif.orderSlot = s.lif.orderSlot := by
  unfold dueStatusB
  repeat' (first | split | dsimp only)
  all_goals simp [*]

@[simp] theorem makeClaim_fields (p t : Nat) (s : State) :
    (makeClaim p t s).lif.line = s.lif.line ∧
    (makeClaim p t s).lif.failures = s.lif.failures ∧
    (makeClaim p t s).lif.offTimer = s.lif.offTimer ∧
    (makeClaim p t s).lif.sinceStatusA = s.lif.sinceStatusA ∧
    (makeClaim p t s).lif.sinceStatusB = s.lif.sinceStatusB ∧
    (makeClaim p t s).lif.repeatTimer = s.lif.repeatTimer ∧
    (makeClaim p t s).lif.surgeSlot = s.lif.surgeSlot ∧
    (makeClaim p t s).lif.orderSlot = s.lif.orderSlot ∧
    (makeClaim p t s).clu.freshTaken = s.clu.freshTaken := by
  unfold makeClaim
  repeat' (first | split | dsimp only)
  all_goals simp [*]

@[simp] theorem testClaim_fields (s : State) :
    (testClaim s).lif.line = s.lif.line ∧
    (testClaim s).lif.failures = s.lif.failures ∧
    (testClaim s).lif.offTimer = s.lif.offTimer ∧
    (testClaim s).lif.sinceStatusA = s.lif.sinceStatusA ∧
    (testClaim s).lif.sinceStatusB = s.lif.sinceStatusB ∧
    (testClaim s).lif.repeatTimer = s.lif.repeatTimer ∧
    (testClaim s).lif.surgeSlot = s.lif.surgeSlot ∧
    (testClaim s).lif.orderSlot = s.lif.orderSlot ∧
    (testClaim s).clu.freshTaken = s.clu.freshTaken := by
  unfold testClaim
  repeat' (first | split | dsimp only)
  all_goals simp [*]

@[simp] theorem endClosureRow_fields (s : State) :
    (endClosureRow s).clu.number = s.clu.number ∧
    (endClosureRow s).clu.freshTaken = s.clu.freshTaken := by
  unfold endClosureRow
  repeat' (first | split | dsimp only)
  all_goals simp [*]

@[simp] theorem resolveClaim_fields (o : ClaimOutcome) (s : State) :
    (resolveClaim o s).lif.line = s.lif.line ∧
    (resolveClaim o s).lif.failures = s.lif.failures ∧
    (resolveClaim o s).lif.offTimer = s.lif.offTimer ∧
    (resolveClaim o s).lif.sinceStatusA = s.lif.sinceStatusA ∧
    (resolveClaim o s).lif.sinceStatusB = s.lif.sinceStatusB ∧
    (resolveClaim o s).lif.repeatTimer = s.lif.repeatTimer ∧
    (resolveClaim o s).lif.surgeSlot = s.lif.surgeSlot ∧
    (resolveClaim o s).lif.orderSlot = s.lif.orderSlot ∧
    (resolveClaim o s).clu.number = s.clu.number ∧
    (resolveClaim o s).clu.freshTaken = s.clu.freshTaken := by
  unfold resolveClaim
  repeat' (first | split | dsimp only)
  all_goals simp [*]

@[simp] theorem startBackoff_fields (s : State) :
    (startBackoff s).clu.number = s.clu.number ∧
    (startBackoff s).clu.freshTaken = s.clu.freshTaken := by
  unfold startBackoff
  repeat' (first | split | dsimp only)
  all_goals simp [*]

@[simp] theorem abandonClaim_fields (s : State) :
    (abandonClaim s).lif.line = s.lif.line ∧
    (abandonClaim s).lif.failures = s.lif.failures ∧
    (abandonClaim s).lif.offTimer = s.lif.offTimer ∧
    (abandonClaim s).lif.sinceStatusA = s.lif.sinceStatusA ∧
    (abandonClaim s).lif.sinceStatusB = s.lif.sinceStatusB ∧
    (abandonClaim s).lif.repeatTimer = s.lif.repeatTimer ∧
    (abandonClaim s).lif.surgeSlot = s.lif.surgeSlot ∧
    (abandonClaim s).lif.orderSlot = s.lif.orderSlot ∧
    (abandonClaim s).clu.number = s.clu.number ∧
    (abandonClaim s).clu.freshTaken = s.clu.freshTaken := by
  unfold abandonClaim
  repeat' (first | split | dsimp only)
  all_goals simp [*]

@[simp] theorem statusOnLeavingRest_fields (before : Motion) (s : State) :
    (statusOnLeavingRest before s).lif.line = s.lif.line ∧
    (statusOnLeavingRest before s).lif.failures = s.lif.failures ∧
    (statusOnLeavingRest before s).lif.offTimer = s.lif.offTimer ∧
    (statusOnLeavingRest before s).lif.sinceStatusA = s.lif.sinceStatusA ∧
    (statusOnLeavingRest before s).lif.sinceStatusB = s.lif.sinceStatusB ∧
    (statusOnLeavingRest before s).lif.repeatTimer = s.lif.repeatTimer ∧
    (statusOnLeavingRest before s).lif.surgeSlot = s.lif.surgeSlot ∧
    (statusOnLeavingRest before s).lif.orderSlot = s.lif.orderSlot := by
  unfold statusOnLeavingRest
  repeat' (first | split | dsimp only)
  all_goals simp [*]

@[simp] theorem enterFaultStop_fields (s : State) :
    (enterFaultStop s).mtc.left = s.mtc.left ∧
    (enterFaultStop s).mtc.right = s.mtc.right := by
  unfold enterFaultStop
  repeat' (first | split | dsimp only)
  all_goals simp [*]

@[simp] theorem closureTest_fields (s : State) :
    (closureTest s).mtc.left = s.mtc.left ∧
    (closureTest s).mtc.right = s.mtc.right := by
  unfold closureTest
  repeat' (first | split | dsimp only)
  all_goals simp [*]

@[simp] theorem enterStopped_fields (s : State) :
    (enterStopped s).clu.freshTaken = s.clu.freshTaken ∧
    (enterStopped s).mtc.left = s.mtc.left ∧
    (enterStopped s).mtc.right = s.mtc.right := by
  unfold enterStopped
  repeat' (first | split | dsimp only)
  all_goals simp [*]

@[simp] theorem reportAbandon_fields (s : State) :
    (reportAbandon s).clu.number = s.clu.number ∧
    (reportAbandon s).clu.freshTaken = s.clu.freshTaken ∧
    (reportAbandon s).mtc.left = s.mtc.left ∧
    (reportAbandon s).mtc.right = s.mtc.right := by
  unfold reportAbandon
  repeat' (first | split | dsimp only)
  all_goals simp [*]

@[simp] theorem enterSettling_fields (s : State) :
    (enterSettling s).clu.number = s.clu.number ∧
    (enterSettling s).clu.freshTaken = s.clu.freshTaken ∧
    (enterSettling s).mtc.left = s.mtc.left ∧
    (enterSettling s).mtc.right = s.mtc.right := by
  unfold enterSettling
  repeat' (first | split | dsimp only)
  all_goals simp [*]

@[simp] theorem runOnExpiry_fields (s : State) :
    (runOnExpiry s).clu.freshTaken = s.clu.freshTaken ∧
    (runOnExpiry s).mtc.left = s.mtc.left ∧
    (runOnExpiry s).mtc.right = s.mtc.right := by
  unfold runOnExpiry
  repeat' (first | split | dsimp only)
  all_goals simp [*]

@[simp] theorem endMovement_fields (s : State) :
    (endMovement s).lif.line = s.lif.line ∧
    (endMovement s).lif.failures = s.lif.failures ∧
    (endMovement s).lif.offTimer = s.lif.offTimer ∧
    (endMovement s).lif.sinceStatusA = s.lif.sinceStatusA ∧
    (endMovement s).lif.sinceStatusB = s.lif.sinceStatusB ∧
    (endMovement s).lif.repeatTimer = s.lif.repeatTimer ∧
    (endMovement s).lif.surgeSlot = s.lif.surgeSlot ∧
    (endMovement s).lif.orderSlot = s.lif.orderSlot ∧
    (endMovement s).clu.number = s.clu.number ∧
    (endMovement s).clu.freshTaken = s.clu.freshTaken ∧
    (endMovement s).mtc.left = s.mtc.left ∧
    (endMovement s).mtc.right = s.mtc.right := by
  unfold endMovement
  repeat' (first | split | dsimp only)
  all_goals simp [*]

@[simp] theorem enterHolding_fields (s : State) :
    (enterHolding s).clu.freshTaken = s.clu.freshTaken ∧
    (enterHolding s).mtc.left = s.mtc.left ∧
    (enterHolding s).mtc.right = s.mtc.right := by
  unfold enterHolding
  repeat' (first | split | dsimp only)
  all_goals simp [*]

@[simp] theorem newGoal_fields (q : Nat) (s : State) :
    (newGoal q s).mtc.left = s.mtc.left ∧
    (newGoal q s).mtc.right = s.mtc.right := by
  unfold newGoal
  repeat' (first | split | dsimp only)
  all_goals simp [*]

@[simp] theorem targetStop_fields (s : State) :
    (targetStop s).mtc.left = s.mtc.left ∧
    (targetStop s).mtc.right = s.mtc.right := by
  unfold targetStop
  repeat' (first | split | dsimp only)
  all_goals simp [*]

@[simp] theorem abandonStop_fields (s : State) :
    (abandonStop s).clu.number = s.clu.number ∧
    (abandonStop s).clu.freshTaken = s.clu.freshTaken ∧
    (abandonStop s).mtc.left = s.mtc.left ∧
    (abandonStop s).mtc.right = s.mtc.right := by
  unfold abandonStop
  repeat' (first | split | dsimp only)
  all_goals simp [*]

@[simp] theorem handStride_fields (limits : Span) (e : Nat) (s : State) :
    (handStride limits e s).mtc.left = s.mtc.left ∧
    (handStride limits e s).mtc.right = s.mtc.right := by
  unfold handStride
  repeat' (first | split | dsimp only)
  all_goals simp [*]

@[simp] theorem surgeSelected_fields (s : State) :
    (surgeSelected s).mtc.left = s.mtc.left ∧
    (surgeSelected s).mtc.right = s.mtc.right := by
  unfold surgeSelected
  repeat' (first | split | dsimp only)
  all_goals simp [*]

@[simp] theorem surgeDeselected_fields (s : State) :
    (surgeDeselected s).clu.number = s.clu.number ∧
    (surgeDeselected s).clu.freshTaken = s.clu.freshTaken ∧
    (surgeDeselected s).mtc.left = s.mtc.left ∧
    (surgeDeselected s).mtc.right = s.mtc.right := by
  unfold surgeDeselected
  repeat' (first | split | dsimp only)
  all_goals simp [*]

@[simp] theorem leavePriming_fields (s : State) :
    (leavePriming s).clu.freshTaken = s.clu.freshTaken ∧
    (leavePriming s).mtc.left = s.mtc.left ∧
    (leavePriming s).mtc.right = s.mtc.right := by
  unfold leavePriming
  repeat' (first | split | dsimp only)
  all_goals simp [*]

@[simp] theorem endTrim_fields (s : State) :
    (endTrim s).mtc.left = s.mtc.left ∧
    (endTrim s).mtc.right = s.mtc.right := by
  unfold endTrim
  repeat' (first | split | dsimp only)
  all_goals simp [*]

@[simp] theorem evalService_fields (s : State) :
    (evalService s).lif.line = s.lif.line ∧
    (evalService s).lif.failures = s.lif.failures ∧
    (evalService s).lif.offTimer = s.lif.offTimer ∧
    (evalService s).lif.sinceStatusA = s.lif.sinceStatusA ∧
    (evalService s).lif.sinceStatusB = s.lif.sinceStatusB ∧
    (evalService s).lif.repeatTimer = s.lif.repeatTimer ∧
    (evalService s).lif.surgeSlot = s.lif.surgeSlot ∧
    (evalService s).lif.orderSlot = s.lif.orderSlot ∧
    (evalService s).osl.floor = s.osl.floor ∧
    (evalService s).osl.localTarget = s.osl.localTarget ∧
    (evalService s).osl.weirTarget = s.osl.weirTarget ∧
    (evalService s).osl.surge = s.osl.surge ∧
    (evalService s).osl.tidal = s.osl.tidal := by
  unfold evalService
  repeat' (first | split | dsimp only)
  all_goals simp [*]

@[simp] theorem captureRest_fields (s : State) :
    (captureRest s).osl.floor = s.osl.floor ∧
    (captureRest s).osl.localTarget = s.osl.localTarget ∧
    (captureRest s).osl.weirTarget = s.osl.weirTarget ∧
    (captureRest s).osl.surge = s.osl.surge ∧
    (captureRest s).osl.tidal = s.osl.tidal := by
  unfold captureRest
  repeat' (first | split | dsimp only)
  all_goals simp [*]

@[simp] theorem midStride_fields (u : Nat) (s : State) :
    (midStride u s).mtc.left = s.mtc.left ∧
    (midStride u s).mtc.right = s.mtc.right := by
  unfold midStride
  repeat' (first | split | dsimp only)
  all_goals simp [*]

@[simp] theorem targetReport_fields (s : State) :
    (targetReport s).clu.freshTaken = s.clu.freshTaken ∧
    (targetReport s).mtc.left = s.mtc.left ∧
    (targetReport s).mtc.right = s.mtc.right := by
  unfold targetReport
  repeat' (first | split | dsimp only)
  all_goals simp [*]

@[simp] theorem surgeReport_fields (before : Slot) (s : State) :
    (surgeReport before s).clu.number = s.clu.number ∧
    (surgeReport before s).clu.freshTaken = s.clu.freshTaken ∧
    (surgeReport before s).mtc.left = s.mtc.left ∧
    (surgeReport before s).mtc.right = s.mtc.right := by
  unfold surgeReport
  repeat' (first | split | dsimp only)
  all_goals simp [*]

@[simp] theorem reselect_fields (s : State) :
    (reselect s).clu.freshTaken = s.clu.freshTaken ∧
    (reselect s).osl.floor = s.osl.floor ∧
    (reselect s).osl.localTarget = s.osl.localTarget ∧
    (reselect s).osl.weirTarget = s.osl.weirTarget ∧
    (reselect s).osl.surge = s.osl.surge ∧
    (reselect s).osl.tidal = s.osl.tidal ∧
    (reselect s).mtc.left = s.mtc.left ∧
    (reselect s).mtc.right = s.mtc.right := by
  unfold reselect
  repeat' (first | split | dsimp only)
  all_goals simp [*]

@[simp] theorem setTidalSlot_fields (b : Bool) (s : State) :
    (setTidalSlot b s).clu.freshTaken = s.clu.freshTaken ∧
    (setTidalSlot b s).osl.floor = s.osl.floor ∧
    (setTidalSlot b s).osl.localTarget = s.osl.localTarget ∧
    (setTidalSlot b s).osl.weirTarget = s.osl.weirTarget ∧
    (setTidalSlot b s).osl.surge = s.osl.surge ∧
    (setTidalSlot b s).mtc.left = s.mtc.left ∧
    (setTidalSlot b s).mtc.right = s.mtc.right := by
  unfold setTidalSlot
  repeat' (first | split | dsimp only)
  all_goals simp [*]

@[simp] theorem handWeir_fields (share : Nat) (s : State) :
    (handWeir share s).clu.freshTaken = s.clu.freshTaken ∧
    (handWeir share s).osl.floor = s.osl.floor ∧
    (handWeir share s).osl.localTarget = s.osl.localTarget ∧
    (handWeir share s).osl.surge = s.osl.surge ∧
    (handWeir share s).osl.tidal = s.osl.tidal ∧
    (handWeir share s).mtc.left = s.mtc.left ∧
    (handWeir share s).mtc.right = s.mtc.right := by
  unfold handWeir
  repeat' (first | split | dsimp only)
  all_goals simp [*]

@[simp] theorem setLocal_fields (target : Nat) (s : State) :
    (setLocal target s).clu.freshTaken = s.clu.freshTaken ∧
    (setLocal target s).osl.floor = s.osl.floor ∧
    (setLocal target s).osl.weirTarget = s.osl.weirTarget ∧
    (setLocal target s).osl.surge = s.osl.surge ∧
    (setLocal target s).osl.tidal = s.osl.tidal ∧
    (setLocal target s).mtc.left = s.mtc.left ∧
    (setLocal target s).mtc.right = s.mtc.right := by
  unfold setLocal
  repeat' (first | split | dsimp only)
  all_goals simp [*]

@[simp] theorem surgeAbandon_fields (s : State) :
    (surgeAbandon s).clu.number = s.clu.number ∧
    (surgeAbandon s).clu.freshTaken = s.clu.freshTaken ∧
    (surgeAbandon s).mtc.left = s.mtc.left ∧
    (surgeAbandon s).mtc.right = s.mtc.right := by
  unfold surgeAbandon
  repeat' (first | split | dsimp only)
  all_goals simp [*]

@[simp] theorem changeEpoch_fields (e : Nat) (s : State) :
    (changeEpoch e s).clu.freshTaken = s.clu.freshTaken ∧
    (changeEpoch e s).osl.floor = s.osl.floor ∧
    (changeEpoch e s).osl.localTarget = s.osl.localTarget ∧
    (changeEpoch e s).osl.weirTarget = s.osl.weirTarget ∧
    (changeEpoch e s).osl.tidal = s.osl.tidal ∧
    (changeEpoch e s).stm.ringU = s.stm.ringU ∧
    (changeEpoch e s).stm.ringD = s.stm.ringD ∧
    (changeEpoch e s).stm.tidal = s.stm.tidal ∧
    (changeEpoch e s).stm.confirmRun = s.stm.confirmRun ∧
    (changeEpoch e s).stm.surgeRun = s.stm.surgeRun ∧
    (changeEpoch e s).stm.sourceU = s.stm.sourceU ∧
    (changeEpoch e s).stm.sourceD = s.stm.sourceD ∧
    (changeEpoch e s).stm.settled = s.stm.settled ∧
    (changeEpoch e s).stm.settle = s.stm.settle ∧
    (changeEpoch e s).mtc.left = s.mtc.left ∧
    (changeEpoch e s).mtc.right = s.mtc.right := by
  unfold changeEpoch
  repeat' (first | split | dsimp only)
  all_goals simp [*]

@[simp] theorem raiseEpoch_fields (s : State) :
    (raiseEpoch s).clu.freshTaken = s.clu.freshTaken ∧
    (raiseEpoch s).osl.floor = s.osl.floor ∧
    (raiseEpoch s).osl.localTarget = s.osl.localTarget ∧
    (raiseEpoch s).osl.weirTarget = s.osl.weirTarget ∧
    (raiseEpoch s).osl.tidal = s.osl.tidal ∧
    (raiseEpoch s).stm.ringU = s.stm.ringU ∧
    (raiseEpoch s).stm.ringD = s.stm.ringD ∧
    (raiseEpoch s).stm.tidal = s.stm.tidal ∧
    (raiseEpoch s).stm.confirmRun = s.stm.confirmRun ∧
    (raiseEpoch s).stm.surgeRun = s.stm.surgeRun ∧
    (raiseEpoch s).stm.sourceU = s.stm.sourceU ∧
    (raiseEpoch s).stm.sourceD = s.stm.sourceD ∧
    (raiseEpoch s).stm.settled = s.stm.settled ∧
    (raiseEpoch s).stm.settle = s.stm.settle ∧
    (raiseEpoch s).mtc.left = s.mtc.left ∧
    (raiseEpoch s).mtc.right = s.mtc.right := by
  unfold raiseEpoch
  repeat' (first | split | dsimp only)
  all_goals simp [*]

@[simp] theorem raiseTests_fields (s : State) :
    (raiseTests s).clu.freshTaken = s.clu.freshTaken ∧
    (raiseTests s).osl.floor = s.osl.floor ∧
    (raiseTests s).osl.localTarget = s.osl.localTarget ∧
    (raiseTests s).osl.weirTarget = s.osl.weirTarget ∧
    (raiseTests s).osl.tidal = s.osl.tidal ∧
    (raiseTests s).stm.ringU = s.stm.ringU ∧
    (raiseTests s).stm.ringD = s.stm.ringD ∧
    (raiseTests s).stm.tidal = s.stm.tidal ∧
    (raiseTests s).stm.confirmRun = s.stm.confirmRun ∧
    (raiseTests s).stm.surgeRun = s.stm.surgeRun ∧
    (raiseTests s).stm.sourceU = s.stm.sourceU ∧
    (raiseTests s).stm.sourceD = s.stm.sourceD ∧
    (raiseTests s).stm.settled = s.stm.settled ∧
    (raiseTests s).stm.settle = s.stm.settle ∧
    (raiseTests s).mtc.left = s.mtc.left ∧
    (raiseTests s).mtc.right = s.mtc.right := by
  unfold raiseTests
  repeat' (first | split | dsimp only)
  all_goals simp [*]

@[simp] theorem clearEpoch_fields (s : State) :
    (clearEpoch s).clu.freshTaken = s.clu.freshTaken ∧
    (clearEpoch s).osl.floor = s.osl.floor ∧
    (clearEpoch s).osl.localTarget = s.osl.localTarget ∧
    (clearEpoch s).osl.weirTarget = s.osl.weirTarget ∧
    (clearEpoch s).osl.tidal = s.osl.tidal ∧
    (clearEpoch s).stm.ringU = s.stm.ringU ∧
    (clearEpoch s).stm.ringD = s.stm.ringD ∧
    (clearEpoch s).stm.tidal = s.stm.tidal ∧
    (clearEpoch s).stm.confirmRun = s.stm.confirmRun ∧
    (clearEpoch s).stm.surgeRun = s.stm.surgeRun ∧
    (clearEpoch s).stm.sourceU = s.stm.sourceU ∧
    (clearEpoch s).stm.sourceD = s.stm.sourceD ∧
    (clearEpoch s).stm.settled = s.stm.settled ∧
    (clearEpoch s).stm.settle = s.stm.settle ∧
    (clearEpoch s).mtc.left = s.mtc.left ∧
    (clearEpoch s).mtc.right = s.mtc.right := by
  unfold clearEpoch
  repeat' (first | split | dsimp only)
  all_goals simp [*]

@[simp] theorem adoptEpoch_fields (e : Nat) (s : State) :
    (adoptEpoch e s).clu.freshTaken = s.clu.freshTaken ∧
    (adoptEpoch e s).osl.floor = s.osl.floor ∧
    (adoptEpoch e s).osl.localTarget = s.osl.localTarget ∧
    (adoptEpoch e s).osl.weirTarget = s.osl.weirTarget ∧
    (adoptEpoch e s).osl.tidal = s.osl.tidal ∧
    (adoptEpoch e s).stm.ringU = s.stm.ringU ∧
    (adoptEpoch e s).stm.ringD = s.stm.ringD ∧
    (adoptEpoch e s).stm.tidal = s.stm.tidal ∧
    (adoptEpoch e s).stm.confirmRun = s.stm.confirmRun ∧
    (adoptEpoch e s).stm.surgeRun = s.stm.surgeRun ∧
    (adoptEpoch e s).stm.sourceU = s.stm.sourceU ∧
    (adoptEpoch e s).stm.sourceD = s.stm.sourceD ∧
    (adoptEpoch e s).stm.settled = s.stm.settled ∧
    (adoptEpoch e s).stm.settle = s.stm.settle ∧
    (adoptEpoch e s).mtc.left = s.mtc.left ∧
    (adoptEpoch e s).mtc.right = s.mtc.right := by
  unfold adoptEpoch
  repeat' (first | split | dsimp only)
  all_goals simp [*]

@[simp] theorem settleNow_fields (s : State) :
    (settleNow s).stm.ringU = s.stm.ringU ∧
    (settleNow s).stm.ringD = s.stm.ringD ∧
    (settleNow s).stm.tidal = s.stm.tidal ∧
    (settleNow s).stm.confirmRun = s.stm.confirmRun ∧
    (settleNow s).stm.surgeRun = s.stm.surgeRun ∧
    (settleNow s).stm.sourceU = s.stm.sourceU ∧
    (settleNow s).stm.sourceD = s.stm.sourceD ∧
    (settleNow s).stm.epoch = s.stm.epoch := by
  unfold settleNow
  repeat' (first | split | dsimp only)
  all_goals simp [*]

@[simp] theorem surgeFromPeer_fields (e : Nat) (s : State) :
    (surgeFromPeer e s).clu.freshTaken = s.clu.freshTaken ∧
    (surgeFromPeer e s).osl.floor = s.osl.floor ∧
    (surgeFromPeer e s).osl.localTarget = s.osl.localTarget ∧
    (surgeFromPeer e s).osl.weirTarget = s.osl.weirTarget ∧
    (surgeFromPeer e s).osl.tidal = s.osl.tidal ∧
    (surgeFromPeer e s).stm.ringU = s.stm.ringU ∧
    (surgeFromPeer e s).stm.ringD = s.stm.ringD ∧
    (surgeFromPeer e s).stm.tidal = s.stm.tidal ∧
    (surgeFromPeer e s).stm.confirmRun = s.stm.confirmRun ∧
    (surgeFromPeer e s).stm.surgeRun = s.stm.surgeRun ∧
    (surgeFromPeer e s).stm.sourceU = s.stm.sourceU ∧
    (surgeFromPeer e s).stm.sourceD = s.stm.sourceD ∧
    (surgeFromPeer e s).mtc.left = s.mtc.left ∧
    (surgeFromPeer e s).mtc.right = s.mtc.right := by
  unfold surgeFromPeer
  repeat' (first | split | dsimp only)
  all_goals simp [*]

@[simp] theorem surgeFromSelf_fields (e : Nat) (s : State) :
    (surgeFromSelf e s).clu.freshTaken = s.clu.freshTaken ∧
    (surgeFromSelf e s).osl.floor = s.osl.floor ∧
    (surgeFromSelf e s).osl.localTarget = s.osl.localTarget ∧
    (surgeFromSelf e s).osl.weirTarget = s.osl.weirTarget ∧
    (surgeFromSelf e s).osl.tidal = s.osl.tidal ∧
    (surgeFromSelf e s).stm.ringU = s.stm.ringU ∧
    (surgeFromSelf e s).stm.ringD = s.stm.ringD ∧
    (surgeFromSelf e s).stm.tidal = s.stm.tidal ∧
    (surgeFromSelf e s).stm.confirmRun = s.stm.confirmRun ∧
    (surgeFromSelf e s).stm.surgeRun = s.stm.surgeRun ∧
    (surgeFromSelf e s).stm.sourceU = s.stm.sourceU ∧
    (surgeFromSelf e s).stm.sourceD = s.stm.sourceD ∧
    (surgeFromSelf e s).stm.settled = s.stm.settled ∧
    (surgeFromSelf e s).stm.settle = s.stm.settle ∧
    (surgeFromSelf e s).mtc.left = s.mtc.left ∧
    (surgeFromSelf e s).mtc.right = s.mtc.right := by
  unfold surgeFromSelf
  repeat' (first | split | dsimp only)
  all_goals simp [*]

@[simp] theorem epochFromStatus_fields (e : Nat) (senderFresh : Bool) (s : State) :
    (epochFromStatus e senderFresh s).clu.freshTaken = s.clu.freshTaken ∧
    (epochFromStatus e senderFresh s).osl.floor = s.osl.floor ∧
    (epochFromStatus e senderFresh s).osl.localTarget = s.osl.localTarget ∧
    (epochFromStatus e senderFresh s).osl.weirTarget = s.osl.weirTarget ∧
    (epochFromStatus e senderFresh s).osl.tidal = s.osl.tidal ∧
    (epochFromStatus e senderFresh s).stm.ringU = s.stm.ringU ∧
    (epochFromStatus e senderFresh s).stm.ringD = s.stm.ringD ∧
    (epochFromStatus e senderFresh s).stm.tidal = s.stm.tidal ∧
    (epochFromStatus e senderFresh s).stm.confirmRun = s.stm.confirmRun ∧
    (epochFromStatus e senderFresh s).stm.surgeRun = s.stm.surgeRun ∧
    (epochFromStatus e senderFresh s).stm.sourceU = s.stm.sourceU ∧
    (epochFromStatus e senderFresh s).stm.sourceD = s.stm.sourceD ∧
    (epochFromStatus e senderFresh s).mtc.left = s.mtc.left ∧
    (epochFromStatus e senderFresh s).mtc.right = s.mtc.right := by
  unfold epochFromStatus
  repeat' (first | split | dsimp only)
  all_goals simp [*]

@[simp] theorem chooseSources_fields (s : State) :
    (chooseSources s).stm.ringU = s.stm.ringU ∧
    (chooseSources s).stm.ringD = s.stm.ringD ∧
    (chooseSources s).stm.tidal = s.stm.tidal ∧
    (chooseSources s).stm.confirmRun = s.stm.confirmRun ∧
    (chooseSources s).stm.surgeRun = s.stm.surgeRun ∧
    (chooseSources s).stm.settled = s.stm.settled ∧
    (chooseSources s).stm.settle = s.stm.settle ∧
    (chooseSources s).stm.epoch = s.stm.epoch := by
  unfold chooseSources
  repeat' (first | split | dsimp only)
  all_goals simp [*]

@[simp] theorem firstFault_fields (c : Cause) (s : State) :
    (firstFault c s).clu.number = s.clu.number ∧
    (firstFault c s).clu.freshTaken = s.clu.freshTaken ∧
    (firstFault c s).osl.floor = s.osl.floor ∧
    (firstFault c s).osl.localTarget = s.osl.localTarget ∧
    (firstFault c s).osl.weirTarget = s.osl.weirTarget ∧
    (firstFault c s).osl.surge = s.osl.surge ∧
    (firstFault c s).osl.tidal = s.osl.tidal ∧
    (firstFault c s).mtc.left = s.mtc.left ∧
    (firstFault c s).mtc.right = s.mtc.right ∧
    (firstFault c s).fmn.hold = s.fmn.hold ∧
    (firstFault c s).fmn.supplyLow = s.fmn.supplyLow ∧
    (firstFault c s).fmn.lineOff = s.fmn.lineOff ∧
    (firstFault c s).fmn.good = s.fmn.good := by
  unfold firstFault
  repeat' (first | split | dsimp only)
  all_goals simp [*]

@[simp] theorem secondFault_fields (c : Cause) (s : State) :
    (secondFault c s).mtc.left = s.mtc.left ∧
    (secondFault c s).mtc.right = s.mtc.right ∧
    (secondFault c s).fmn.hold = s.fmn.hold ∧
    (secondFault c s).fmn.supplyLow = s.fmn.supplyLow ∧
    (secondFault c s).fmn.lineOff = s.fmn.lineOff ∧
    (secondFault c s).fmn.good = s.fmn.good := by
  unfold secondFault
  repeat' (first | split | dsimp only)
  all_goals simp [*]

@[simp] theorem reportFault_fields (c : Cause) (s : State) :
    (reportFault c s).clu.number = s.clu.number ∧
    (reportFault c s).clu.freshTaken = s.clu.freshTaken ∧
    (reportFault c s).osl.floor = s.osl.floor ∧
    (reportFault c s).osl.localTarget = s.osl.localTarget ∧
    (reportFault c s).osl.weirTarget = s.osl.weirTarget ∧
    (reportFault c s).osl.surge = s.osl.surge ∧
    (reportFault c s).osl.tidal = s.osl.tidal ∧
    (reportFault c s).mtc.left = s.mtc.left ∧
    (reportFault c s).mtc.right = s.mtc.right ∧
    (reportFault c s).fmn.hold = s.fmn.hold ∧
    (reportFault c s).fmn.supplyLow = s.fmn.supplyLow ∧
    (reportFault c s).fmn.lineOff = s.fmn.lineOff ∧
    (reportFault c s).fmn.good = s.fmn.good := by
  unfold reportFault
  repeat' (first | split | dsimp only)
  all_goals simp [*]

@[simp] theorem clearFaults_fields (s : State) :
    (clearFaults s).clu.freshTaken = s.clu.freshTaken ∧
    (clearFaults s).osl.floor = s.osl.floor ∧
    (clearFaults s).osl.localTarget = s.osl.localTarget ∧
    (clearFaults s).osl.weirTarget = s.osl.weirTarget ∧
    (clearFaults s).osl.surge = s.osl.surge ∧
    (clearFaults s).osl.tidal = s.osl.tidal ∧
    (clearFaults s).mtc.left = s.mtc.left ∧
    (clearFaults s).mtc.right = s.mtc.right ∧
    (clearFaults s).fmn.hold = s.fmn.hold ∧
    (clearFaults s).fmn.supplyLow = s.fmn.supplyLow ∧
    (clearFaults s).fmn.lineOff = s.fmn.lineOff ∧
    (clearFaults s).fmn.good = s.fmn.good := by
  unfold clearFaults
  repeat' (first | split | dsimp only)
  all_goals simp [*]

@[simp] theorem stopForCondition_fields (s : State) :
    (stopForCondition s).clu.number = s.clu.number ∧
    (stopForCondition s).clu.freshTaken = s.clu.freshTaken ∧
    (stopForCondition s).mtc.left = s.mtc.left ∧
    (stopForCondition s).mtc.right = s.mtc.right := by
  unfold stopForCondition
  repeat' (first | split | dsimp only)
  all_goals simp [*]

@[simp] theorem conditionEnds_fields (s : State) :
    (conditionEnds s).mtc.left = s.mtc.left ∧
    (conditionEnds s).mtc.right = s.mtc.right := by
  unfold conditionEnds
  repeat' (first | split | dsimp only)
  all_goals simp [*]

@[simp] theorem takeHold_fields (s : State) :
    (takeHold s).clu.number = s.clu.number ∧
    (takeHold s).clu.freshTaken = s.clu.freshTaken ∧
    (takeHold s).osl.floor = s.osl.floor ∧
    (takeHold s).osl.localTarget = s.osl.localTarget ∧
    (takeHold s).osl.weirTarget = s.osl.weirTarget ∧
    (takeHold s).osl.surge = s.osl.surge ∧
    (takeHold s).osl.tidal = s.osl.tidal ∧
    (takeHold s).mtc.left = s.mtc.left ∧
    (takeHold s).mtc.right = s.mtc.right ∧
    (takeHold s).fmn.supplyLow = s.fmn.supplyLow ∧
    (takeHold s).fmn.lineOff = s.fmn.lineOff ∧
    (takeHold s).fmn.good = s.fmn.good := by
  unfold takeHold
  repeat' (first | split | dsimp only)
  all_goals simp [*]

@[simp] theorem takeSupplyLow_fields (s : State) :
    (takeSupplyLow s).clu.number = s.clu.number ∧
    (takeSupplyLow s).clu.freshTaken = s.clu.freshTaken ∧
    (takeSupplyLow s).mtc.left = s.mtc.left ∧
    (takeSupplyLow s).mtc.right = s.mtc.right ∧
    (takeSupplyLow s).fmn.hold = s.fmn.hold ∧
    (takeSupplyLow s).fmn.lineOff = s.fmn.lineOff ∧
    (takeSupplyLow s).fmn.good = s.fmn.good := by
  unfold takeSupplyLow
  repeat' (first | split | dsimp only)
  all_goals simp [*]

@[simp] theorem runShares_fields (adoption : Bool) (s : State) :
    (runShares adoption s).clu.freshTaken = s.clu.freshTaken ∧
    (runShares adoption s).shu.order = s.shu.order ∧
    (runShares adoption s).osl.floor = s.osl.floor ∧
    (runShares adoption s).osl.localTarget = s.osl.localTarget ∧
    (runShares adoption s).osl.surge = s.osl.surge ∧
    (runShares adoption s).osl.tidal = s.osl.tidal ∧
    (runShares adoption s).mtc.left = s.mtc.left ∧
    (runShares adoption s).mtc.right = s.mtc.right := by
  unfold runShares
  repeat' (first | split | dsimp only)
  all_goals simp [*]

@[simp] theorem shareReport_fields (s : State) :
    (shareReport s).clu.freshTaken = s.clu.freshTaken ∧
    (shareReport s).shu.order = s.shu.order ∧
    (shareReport s).osl.floor = s.osl.floor ∧
    (shareReport s).osl.localTarget = s.osl.localTarget ∧
    (shareReport s).osl.surge = s.osl.surge ∧
    (shareReport s).osl.tidal = s.osl.tidal ∧
    (shareReport s).mtc.left = s.mtc.left ∧
    (shareReport s).mtc.right = s.mtc.right := by
  unfold shareReport
  repeat' (first | split | dsimp only)
  all_goals simp [*]

@[simp] theorem openingReport_fields (b : Nat) (opening : Nat) (s : State) :
    (openingReport b opening s).clu.freshTaken = s.clu.freshTaken ∧
    (openingReport b opening s).shu.order = s.shu.order ∧
    (openingReport b opening s).osl.floor = s.osl.floor ∧
    (openingReport b opening s).osl.localTarget = s.osl.localTarget ∧
    (openingReport b opening s).osl.surge = s.osl.surge ∧
    (openingReport b opening s).osl.tidal = s.osl.tidal ∧
    (openingReport b opening s).mtc.left = s.mtc.left ∧
    (openingReport b opening s).mtc.right = s.mtc.right := by
  unfold openingReport
  repeat' (first | split | dsimp only)
  all_goals simp [*]

@[simp] theorem weightReport_fields (b : Nat) (s : State) :
    (weightReport b s).clu.freshTaken = s.clu.freshTaken ∧
    (weightReport b s).shu.order = s.shu.order ∧
    (weightReport b s).osl.floor = s.osl.floor ∧
    (weightReport b s).osl.localTarget = s.osl.localTarget ∧
    (weightReport b s).osl.surge = s.osl.surge ∧
    (weightReport b s).osl.tidal = s.osl.tidal ∧
    (weightReport b s).mtc.left = s.mtc.left ∧
    (weightReport b s).mtc.right = s.mtc.right := by
  unfold weightReport
  repeat' (first | split | dsimp only)
  all_goals simp [*]

@[simp] theorem restartRepeat_fields (s : State) :
    (restartRepeat s).lif.line = s.lif.line ∧
    (restartRepeat s).lif.failures = s.lif.failures ∧
    (restartRepeat s).lif.offTimer = s.lif.offTimer ∧
    (restartRepeat s).lif.sinceStatusA = s.lif.sinceStatusA ∧
    (restartRepeat s).lif.sinceStatusB = s.lif.sinceStatusB ∧
    (restartRepeat s).lif.surgeSlot = s.lif.surgeSlot ∧
    (restartRepeat s).lif.orderSlot = s.lif.orderSlot := by
  unfold restartRepeat
  repeat' (first | split | dsimp only)
  all_goals simp [*]

@[simp] theorem takeOrder_fields (sender : Nat) (c : OrderContent) (s : State) :
    (takeOrder sender c s).clu.freshTaken = s.clu.freshTaken ∧
    (takeOrder sender c s).osl.floor = s.osl.floor ∧
    (takeOrder sender c s).osl.localTarget = s.osl.localTarget ∧
    (takeOrder sender c s).osl.surge = s.osl.surge ∧
    (takeOrder sender c s).osl.tidal = s.osl.tidal ∧
    (takeOrder sender c s).mtc.left = s.mtc.left ∧
    (takeOrder sender c s).mtc.right = s.mtc.right := by
  unfold takeOrder
  repeat' (first | split | dsimp only)
  all_goals simp [*]

@[simp] theorem heard_fields (b : Nat) (s : State) :
    (heard b s).ptb.listen = s.ptb.listen ∧
    (heard b s).clu.freshTaken = s.clu.freshTaken ∧
    (heard b s).shu.order = s.shu.order ∧
    (heard b s).osl.floor = s.osl.floor ∧
    (heard b s).osl.localTarget = s.osl.localTarget ∧
    (heard b s).osl.surge = s.osl.surge ∧
    (heard b s).osl.tidal = s.osl.tidal ∧
    (heard b s).stm.ringU = s.stm.ringU ∧
    (heard b s).stm.ringD = s.stm.ringD ∧
    (heard b s).stm.tidal = s.stm.tidal ∧
    (heard b s).stm.confirmRun = s.stm.confirmRun ∧
    (heard b s).stm.surgeRun = s.stm.surgeRun ∧
    (heard b s).stm.settled = s.stm.settled ∧
    (heard b s).stm.settle = s.stm.settle ∧
    (heard b s).stm.epoch = s.stm.epoch ∧
    (heard b s).mtc.left = s.mtc.left ∧
    (heard b s).mtc.right = s.mtc.right := by
  unfold heard
  repeat' (first | split | dsimp only)
  all_goals simp [*]

@[simp] theorem listenStart_fields (s : State) :
    (listenStart s).lif.line = s.lif.line ∧
    (listenStart s).lif.failures = s.lif.failures ∧
    (listenStart s).lif.offTimer = s.lif.offTimer ∧
    (listenStart s).lif.sinceStatusA = s.lif.sinceStatusA ∧
    (listenStart s).lif.sinceStatusB = s.lif.sinceStatusB ∧
    (listenStart s).lif.repeatTimer = s.lif.repeatTimer ∧
    (listenStart s).lif.surgeSlot = s.lif.surgeSlot ∧
    (listenStart s).lif.orderSlot = s.lif.orderSlot ∧
    (listenStart s).osl.floor = s.osl.floor ∧
    (listenStart s).osl.localTarget = s.osl.localTarget ∧
    (listenStart s).osl.weirTarget = s.osl.weirTarget ∧
    (listenStart s).osl.surge = s.osl.surge ∧
    (listenStart s).osl.tidal = s.osl.tidal := by
  unfold listenStart
  repeat' (first | split | dsimp only)
  all_goals simp [*]

@[simp] theorem listenEnd_fields (s : State) :
    (listenEnd s).lif.line = s.lif.line ∧
    (listenEnd s).lif.failures = s.lif.failures ∧
    (listenEnd s).lif.offTimer = s.lif.offTimer ∧
    (listenEnd s).lif.sinceStatusA = s.lif.sinceStatusA ∧
    (listenEnd s).lif.sinceStatusB = s.lif.sinceStatusB ∧
    (listenEnd s).lif.repeatTimer = s.lif.repeatTimer ∧
    (listenEnd s).lif.surgeSlot = s.lif.surgeSlot ∧
    (listenEnd s).lif.orderSlot = s.lif.orderSlot ∧
    (listenEnd s).clu.freshTaken = s.clu.freshTaken ∧
    (listenEnd s).osl.floor = s.osl.floor ∧
    (listenEnd s).osl.localTarget = s.osl.localTarget ∧
    (listenEnd s).osl.weirTarget = s.osl.weirTarget ∧
    (listenEnd s).osl.surge = s.osl.surge ∧
    (listenEnd s).osl.tidal = s.osl.tidal := by
  unfold listenEnd
  repeat' (first | split | dsimp only)
  all_goals simp [*]

@[simp] theorem takeStatusA_fields (b : Nat) (c : StatusA) (s : State) :
    (takeStatusA b c s).clu.freshTaken = s.clu.freshTaken ∧
    (takeStatusA b c s).shu.order = s.shu.order ∧
    (takeStatusA b c s).osl.floor = s.osl.floor ∧
    (takeStatusA b c s).osl.localTarget = s.osl.localTarget ∧
    (takeStatusA b c s).osl.surge = s.osl.surge ∧
    (takeStatusA b c s).osl.tidal = s.osl.tidal ∧
    (takeStatusA b c s).mtc.left = s.mtc.left ∧
    (takeStatusA b c s).mtc.right = s.mtc.right := by
  unfold takeStatusA
  repeat' (first | split | dsimp only)
  all_goals simp [*]

@[simp] theorem takeStatusB_fields (b : Nat) (c : StatusB) (s : State) :
    (takeStatusB b c s).ptb.listen = s.ptb.listen ∧
    (takeStatusB b c s).clu.freshTaken = s.clu.freshTaken ∧
    (takeStatusB b c s).shu.order = s.shu.order ∧
    (takeStatusB b c s).osl.floor = s.osl.floor ∧
    (takeStatusB b c s).osl.localTarget = s.osl.localTarget ∧
    (takeStatusB b c s).osl.tidal = s.osl.tidal ∧
    (takeStatusB b c s).stm.ringU = s.stm.ringU ∧
    (takeStatusB b c s).stm.ringD = s.stm.ringD ∧
    (takeStatusB b c s).stm.tidal = s.stm.tidal ∧
    (takeStatusB b c s).stm.confirmRun = s.stm.confirmRun ∧
    (takeStatusB b c s).stm.surgeRun = s.stm.surgeRun ∧
    (takeStatusB b c s).mtc.left = s.mtc.left ∧
    (takeStatusB b c s).mtc.right = s.mtc.right := by
  unfold takeStatusB
  repeat' (first | split | dsimp only)
  all_goals simp [*]

@[simp] theorem takeOwnStatusA_fields (c : StatusA) (s : State) :
    (takeOwnStatusA c s).ptb.listen = s.ptb.listen := by
  unfold takeOwnStatusA
  repeat' (first | split | dsimp only)
  all_goals simp [*]

@[simp] theorem takeOwnStatusB_fields (c : StatusB) (s : State) :
    (takeOwnStatusB c s).ptb.listen = s.ptb.listen := by
  unfold takeOwnStatusB
  repeat' (first | split | dsimp only)
  all_goals simp [*]

@[simp] theorem writeBound_fields (b : Nat) (x : Span) (s : State) :
    (writeBound b x s).lif.line = s.lif.line ∧
    (writeBound b x s).lif.failures = s.lif.failures ∧
    (writeBound b x s).lif.offTimer = s.lif.offTimer ∧
    (writeBound b x s).lif.sinceStatusA = s.lif.sinceStatusA ∧
    (writeBound b x s).lif.sinceStatusB = s.lif.sinceStatusB ∧
    (writeBound b x s).lif.repeatTimer = s.lif.repeatTimer ∧
    (writeBound b x s).lif.surgeSlot = s.lif.surgeSlot ∧
    (writeBound b x s).lif.orderSlot = s.lif.orderSlot ∧
    (writeBound b x s).ptb.listen = s.ptb.listen ∧
    (writeBound b x s).clu.freshTaken = s.clu.freshTaken := by
  unfold writeBound
  repeat' (first | split | dsimp only)
  all_goals simp [*]

@[simp] theorem grantClaim_fields (s : State) :
    (grantClaim s).clu.number = s.clu.number ∧
    (grantClaim s).clu.freshTaken = s.clu.freshTaken ∧
    (grantClaim s).mtc.left = s.mtc.left ∧
    (grantClaim s).mtc.right = s.mtc.right := by
  unfold grantClaim
  repeat' (first | split | dsimp only)
  all_goals simp [*]

@[simp] theorem demurClaim_fields (s : State) :
    (demurClaim s).lif.line = s.lif.line ∧
    (demurClaim s).lif.failures = s.lif.failures ∧
    (demurClaim s).lif.offTimer = s.lif.offTimer ∧
    (demurClaim s).lif.sinceStatusA = s.lif.sinceStatusA ∧
    (demurClaim s).lif.sinceStatusB = s.lif.sinceStatusB ∧
    (demurClaim s).lif.repeatTimer = s.lif.repeatTimer ∧
    (demurClaim s).lif.surgeSlot = s.lif.surgeSlot ∧
    (demurClaim s).lif.orderSlot = s.lif.orderSlot ∧
    (demurClaim s).clu.number = s.clu.number ∧
    (demurClaim s).clu.freshTaken = s.clu.freshTaken := by
  unfold demurClaim
  repeat' (first | split | dsimp only)
  all_goals simp [*]

@[simp] theorem applyVerdicts_fields (s : State) :
    (applyVerdicts s).clu.number = s.clu.number ∧
    (applyVerdicts s).clu.freshTaken = s.clu.freshTaken ∧
    (applyVerdicts s).mtc.left = s.mtc.left ∧
    (applyVerdicts s).mtc.right = s.mtc.right := by
  unfold applyVerdicts
  repeat' (first | split | dsimp only)
  all_goals simp [*]

@[simp] theorem takeOwnClaim_fields (c : ClaimContent) (s : State) :
    (takeOwnClaim c s).clu.number = s.clu.number ∧
    (takeOwnClaim c s).clu.freshTaken = s.clu.freshTaken ∧
    (takeOwnClaim c s).mtc.left = s.mtc.left ∧
    (takeOwnClaim c s).mtc.right = s.mtc.right := by
  unfold takeOwnClaim
  repeat' (first | split | dsimp only)
  all_goals simp [*]

@[simp] theorem recordVerdict_fields (b : Nat) (v : Verdict) (s : State) :
    (recordVerdict b v s).clu.number = s.clu.number ∧
    (recordVerdict b v s).clu.freshTaken = s.clu.freshTaken := by
  unfold recordVerdict
  repeat' (first | split | dsimp only)
  all_goals simp [*]

@[simp] theorem takeVerdict_fields (b : Nat) (c : VerdictContent) (s : State) :
    (takeVerdict b c s).clu.number = s.clu.number ∧
    (takeVerdict b c s).clu.freshTaken = s.clu.freshTaken ∧
    (takeVerdict b c s).mtc.left = s.mtc.left ∧
    (takeVerdict b c s).mtc.right = s.mtc.right := by
  unfold takeVerdict
  repeat' (first | split | dsimp only)
  all_goals simp [*]

@[simp] theorem judgeClaim_fields (b : Nat) (c : ClaimContent) (s : State) :
    (judgeClaim b c s).lif.line = s.lif.line ∧
    (judgeClaim b c s).lif.failures = s.lif.failures ∧
    (judgeClaim b c s).lif.offTimer = s.lif.offTimer ∧
    (judgeClaim b c s).lif.sinceStatusA = s.lif.sinceStatusA ∧
    (judgeClaim b c s).lif.sinceStatusB = s.lif.sinceStatusB ∧
    (judgeClaim b c s).lif.repeatTimer = s.lif.repeatTimer ∧
    (judgeClaim b c s).lif.surgeSlot = s.lif.surgeSlot ∧
    (judgeClaim b c s).lif.orderSlot = s.lif.orderSlot ∧
    (judgeClaim b c s).ptb.listen = s.ptb.listen ∧
    (judgeClaim b c s).clu.freshTaken = s.clu.freshTaken := by
  unfold judgeClaim
  repeat' (first | split | dsimp only)
  all_goals simp [*]

@[simp] theorem takeClaim_fields (b : Nat) (c : ClaimContent) (s : State) :
    (takeClaim b c s).lif.line = s.lif.line ∧
    (takeClaim b c s).lif.failures = s.lif.failures ∧
    (takeClaim b c s).lif.offTimer = s.lif.offTimer ∧
    (takeClaim b c s).lif.sinceStatusA = s.lif.sinceStatusA ∧
    (takeClaim b c s).lif.sinceStatusB = s.lif.sinceStatusB ∧
    (takeClaim b c s).lif.repeatTimer = s.lif.repeatTimer ∧
    (takeClaim b c s).lif.surgeSlot = s.lif.surgeSlot ∧
    (takeClaim b c s).lif.orderSlot = s.lif.orderSlot ∧
    (takeClaim b c s).ptb.listen = s.ptb.listen ∧
    (takeClaim b c s).clu.freshTaken = s.clu.freshTaken := by
  unfold takeClaim
  repeat' (first | split | dsimp only)
  all_goals simp [*]

@[simp] theorem claimLineOff_fields (s : State) :
    (claimLineOff s).clu.number = s.clu.number ∧
    (claimLineOff s).clu.freshTaken = s.clu.freshTaken ∧
    (claimLineOff s).mtc.left = s.mtc.left ∧
    (claimLineOff s).mtc.right = s.mtc.right := by
  unfold claimLineOff
  repeat' (first | split | dsimp only)
  all_goals simp [*]

@[simp] theorem deliver_fields (b : Nat) (f : Frame) (s : State) :
    (deliver b f s).clu.freshTaken = s.clu.freshTaken ∧
    (deliver b f s).osl.floor = s.osl.floor ∧
    (deliver b f s).osl.localTarget = s.osl.localTarget ∧
    (deliver b f s).osl.tidal = s.osl.tidal ∧
    (deliver b f s).stm.ringU = s.stm.ringU ∧
    (deliver b f s).stm.ringD = s.stm.ringD ∧
    (deliver b f s).stm.tidal = s.stm.tidal ∧
    (deliver b f s).stm.confirmRun = s.stm.confirmRun ∧
    (deliver b f s).stm.surgeRun = s.stm.surgeRun ∧
    (deliver b f s).mtc.left = s.mtc.left ∧
    (deliver b f s).mtc.right = s.mtc.right := by
  unfold deliver
  repeat' (first | split | dsimp only)
  all_goals simp [*]

@[simp] theorem receiveFrame_fields (f : RawFrame) (s : State) :
    (receiveFrame f s).clu.freshTaken = s.clu.freshTaken ∧
    (receiveFrame f s).osl.floor = s.osl.floor ∧
    (receiveFrame f s).osl.localTarget = s.osl.localTarget ∧
    (receiveFrame f s).osl.tidal = s.osl.tidal ∧
    (receiveFrame f s).stm.ringU = s.stm.ringU ∧
    (receiveFrame f s).stm.ringD = s.stm.ringD ∧
    (receiveFrame f s).stm.tidal = s.stm.tidal ∧
    (receiveFrame f s).stm.confirmRun = s.stm.confirmRun ∧
    (receiveFrame f s).stm.surgeRun = s.stm.surgeRun ∧
    (receiveFrame f s).mtc.left = s.mtc.left ∧
    (receiveFrame f s).mtc.right = s.mtc.right ∧
    (receiveFrame f s).fmn.hold = s.fmn.hold ∧
    (receiveFrame f s).fmn.supplyLow = s.fmn.supplyLow ∧
    (receiveFrame f s).fmn.lineOff = s.fmn.lineOff ∧
    (receiveFrame f s).fmn.good = s.fmn.good := by
  unfold receiveFrame
  repeat' (first | split | dsimp only)
  all_goals simp [*]

@[simp] theorem ownStatusA_fields (c : StatusA) (s : State) :
    (ownStatusA c s).lif.line = s.lif.line ∧
    (ownStatusA c s).lif.failures = s.lif.failures ∧
    (ownStatusA c s).lif.offTimer = s.lif.offTimer ∧
    (ownStatusA c s).lif.sinceStatusB = s.lif.sinceStatusB ∧
    (ownStatusA c s).lif.repeatTimer = s.lif.repeatTimer ∧
    (ownStatusA c s).lif.surgeSlot = s.lif.surgeSlot ∧
    (ownStatusA c s).lif.orderSlot = s.lif.orderSlot ∧
    (ownStatusA c s).ptb.listen = s.ptb.listen := by
  unfold ownStatusA
  repeat' (first | split | dsimp only)
  all_goals simp [*]

@[simp] theorem takeOwnFrame_fields (f : Frame) (s : State) :
    (takeOwnFrame f s).ptb.listen = s.ptb.listen ∧
    (takeOwnFrame f s).osl.floor = s.osl.floor ∧
    (takeOwnFrame f s).osl.localTarget = s.osl.localTarget ∧
    (takeOwnFrame f s).osl.tidal = s.osl.tidal ∧
    (takeOwnFrame f s).stm.ringU = s.stm.ringU ∧
    (takeOwnFrame f s).stm.ringD = s.stm.ringD ∧
    (takeOwnFrame f s).stm.tidal = s.stm.tidal ∧
    (takeOwnFrame f s).stm.confirmRun = s.stm.confirmRun ∧
    (takeOwnFrame f s).stm.surgeRun = s.stm.surgeRun ∧
    (takeOwnFrame f s).stm.sourceU = s.stm.sourceU ∧
    (takeOwnFrame f s).stm.sourceD = s.stm.sourceD ∧
    (takeOwnFrame f s).stm.settled = s.stm.settled ∧
    (takeOwnFrame f s).stm.settle = s.stm.settle ∧
    (takeOwnFrame f s).mtc.left = s.mtc.left ∧
    (takeOwnFrame f s).mtc.right = s.mtc.right := by
  unfold takeOwnFrame
  repeat' (first | split | dsimp only)
  all_goals simp [*]

@[simp] theorem lineOn_fields (s : State) :
    (lineOn s).lif.failures = s.lif.failures ∧
    (lineOn s).lif.offTimer = s.lif.offTimer ∧
    (lineOn s).lif.sinceStatusA = s.lif.sinceStatusA ∧
    (lineOn s).lif.sinceStatusB = s.lif.sinceStatusB ∧
    (lineOn s).lif.repeatTimer = s.lif.repeatTimer ∧
    (lineOn s).lif.surgeSlot = s.lif.surgeSlot ∧
    (lineOn s).lif.orderSlot = s.lif.orderSlot ∧
    (lineOn s).clu.freshTaken = s.clu.freshTaken ∧
    (lineOn s).fmn.hold = s.fmn.hold ∧
    (lineOn s).fmn.supplyLow = s.fmn.supplyLow ∧
    (lineOn s).fmn.good = s.fmn.good := by
  unfold lineOn
  repeat' (first | split | dsimp only)
  all_goals simp [*]

@[simp] theorem goOff_fields (s : State) :
    (goOff s).clu.number = s.clu.number ∧
    (goOff s).clu.freshTaken = s.clu.freshTaken ∧
    (goOff s).mtc.left = s.mtc.left ∧
    (goOff s).mtc.right = s.mtc.right ∧
    (goOff s).fmn.hold = s.fmn.hold ∧
    (goOff s).fmn.supplyLow = s.fmn.supplyLow ∧
    (goOff s).fmn.good = s.fmn.good := by
  unfold goOff
  repeat' (first | split | dsimp only)
  all_goals simp [*]

@[simp] theorem failAttempt_fields (s : State) :
    (failAttempt s).clu.number = s.clu.number ∧
    (failAttempt s).clu.freshTaken = s.clu.freshTaken ∧
    (failAttempt s).mtc.left = s.mtc.left ∧
    (failAttempt s).mtc.right = s.mtc.right ∧
    (failAttempt s).fmn.hold = s.fmn.hold ∧
    (failAttempt s).fmn.supplyLow = s.fmn.supplyLow ∧
    (failAttempt s).fmn.good = s.fmn.good := by
  unfold failAttempt
  repeat' (first | split | dsimp only)
  all_goals simp [*]

@[simp] theorem startStatuses_fields (s : State) :
    (startStatuses s).lif.line = s.lif.line ∧
    (startStatuses s).lif.failures = s.lif.failures ∧
    (startStatuses s).lif.offTimer = s.lif.offTimer ∧
    (startStatuses s).lif.repeatTimer = s.lif.repeatTimer ∧
    (startStatuses s).lif.surgeSlot = s.lif.surgeSlot ∧
    (startStatuses s).lif.orderSlot = s.lif.orderSlot := by
  unfold startStatuses
  repeat' (first | split | dsimp only)
  all_goals simp [*]

@[simp] theorem reportIf_fields (p : Bool) (c : Cause) (s : State) :
    (reportIf p c s).clu.number = s.clu.number ∧
    (reportIf p c s).clu.freshTaken = s.clu.freshTaken ∧
    (reportIf p c s).osl.floor = s.osl.floor ∧
    (reportIf p c s).osl.localTarget = s.osl.localTarget ∧
    (reportIf p c s).osl.weirTarget = s.osl.weirTarget ∧
    (reportIf p c s).osl.surge = s.osl.surge ∧
    (reportIf p c s).osl.tidal = s.osl.tidal ∧
    (reportIf p c s).mtc.left = s.mtc.left ∧
    (reportIf p c s).mtc.right = s.mtc.right ∧
    (reportIf p c s).fmn.hold = s.fmn.hold ∧
    (reportIf p c s).fmn.supplyLow = s.fmn.supplyLow ∧
    (reportIf p c s).fmn.lineOff = s.fmn.lineOff ∧
    (reportIf p c s).fmn.good = s.fmn.good := by
  unfold reportIf
  repeat' (first | split | dsimp only)
  all_goals simp [*]

@[simp] theorem readEncoders_fields (l r : EncoderRead) (s : State) :
    (readEncoders l r s).clu.number = s.clu.number ∧
    (readEncoders l r s).clu.freshTaken = s.clu.freshTaken ∧
    (readEncoders l r s).osl.floor = s.osl.floor ∧
    (readEncoders l r s).osl.localTarget = s.osl.localTarget ∧
    (readEncoders l r s).osl.weirTarget = s.osl.weirTarget ∧
    (readEncoders l r s).osl.surge = s.osl.surge ∧
    (readEncoders l r s).osl.tidal = s.osl.tidal ∧
    (readEncoders l r s).fmn.hold = s.fmn.hold ∧
    (readEncoders l r s).fmn.supplyLow = s.fmn.supplyLow ∧
    (readEncoders l r s).fmn.lineOff = s.fmn.lineOff ∧
    (readEncoders l r s).fmn.good = s.fmn.good := by
  unfold readEncoders
  repeat' (first | split | dsimp only)
  all_goals simp [*]

@[simp] theorem overtravelTest_fields (s : State) :
    (overtravelTest s).clu.number = s.clu.number ∧
    (overtravelTest s).clu.freshTaken = s.clu.freshTaken ∧
    (overtravelTest s).osl.floor = s.osl.floor ∧
    (overtravelTest s).osl.localTarget = s.osl.localTarget ∧
    (overtravelTest s).osl.weirTarget = s.osl.weirTarget ∧
    (overtravelTest s).osl.surge = s.osl.surge ∧
    (overtravelTest s).osl.tidal = s.osl.tidal ∧
    (overtravelTest s).mtc.left = s.mtc.left ∧
    (overtravelTest s).mtc.right = s.mtc.right ∧
    (overtravelTest s).fmn.hold = s.fmn.hold ∧
    (overtravelTest s).fmn.supplyLow = s.fmn.supplyLow ∧
    (overtravelTest s).fmn.lineOff = s.fmn.lineOff ∧
    (overtravelTest s).fmn.good = s.fmn.good := by
  unfold overtravelTest
  repeat' (first | split | dsimp only)
  all_goals simp [*]

@[simp] theorem skewTripTest_fields (s : State) :
    (skewTripTest s).clu.number = s.clu.number ∧
    (skewTripTest s).clu.freshTaken = s.clu.freshTaken ∧
    (skewTripTest s).osl.floor = s.osl.floor ∧
    (skewTripTest s).osl.localTarget = s.osl.localTarget ∧
    (skewTripTest s).osl.weirTarget = s.osl.weirTarget ∧
    (skewTripTest s).osl.surge = s.osl.surge ∧
    (skewTripTest s).osl.tidal = s.osl.tidal ∧
    (skewTripTest s).mtc.left = s.mtc.left ∧
    (skewTripTest s).mtc.right = s.mtc.right ∧
    (skewTripTest s).fmn.hold = s.fmn.hold ∧
    (skewTripTest s).fmn.supplyLow = s.fmn.supplyLow ∧
    (skewTripTest s).fmn.lineOff = s.fmn.lineOff ∧
    (skewTripTest s).fmn.good = s.fmn.good := by
  unfold skewTripTest
  repeat' (first | split | dsimp only)
  all_goals simp [*]

@[simp] theorem advanceSetpoint_fields (s : State) :
    (advanceSetpoint s).clu.number = s.clu.number ∧
    (advanceSetpoint s).clu.freshTaken = s.clu.freshTaken := by
  unfold advanceSetpoint
  repeat' (first | split | dsimp only)
  all_goals simp [*]

@[simp] theorem computeDrives_fields (s : State) :
    (computeDrives s).mtc.left = s.mtc.left ∧
    (computeDrives s).mtc.right = s.mtc.right := by
  unfold computeDrives
  repeat' (first | split | dsimp only)
  all_goals simp [*]

@[simp] theorem updateStalls_fields (s : State) :
    (updateStalls s).clu.number = s.clu.number ∧
    (updateStalls s).clu.freshTaken = s.clu.freshTaken ∧
    (updateStalls s).osl.floor = s.osl.floor ∧
    (updateStalls s).osl.localTarget = s.osl.localTarget ∧
    (updateStalls s).osl.weirTarget = s.osl.weirTarget ∧
    (updateStalls s).osl.surge = s.osl.surge ∧
    (updateStalls s).osl.tidal = s.osl.tidal ∧
    (updateStalls s).mtc.left = s.mtc.left ∧
    (updateStalls s).mtc.right = s.mtc.right ∧
    (updateStalls s).fmn.hold = s.fmn.hold ∧
    (updateStalls s).fmn.supplyLow = s.fmn.supplyLow ∧
    (updateStalls s).fmn.lineOff = s.fmn.lineOff ∧
    (updateStalls s).fmn.good = s.fmn.good := by
  unfold updateStalls
  repeat' (first | split | dsimp only)
  all_goals simp [*]

@[simp] theorem settleStep_fields (s : State) :
    (settleStep s).clu.freshTaken = s.clu.freshTaken ∧
    (settleStep s).mtc.left = s.mtc.left ∧
    (settleStep s).mtc.right = s.mtc.right := by
  unfold settleStep
  repeat' (first | split | dsimp only)
  all_goals simp [*]

@[simp] theorem settleAndTrim_fields (settling : Bool) (s : State) :
    (settleAndTrim settling s).clu.freshTaken = s.clu.freshTaken ∧
    (settleAndTrim settling s).mtc.left = s.mtc.left ∧
    (settleAndTrim settling s).mtc.right = s.mtc.right := by
  unfold settleAndTrim
  repeat' (first | split | dsimp only)
  all_goals simp [*]

@[simp] theorem leaveFaultStop_fields (s : State) :
    (leaveFaultStop s).clu.freshTaken = s.clu.freshTaken ∧
    (leaveFaultStop s).mtc.left = s.mtc.left ∧
    (leaveFaultStop s).mtc.right = s.mtc.right := by
  unfold leaveFaultStop
  repeat' (first | split | dsimp only)
  all_goals simp [*]

@[simp] theorem awaitRest_fields (s : State) :
    (awaitRest s).osl.floor = s.osl.floor ∧
    (awaitRest s).osl.localTarget = s.osl.localTarget ∧
    (awaitRest s).osl.weirTarget = s.osl.weirTarget ∧
    (awaitRest s).osl.surge = s.osl.surge ∧
    (awaitRest s).osl.tidal = s.osl.tidal := by
  unfold awaitRest
  repeat' (first | split | dsimp only)
  all_goals simp [*]

@[simp] theorem firstStroke_fields (before : Option Nat) (s : State) :
    (firstStroke before s).mtc.left = s.mtc.left ∧
    (firstStroke before s).mtc.right = s.mtc.right := by
  unfold firstStroke
  repeat' (first | split | dsimp only)
  all_goals simp [*]

@[simp] theorem openingTest_fields (s : State) :
    (openingTest s).lif.line = s.lif.line ∧
    (openingTest s).lif.failures = s.lif.failures ∧
    (openingTest s).lif.offTimer = s.lif.offTimer ∧
    (openingTest s).lif.sinceStatusA = s.lif.sinceStatusA ∧
    (openingTest s).lif.sinceStatusB = s.lif.sinceStatusB ∧
    (openingTest s).lif.repeatTimer = s.lif.repeatTimer ∧
    (openingTest s).lif.surgeSlot = s.lif.surgeSlot ∧
    (openingTest s).lif.orderSlot = s.lif.orderSlot ∧
    (openingTest s).clu.freshTaken = s.clu.freshTaken := by
  unfold openingTest
  repeat' (first | split | dsimp only)
  all_goals simp [*]

@[simp] theorem sampleTests_fields (s : State) :
    (sampleTests s).clu.number = s.clu.number ∧
    (sampleTests s).clu.freshTaken = s.clu.freshTaken ∧
    (sampleTests s).osl.floor = s.osl.floor ∧
    (sampleTests s).osl.localTarget = s.osl.localTarget ∧
    (sampleTests s).osl.weirTarget = s.osl.weirTarget ∧
    (sampleTests s).osl.surge = s.osl.surge ∧
    (sampleTests s).osl.tidal = s.osl.tidal ∧
    (sampleTests s).fmn.hold = s.fmn.hold ∧
    (sampleTests s).fmn.supplyLow = s.fmn.supplyLow ∧
    (sampleTests s).fmn.lineOff = s.fmn.lineOff ∧
    (sampleTests s).fmn.good = s.fmn.good := by
  unfold sampleTests
  repeat' (first | split | dsimp only)
  all_goals simp [*]

@[simp] theorem sampleDrives_fields (s : State) :
    (sampleDrives s).clu.number = s.clu.number ∧
    (sampleDrives s).clu.freshTaken = s.clu.freshTaken ∧
    (sampleDrives s).osl.floor = s.osl.floor ∧
    (sampleDrives s).osl.localTarget = s.osl.localTarget ∧
    (sampleDrives s).osl.weirTarget = s.osl.weirTarget ∧
    (sampleDrives s).osl.surge = s.osl.surge ∧
    (sampleDrives s).osl.tidal = s.osl.tidal ∧
    (sampleDrives s).fmn.hold = s.fmn.hold ∧
    (sampleDrives s).fmn.supplyLow = s.fmn.supplyLow ∧
    (sampleDrives s).fmn.lineOff = s.fmn.lineOff ∧
    (sampleDrives s).fmn.good = s.fmn.good := by
  unfold sampleDrives
  repeat' (first | split | dsimp only)
  all_goals simp [*]

@[simp] theorem sampleSteps_fields (s : State) :
    (sampleSteps s).clu.freshTaken = s.clu.freshTaken ∧
    (sampleSteps s).osl.floor = s.osl.floor ∧
    (sampleSteps s).osl.localTarget = s.osl.localTarget ∧
    (sampleSteps s).osl.weirTarget = s.osl.weirTarget ∧
    (sampleSteps s).osl.surge = s.osl.surge ∧
    (sampleSteps s).osl.tidal = s.osl.tidal ∧
    (sampleSteps s).fmn.hold = s.fmn.hold ∧
    (sampleSteps s).fmn.supplyLow = s.fmn.supplyLow ∧
    (sampleSteps s).fmn.lineOff = s.fmn.lineOff ∧
    (sampleSteps s).fmn.good = s.fmn.good := by
  unfold sampleSteps
  repeat' (first | split | dsimp only)
  all_goals simp [*]

@[simp] theorem sample_fields (l r : EncoderRead) (s : State) :
    (sample l r s).clu.freshTaken = s.clu.freshTaken ∧
    (sample l r s).osl.floor = s.osl.floor ∧
    (sample l r s).osl.localTarget = s.osl.localTarget ∧
    (sample l r s).osl.weirTarget = s.osl.weirTarget ∧
    (sample l r s).osl.surge = s.osl.surge ∧
    (sample l r s).osl.tidal = s.osl.tidal ∧
    (sample l r s).fmn.hold = s.fmn.hold ∧
    (sample l r s).fmn.supplyLow = s.fmn.supplyLow ∧
    (sample l r s).fmn.lineOff = s.fmn.lineOff ∧
    (sample l r s).fmn.good = s.fmn.good := by
  unfold sample
  repeat' (first | split | dsimp only)
  all_goals simp [*]

@[simp] theorem writeRings_fields (u d : BitVec 12) (s : State) :
    (writeRings u d s).stm.tidal = s.stm.tidal ∧
    (writeRings u d s).stm.confirmRun = s.stm.confirmRun ∧
    (writeRings u d s).stm.surgeRun = s.stm.surgeRun ∧
    (writeRings u d s).stm.sourceU = s.stm.sourceU ∧
    (writeRings u d s).stm.sourceD = s.stm.sourceD ∧
    (writeRings u d s).stm.settled = s.stm.settled ∧
    (writeRings u d s).stm.settle = s.stm.settle ∧
    (writeRings u d s).stm.epoch = s.stm.epoch := by
  unfold writeRings
  repeat' (first | split | dsimp only)
  all_goals simp [*]

@[simp] theorem surgeStep_fields (s : State) :
    (surgeStep s).clu.freshTaken = s.clu.freshTaken ∧
    (surgeStep s).osl.floor = s.osl.floor ∧
    (surgeStep s).osl.localTarget = s.osl.localTarget ∧
    (surgeStep s).osl.weirTarget = s.osl.weirTarget ∧
    (surgeStep s).osl.tidal = s.osl.tidal ∧
    (surgeStep s).stm.ringU = s.stm.ringU ∧
    (surgeStep s).stm.ringD = s.stm.ringD ∧
    (surgeStep s).stm.tidal = s.stm.tidal ∧
    (surgeStep s).stm.confirmRun = s.stm.confirmRun ∧
    (surgeStep s).stm.sourceU = s.stm.sourceU ∧
    (surgeStep s).stm.sourceD = s.stm.sourceD ∧
    (surgeStep s).stm.settled = s.stm.settled ∧
    (surgeStep s).stm.settle = s.stm.settle ∧
    (surgeStep s).mtc.left = s.mtc.left ∧
    (surgeStep s).mtc.right = s.mtc.right := by
  unfold surgeStep
  repeat' (first | split | dsimp only)
  all_goals simp [*]

@[simp] theorem changeTide_fields (t : Tidal) (s : State) :
    (changeTide t s).clu.freshTaken = s.clu.freshTaken ∧
    (changeTide t s).osl.floor = s.osl.floor ∧
    (changeTide t s).osl.localTarget = s.osl.localTarget ∧
    (changeTide t s).osl.weirTarget = s.osl.weirTarget ∧
    (changeTide t s).osl.surge = s.osl.surge ∧
    (changeTide t s).stm.ringU = s.stm.ringU ∧
    (changeTide t s).stm.ringD = s.stm.ringD ∧
    (changeTide t s).stm.surgeRun = s.stm.surgeRun ∧
    (changeTide t s).stm.sourceU = s.stm.sourceU ∧
    (changeTide t s).stm.sourceD = s.stm.sourceD ∧
    (changeTide t s).stm.settled = s.stm.settled ∧
    (changeTide t s).stm.settle = s.stm.settle ∧
    (changeTide t s).stm.epoch = s.stm.epoch ∧
    (changeTide t s).mtc.left = s.mtc.left ∧
    (changeTide t s).mtc.right = s.mtc.right := by
  unfold changeTide
  repeat' (first | split | dsimp only)
  all_goals simp [*]

@[simp] theorem tidalRules_fields (head : Int) (s : State) :
    (tidalRules head s).clu.freshTaken = s.clu.freshTaken ∧
    (tidalRules head s).osl.floor = s.osl.floor ∧
    (tidalRules head s).osl.localTarget = s.osl.localTarget ∧
    (tidalRules head s).osl.weirTarget = s.osl.weirTarget ∧
    (tidalRules head s).osl.surge = s.osl.surge ∧
    (tidalRules head s).stm.ringU = s.stm.ringU ∧
    (tidalRules head s).stm.ringD = s.stm.ringD ∧
    (tidalRules head s).stm.surgeRun = s.stm.surgeRun ∧
    (tidalRules head s).stm.sourceU = s.stm.sourceU ∧
    (tidalRules head s).stm.sourceD = s.stm.sourceD ∧
    (tidalRules head s).stm.settled = s.stm.settled ∧
    (tidalRules head s).stm.settle = s.stm.settle ∧
    (tidalRules head s).stm.epoch = s.stm.epoch ∧
    (tidalRules head s).mtc.left = s.mtc.left ∧
    (tidalRules head s).mtc.right = s.mtc.right := by
  unfold tidalRules
  repeat' (first | split | dsimp only)
  all_goals simp [*]

@[simp] theorem tidalStep_fields (s : State) :
    (tidalStep s).clu.freshTaken = s.clu.freshTaken ∧
    (tidalStep s).osl.floor = s.osl.floor ∧
    (tidalStep s).osl.localTarget = s.osl.localTarget ∧
    (tidalStep s).osl.weirTarget = s.osl.weirTarget ∧
    (tidalStep s).osl.surge = s.osl.surge ∧
    (tidalStep s).stm.ringU = s.stm.ringU ∧
    (tidalStep s).stm.ringD = s.stm.ringD ∧
    (tidalStep s).stm.surgeRun = s.stm.surgeRun ∧
    (tidalStep s).stm.sourceU = s.stm.sourceU ∧
    (tidalStep s).stm.sourceD = s.stm.sourceD ∧
    (tidalStep s).stm.settled = s.stm.settled ∧
    (tidalStep s).stm.settle = s.stm.settle ∧
    (tidalStep s).stm.epoch = s.stm.epoch ∧
    (tidalStep s).mtc.left = s.mtc.left ∧
    (tidalStep s).mtc.right = s.mtc.right := by
  unfold tidalStep
  repeat' (first | split | dsimp only)
  all_goals simp [*]

@[simp] theorem validityStep_fields (before : Stm) (s : State) :
    (validityStep before s).stm.ringU = s.stm.ringU ∧
    (validityStep before s).stm.ringD = s.stm.ringD ∧
    (validityStep before s).stm.tidal = s.stm.tidal ∧
    (validityStep before s).stm.confirmRun = s.stm.confirmRun ∧
    (validityStep before s).stm.surgeRun = s.stm.surgeRun ∧
    (validityStep before s).stm.settled = s.stm.settled ∧
    (validityStep before s).stm.settle = s.stm.settle ∧
    (validityStep before s).stm.epoch = s.stm.epoch := by
  unfold validityStep
  repeat' (first | split | dsimp only)
  all_goals simp [*]

@[simp] theorem stageSample_fields (u d : BitVec 12) (s : State) :
    (stageSample u d s).clu.freshTaken = s.clu.freshTaken ∧
    (stageSample u d s).osl.floor = s.osl.floor ∧
    (stageSample u d s).osl.localTarget = s.osl.localTarget ∧
    (stageSample u d s).osl.weirTarget = s.osl.weirTarget ∧
    (stageSample u d s).stm.settled = s.stm.settled ∧
    (stageSample u d s).stm.settle = s.stm.settle ∧
    (stageSample u d s).mtc.left = s.mtc.left ∧
    (stageSample u d s).mtc.right = s.mtc.right := by
  unfold stageSample
  repeat' (first | split | dsimp only)
  all_goals simp [*]

@[simp] theorem startConditions_fields (s : State) :
    (startConditions s).clu.number = s.clu.number ∧
    (startConditions s).clu.freshTaken = s.clu.freshTaken ∧
    (startConditions s).osl.floor = s.osl.floor ∧
    (startConditions s).osl.localTarget = s.osl.localTarget ∧
    (startConditions s).osl.weirTarget = s.osl.weirTarget ∧
    (startConditions s).osl.surge = s.osl.surge ∧
    (startConditions s).osl.tidal = s.osl.tidal ∧
    (startConditions s).mtc.left = s.mtc.left ∧
    (startConditions s).mtc.right = s.mtc.right ∧
    (startConditions s).fmn.lineOff = s.fmn.lineOff ∧
    (startConditions s).fmn.good = s.fmn.good := by
  unfold startConditions
  repeat' (first | split | dsimp only)
  all_goals simp [*]

@[simp] theorem startStage_fields (s : State) :
    (startStage s).clu.freshTaken = s.clu.freshTaken ∧
    (startStage s).osl.floor = s.osl.floor ∧
    (startStage s).osl.localTarget = s.osl.localTarget ∧
    (startStage s).osl.weirTarget = s.osl.weirTarget ∧
    (startStage s).osl.tidal = s.osl.tidal ∧
    (startStage s).stm.ringU = s.stm.ringU ∧
    (startStage s).stm.ringD = s.stm.ringD ∧
    (startStage s).stm.tidal = s.stm.tidal ∧
    (startStage s).stm.confirmRun = s.stm.confirmRun ∧
    (startStage s).stm.surgeRun = s.stm.surgeRun ∧
    (startStage s).stm.sourceU = s.stm.sourceU ∧
    (startStage s).stm.sourceD = s.stm.sourceD ∧
    (startStage s).stm.settled = s.stm.settled ∧
    (startStage s).mtc.left = s.mtc.left ∧
    (startStage s).mtc.right = s.mtc.right := by
  unfold startStage
  repeat' (first | split | dsimp only)
  all_goals simp [*]

@[simp] theorem answerCommand_fields (code : Byte) (a : Answer) (clamped : Bool) (s : State) :
    (answerCommand code a clamped s).lpt.operand0 = s.lpt.operand0 ∧
    (answerCommand code a clamped s).lpt.operand1 = s.lpt.operand1 ∧
    (answerCommand code a clamped s).lpt.resetCause = s.lpt.resetCause := by
  unfold answerCommand
  repeat' (first | split | dsimp only)
  all_goals simp [*]

@[simp] theorem latchCommand_fields (code b : Byte) (s : State) :
    (latchCommand code b s).lpt.operand0 = s.lpt.operand0 ∧
    (latchCommand code b s).lpt.operand1 = s.lpt.operand1 ∧
    (latchCommand code b s).lpt.resetCause = s.lpt.resetCause := by
  unfold latchCommand
  repeat' (first | split | dsimp only)
  all_goals simp [*]

@[simp] theorem beginTrim_fields (t : Trim) (s : State) :
    (beginTrim t s).mtc.left = s.mtc.left ∧
    (beginTrim t s).mtc.right = s.mtc.right := by
  unfold beginTrim
  repeat' (first | split | dsimp only)
  all_goals simp [*]

@[simp] theorem enterCommissioning_fields (b : Byte) (s : State) :
    (enterCommissioning b s).clu.number = s.clu.number ∧
    (enterCommissioning b s).clu.freshTaken = s.clu.freshTaken ∧
    (enterCommissioning b s).osl.floor = s.osl.floor ∧
    (enterCommissioning b s).osl.localTarget = s.osl.localTarget ∧
    (enterCommissioning b s).osl.weirTarget = s.osl.weirTarget ∧
    (enterCommissioning b s).osl.surge = s.osl.surge ∧
    (enterCommissioning b s).osl.tidal = s.osl.tidal ∧
    (enterCommissioning b s).mtc.left = s.mtc.left ∧
    (enterCommissioning b s).mtc.right = s.mtc.right ∧
    (enterCommissioning b s).cfs.working = s.cfs.working ∧
    (enterCommissioning b s).cfs.out = s.cfs.out ∧
    (enterCommissioning b s).cfs.store = s.cfs.store ∧
    (enterCommissioning b s).cfs.writeMark = s.cfs.writeMark := by
  unfold enterCommissioning
  repeat' (first | split | dsimp only)
  all_goals simp [*]

@[simp] theorem completeStore_fields (s : State) :
    (completeStore s).lpt.operand0 = s.lpt.operand0 ∧
    (completeStore s).lpt.operand1 = s.lpt.operand1 ∧
    (completeStore s).lpt.resetCause = s.lpt.resetCause ∧
    (completeStore s).cfs.working = s.cfs.working ∧
    (completeStore s).cfs.out = s.cfs.out := by
  unfold completeStore
  repeat' (first | split | dsimp only)
  all_goals simp [*]

@[simp] theorem leaveCommissioning_fields (s : State) :
    (leaveCommissioning s).clu.freshTaken = s.clu.freshTaken ∧
    (leaveCommissioning s).osl.floor = s.osl.floor ∧
    (leaveCommissioning s).osl.localTarget = s.osl.localTarget ∧
    (leaveCommissioning s).osl.weirTarget = s.osl.weirTarget ∧
    (leaveCommissioning s).osl.surge = s.osl.surge ∧
    (leaveCommissioning s).osl.tidal = s.osl.tidal ∧
    (leaveCommissioning s).mtc.left = s.mtc.left ∧
    (leaveCommissioning s).mtc.right = s.mtc.right ∧
    (leaveCommissioning s).cfs.working = s.cfs.working ∧
    (leaveCommissioning s).cfs.out = s.cfs.out ∧
    (leaveCommissioning s).cfs.store = s.cfs.store ∧
    (leaveCommissioning s).cfs.writeMark = s.cfs.writeMark := by
  unfold leaveCommissioning
  repeat' (first | split | dsimp only)
  all_goals simp [*]

end Sys2Proof.Machine
end

