-- ==== Sys2Proof/Laws/Ops.lean ====
section
/-! SUPPORT. What the shared operations do, said once each: the peer table read after a change, the
selection and the service state after a re-selection, the claim test, the closure test, the outputs on
entry to a motion state, a bit of the local port, and the answer to a command. -/

namespace Sys2Proof.Machine

/-! ## The peer table -/

/-- A change that keeps the bay numbers is read back at its own bay, and no other entry changes. -/
theorem entry_updateEntry (s : State) (b k : Nat) (f : Entry → Entry) (hf : ∀ e, (f e).bay = e.bay) :
    (s.updateEntry b f).entry k = if k = b then (s.entry k).map f else s.entry k := by
  simp only [State.updateEntry, State.entry, State.setPtb]
  induction s.ptb.entries with
  | nil => simp
  | cons e l ih =>
    simp only [List.map_cons, List.find?_cons]
    have hb : (if e.bay = b then f e else e).bay = e.bay := by split <;> simp [hf]
    by_cases hk : e.bay = k
    · by_cases h : e.bay = b <;> simp_all
    · have hk' : (e.bay == k) = false := by simp [hk]
      simp [hb, hk', ih]

/-- Everything PEER_LAPSE can do (R21): nothing, or the lapse of a LIVE entry of another bay whose age has
reached PEER_TIMEOUT. -/
theorem execPeerLapse_cases {b : Nat} {s t : State} (h : execPeerLapse b s = .next t) :
    t = s ∨ (s.mayLapse b = true ∧ s.ageReached b = true ∧ t = chooseSources (shareReport
      (setAttention .peerLapse (countEvent .peerLapse
        (s.updateEntry b fun e => { e with presence := .lapsed }))))) := by
  simp only [execPeerLapse, Host.Outcome.next.injEq] at h
  split at h
  · next hc =>
    simp only [Bool.and_eq_true] at hc
    exact .inr ⟨hc.1, hc.2, h.symm⟩
  · exact .inl h.symm

/-- The bays of the table never change. -/
theorem bays_updateEntry (s : State) (b : Nat) (f : Entry → Entry) (hf : ∀ e, (f e).bay = e.bay) :
    (s.updateEntry b f).ptb.entries.map (fun e => e.bay) = s.ptb.entries.map (fun e => e.bay) := by
  simp only [State.updateEntry, State.setPtb, List.map_map]
  exact List.map_congr_left fun e _ => by simp only [Function.comp]; split <;> simp [hf]

/-! ## Selection and service state -/

/-- The service state rests on the configuration, FMN, the listen period and the selected slot. -/
theorem serviceNow_congr {s t : State} (h1 : t.cfs = s.cfs) (h2 : t.fmn = s.fmn)
    (h3 : t.ptb.listen = s.ptb.listen) (h4 : t.osl.selected = s.osl.selected) :
    t.serviceNow = s.serviceNow := by
  simp [State.serviceNow, State.faultLatched, State.commissioning, h1, h2, h3, h4]

/-- Outside OUT the slot levels are those of the working copy; in OUT the defaults (R85, R190). -/
@[simp] theorem levels_of_running {s : State} (h : s.cfs.out = false) : s.levels = s.cfs.working := by
  simp [State.levels, h]

@[simp] theorem levels_of_out {s : State} (h : s.cfs.out = true) : s.levels = defaultWords := by
  simp [State.levels, h]

/-- After an evaluation the service state is the one of R95. -/
@[simp] theorem evalService_service (s : State) : (evalService s).osl.service = s.serviceNow := by
  unfold evalService; split <;> simp_all

@[simp] theorem evalService_selected (s : State) :
    (evalService s).osl.selected = s.osl.selected := by
  unfold evalService; split <;> simp_all

@[simp] theorem evalService_serviceNow (s : State) : (evalService s).serviceNow = s.serviceNow :=
  serviceNow_congr (by simp) (by simp) (by simp) (by simp)

/-- An attention cause becomes set and the others stay (R206). -/
@[simp] theorem setAttention_causes (c : AttnCause) (s : State) :
    (setAttention c s).act.causes = s.act.causes ||| c.mask := rfl

/-- Every attention cause that becomes set leaves ATTN as R207 has it. -/
@[simp] theorem setAttention_attn (c : AttnCause) (s : State) :
    (setAttention c s).act.attn = attnOf (s.act.causes ||| c.mask) s.act.mask := rfl

/-! ## The claim -/

/-- The claim test does nothing in OUT or while a claim is in progress. -/
theorem testClaim_eq_self {s : State} (h : s.cfs.out = true ∨ s.clu.state ≠ .still) :
    testClaim s = s := by
  simp [testClaim, h]

/-- The claim test makes a claim exactly from the present opening to the stride end. -/
theorem testClaim_makes {s : State} {p t : Nat} (h0 : s.cfs.out = false) (h1 : s.clu.state = .still)
    (h2 : s.claimConditions = true) (h3 : s.strideEnd = some t) (h4 : s.opening = some p) :
    testClaim s = makeClaim p t (s.setClu { s.clu with lastTest := s.opening }) := by
  simp [testClaim, h0, h1, h2, h3, h4]

/-! ## Motion -/

/-- The outputs on entry to a state and phase are those of R139. -/
@[simp] theorem Mtc.enter_outputs (m : Mtc) (st : Motion) (ph : Option Phase) :
    ((m.enter st ph).pump, (m.enter st ph).valve) = outputsOf st ph := rfl

/-- A drive that R139 gives as 0 is 0 on entry. -/
theorem Mtc.enter_drives {st : Motion} {ph : Option Phase} (m : Mtc) (h : loopsRun st ph = false) :
    (m.enter st ph).driveL = 0 ∧ (m.enter st ph).driveR = 0 := by
  simp [Mtc.enter, h]

/-- A latched fault makes a wanted closure wait (R143). -/
theorem closureTest_of_fault {s : State} (h : s.fmn.causes ≠ noCauses) : closureTest s = s := by
  simp [closureTest, State.closureMayBegin, State.faultLatched, CauseSet.isEmpty, h]

/-- The closure test does nothing while no closure is wanted (R143). -/
theorem closureTest_of_no_request {s : State} (h : s.mtc.closureRequest = false) :
    closureTest s = s := by
  simp [closureTest, State.closureMayBegin, h]

/-- Under a skew hold the settle count does not rise (R152). -/
theorem settleStep_of_hold {s : State} (h : s.mtc.skewHold = true) :
    settleStep s = if s.bothInBand then s else s.setMtc { s.mtc with settleCount := 0 } := by
  simp [settleStep, h]

/-! ## The local port -/

@[simp] theorem State.setTransaction_lpt (s : State) (t : Transaction) :
    (s.setTransaction t).lpt = { s.lpt with transaction := t } := rfl
@[simp] theorem State.setTransaction_lif (s : State) (t : Transaction) :
    (s.setTransaction t).lif = s.lif := rfl
@[simp] theorem State.setTransaction_ptb (s : State) (t : Transaction) :
    (s.setTransaction t).ptb = s.ptb := rfl
@[simp] theorem State.setTransaction_clu (s : State) (t : Transaction) :
    (s.setTransaction t).clu = s.clu := rfl
@[simp] theorem State.setTransaction_shu (s : State) (t : Transaction) :
    (s.setTransaction t).shu = s.shu := rfl
@[simp] theorem State.setTransaction_osl (s : State) (t : Transaction) :
    (s.setTransaction t).osl = s.osl := rfl
@[simp] theorem State.setTransaction_stm (s : State) (t : Transaction) :
    (s.setTransaction t).stm = s.stm := rfl
@[simp] theorem State.setTransaction_mtc (s : State) (t : Transaction) :
    (s.setTransaction t).mtc = s.mtc := rfl
@[simp] theorem State.setTransaction_fmn (s : State) (t : Transaction) :
    (s.setTransaction t).fmn = s.fmn := rfl
@[simp] theorem State.setTransaction_cfs (s : State) (t : Transaction) :
    (s.setTransaction t).cfs = s.cfs := rfl
@[simp] theorem State.setTransaction_act (s : State) (t : Transaction) :
    (s.setTransaction t).act = s.act := rfl
@[simp] theorem State.setTransaction_pins (s : State) (t : Transaction) :
    (s.setTransaction t).pins = s.pins := rfl
@[simp] theorem State.setTransaction_freeCount (s : State) (t : Transaction) :
    (s.setTransaction t).freeCount = s.freeCount := rfl
@[simp] theorem State.setTransaction_pending (s : State) (t : Transaction) :
    (s.setTransaction t).pending = s.pending := rfl

/-- One bit of a transaction changes the transaction, and puts at most one command into the queue (R182). -/
theorem portClock_frame (sdi : Bool) (l r : EncoderRead) (s : State) :
    ∃ t q, (State.portClock sdi l r s).2 = (s.setTransaction t).setPending q ∧
      (q = s.pending ∨ ∃ a w, q = s.pending ++ [instrOfWrite a w l r]) := by
  have self : s = (s.setTransaction s.lpt.transaction).setPending s.pending := rfl
  have other (t) : s.setTransaction t = (s.setTransaction t).setPending s.pending := rfl
  unfold State.portClock
  split
  · exact ⟨_, _, self, .inl rfl⟩
  · exact ⟨_, _, self, .inl rfl⟩
  · exact ⟨_, _, other _, .inl rfl⟩
  · dsimp only
    split
    · exact ⟨_, _, other _, .inl rfl⟩
    · exact ⟨_, _, rfl, .inr ⟨_, _, rfl⟩⟩
  · exact ⟨_, _, other _, .inl rfl⟩
  · exact ⟨_, _, other _, .inl rfl⟩

/-- A transaction that a reset has ended shifts out zeros and changes nothing (R199). -/
@[simp] theorem portClock_ended {sdi : Bool} {l r : EncoderRead} {s : State}
    (h : s.lpt.transaction = .ended) : State.portClock sdi l r s = (some false, s) := by
  simp [State.portClock, h]

/-! ## A store cut short -/

/-- With no store in progress a reset leaves the store and its mark (R199). -/
theorem cutStore_idle {n : Nat} {c : Cfs} (h : c.storeBusy = false) :
    cutStore n c = (c.store, c.writeMark) := by
  simp [cutStore, h]

/-- The check word is written only after all the other words (R194). -/
theorem cutWrote_check {n : Nat} (h : cutWrote n 52 = true) (k : Nat) (hk : k < 53) :
    cutWrote n k = true := by
  simp only [cutWrote, bne_self_eq_false, Bool.false_or, Bool.and_eq_true, List.all_eq_true,
    List.mem_range] at h ⊢
  rcases Nat.lt_succ_iff_lt_or_eq.mp hk with h52 | rfl
  · exact ⟨h.2 k h52, by simp [Nat.ne_of_lt h52]⟩
  · exact ⟨h.1, by simpa using h.2⟩

/-- Everything a reset can make of a store in progress (R195): nothing yet, all of it, or the mark set and some
of the words written. -/
theorem cutStore_cases {n : Nat} {c : Cfs} {w : Words} (hb : c.storeBusy = true)
    (hi : c.image = some w) :
    cutStore n c = (c.store, c.writeMark) ∨ cutStore n c = (storeWords w, false) ∨
    cutStore n c = ((List.range 53).map fun k =>
      if cutWrote n k then (storeWords w).getD k 0 else c.store.getD k 0, true) := by
  simp only [cutStore, hb, hi, if_true, Option.getD_some]
  split <;> simp

/-! ## Commands -/

/-- A word written to COMMAND is its code over its byte operand (R187). -/
theorem commandCode_append_commandByte (w : Word) : commandCode w ++ commandByte w = w := by
  unfold commandCode commandByte
  ext i hi
  simp only [BitVec.getElem_append, BitVec.getElem_extractLsb']
  split
  · simp [BitVec.getLsbD_eq_getElem hi]
  · rw [BitVec.getLsbD_eq_getElem (by omega)]
    congr 1
    omega

/-- While a store is in progress a command is answered REFUSED BUSY and reaches no block (R187). -/
theorem command_busy {s : State} (h : s.cfs.storeBusy = true) (code b : Byte)
    (owner : State → Reply) :
    command code b owner s = answerCommand code .refusedBusy false (latchCommand code b s) := by
  simp [command, latchCommand, h]

/-- Otherwise it is the owning block's to answer (R187). -/
theorem command_idle {s : State} (h : s.cfs.storeBusy = false) (code b : Byte)
    (owner : State → Reply) :
    command code b owner s =
      answerCommand code (owner (latchCommand code b s)).answer
        (owner (latchCommand code b s)).clamped (owner (latchCommand code b s)).state := by
  simp [command, latchCommand, h]

end Sys2Proof.Machine
end

