-- ==== Sys2Proof/Tests/Slice0.lean ====
section
/-! SUPPORT. Tests of the model on small states: the well-formedness smoke test, worked examples of the
spec's chapters, and, for every statement with hypotheses, a state that meets them. The expected results
are the spec's own figures; the source of each stands in its comment. -/

namespace Sys2Proof.Tests

open Sys2Proof Sys2Proof.Machine

/-! ## A weir of five bays (12.1), seen from one of them -/

/-- The configuration of a bay at the weir of 12.1. -/
def conf (own : Nat) : Words :=
  let d := (((defaultWords.set 0 (BitVec.ofNat 16 own)).set 1 1).set 2 5).set 4 600
  d.take 52 ++ [checkWord d]

/-- An entry of a LIVE bay that stands at 2000 mm. -/
def liveEntry (neighbour : Bool) (b : Nat) : Entry :=
  { entryReset b with
    presence := .live, age := 0, service := .idle, opening := some 2000,
    committed := some { lo := 2000, hi := 2000 },
    bound := if neighbour then some { lo := 2000, hi := 2000 } else none }

/-- A bay of that weir at 2000 mm (stroke 24750), its line ON, IDLE, its claim STILL. -/
def bay (own : Nat) : State :=
  { State.reset with
    lif := { lifReset with line := .on }
    ptb := { entries := (List.range 5).map fun i =>
               liveEntry (i + 2 == own || i == own) (i + 1), listen := none }
    clu := { cluReset with fresh := false, freshTaken := true, lastTest := some 2000 }
    osl := { oslReset .idle with restTarget := some 2000 }
    stm := { stmReset with settled := true }
    mtc := { mtcReset with
      left := { value := some 24750, invalidRun := 0, lastRead := .valid }
      right := { value := some 24750, invalidRun := 0, lastRead := .valid } }
    cfs := cfsAfter (conf own) false }

/-- Bay 3 of that weir. -/
def base : State := bay 3

/-- An encoder's answer with the right check bit. -/
def good (n : Nat) : EncoderRead :=
  .answer (BitVec.ofNat 16 n) (!evenParity (BitVec.ofNat 16 n) false)

/-- The state after one command. -/
def after (c : Instr) (s : State) : State :=
  match exec c s with
  | .next t => t
  | _ => s

/-- `s` with bay b's entry changed. -/
def withEntry (b : Nat) (f : Entry → Entry) (s : State) : State := s.updateEntry b f

/-- `s` with OPERAND0 and OPERAND1 written. -/
def withOps (x y : Word) (s : State) : State :=
  s.setLpt { s.lpt with operand0 := x, operand1 := y }

/-! ## Well-formedness -/

/-- One ill-formed command for each check. -/
def illFormed : List Instr :=
  let nine : List Byte := List.replicate 9 0
  [.attemptLostContention { id := 194, data := nine }, .frameDiscarded { id := 1, data := nine },
   .statusAFrame 2 nine, .statusBFrame 2 nine, .surgeFrame 2 nine, .verdictFrame 2 nine,
   .claimFrame 2 nine, .orderFrame 2 nine, .peerLapse 0, .peerLapse 33, .registerWrite 0x08 0,
   .registerWrite 0x0D 0, .unknownCommand 0x06 0, .unknownCommand 0x0B 0x31]

theorem test_illFormed_refused : illFormed.all (fun c => !c.wf) = true := by decide

theorem test_wellFormed_accepted :
    [Instr.claimFrame 2 (List.replicate 8 0), .peerLapse 1, .peerLapse 32, .registerWrite 0x09 0,
      .unknownCommand 0x0B 0x40, .unknownCommand 0x00 0].all (fun c => c.wf) = true := by decide

/-! ## Reading commands (R1, R182, R187, R205) -/

/-- The identifiers of 12.1 and R1: 198 is a CLAIM of bay 6, 71 a SURGE of bay 7, 135 a VERDICT of
bay 7. -/
theorem test_frame_identifiers :
    instrOfFrame { id := 198, data := [17, 7, 208, 9, 196] } =
      .claimFrame 6 [17, 7, 208, 9, 196] ∧
    parseFrame 1 32 { id := 198, data := [17, 7, 208, 9, 196] } =
      some (.claim { number := 17, start := 2000, stop := 2500 }) ∧
    instrOfFrame { id := 71, data := [9] } = .surgeFrame 7 [9] ∧
    instrOfFrame { id := 135, data := [6, 17, 0] } = .verdictFrame 7 [6, 17, 0] := by decide

/-- Words written to COMMAND: SET FLOOR 3, COUNTER CONTROL RELEASE, and an action of 4. -/
theorem test_command_words :
    instrOfWrite 0x08 0x0603 .noAnswer .noAnswer = .setFloor 3 ∧
    instrOfWrite 0x08 0x0B21 .noAnswer .noAnswer = .counterRelease 1 ∧
    instrOfWrite 0x08 0x0B40 .noAnswer .noAnswer = .unknownCommand 0x0B 0x40 ∧
    instrOfWrite 0x03 0x0001 .noAnswer .noAnswer = .attnCauseWrite 1 := by decide

/-- The table gives no row bits, so no word spells a command. -/
theorem test_no_table_word : decodeTableWord 16 0x0603 = none := rfl

/-! ## Worked examples of the spec -/

/-- The stamp examples after R67. -/
theorem test_stamps :
    stampNewer 3 4090 = true ∧ stampNewer 1 900 = false ∧ stampNewer 2148 100 = false := by decide

/-- The table after R125. -/
theorem test_forward :
    [24000, 24005, 26999, 27000, 2950, 42100].map (forward defaultWords) =
      [1900, 1900, 2299, 2300, 0, 4000] := by decide

/-- The table after R126. -/
theorem test_inverse :
    [1901, 2951, 1900, 0, 5200].map (inverse defaultWords) =
      [24008, 32509, 24000, 3000, 42000] := by decide

/-- The five worked cases of 4.5 (A less the non-members' openings; weights 60, 100, 100, 100, 60). -/
def members (l : List Nat) : List Member :=
  l.map fun b => { bay := b, weight := if b = 1 ∨ b = 5 then 60 else 100 }

theorem test_shares :
    computeShares 4000 (members [1, 2, 3, 5]) 7800 = [(1, 1463), (2, 2438), (3, 2437), (5, 1462)] ∧
    computeShares 4000 (members [1, 2, 3, 4, 5]) 17000 =
      [(1, 2500), (2, 4000), (3, 4000), (4, 4000), (5, 2500)] ∧
    (computeShares 4000 (members [1, 2, 3, 4, 5]) 25000).map (fun x => x.2) =
      [4000, 4000, 4000, 4000, 4000] ∧
    computeShares 4000 (members [1, 2, 3, 4, 5]) 1001 =
      [(1, 143), (2, 239), (3, 238), (4, 238), (5, 143)] := by decide

/-- The table after R102, on the default scaling. -/
theorem test_stages :
    let c := Param.scalingU defaultWords
    c.sampleOf 704 = .rejected ∧ c.sampleOf 3989 = .rejected ∧ c.sampleOf 2290 = .accepted 3000 ∧
    c.sampleOf 720 = .accepted (-2199) ∧ c.sampleOf 705 = .accepted (-2249) ∧
    c.sampleOf 3988 = .accepted 8622 := by decide

/-- The speeds of R145: v_max, and a at RAMP 32. -/
theorem test_speeds :
    vMax defaultWords .normal = 256 ∧ accel defaultWords .normal = 8 ∧
    vMax defaultWords .fast = 512 ∧ accel defaultWords .fast = 16 := by decide

/-- The worked braking points of R146. -/
theorem test_brakingPoint :
    let m (x e : Nat) : Mtc := { mtcReset with
      setpoint := some (256 * x), goal := some (256 * e), v := 256, direction := some .raise,
      speed := some .normal }
    (m 24050 30000).brakingPoint defaultWords = 256 * 24066 ∧
    (m 24090 24098).brakingPoint defaultWords = 256 * 24098 := by decide

/-- The example of 11.3: six hand-overs of |skew| 35, 42, 45, 38, 41 and 41 at threshold 40, with edge
clear, with edge set, and with invert set. -/
theorem test_handOvers :
    let c : Counter := { counterReset with selected := some .skewMagnitude, threshold := 40 }
    let k : Counters := { c0 := c, c1 := { c with edge := true }, c2 := { c with invert := true },
                          c3 := counterReset }
    let s := [35, 42, 45, 38, 41, 41].foldl
      (fun s x => handOverSamples { skew := x, following := 0, gap := 0 } s)
      (State.reset.setAct { actReset with counters := k })
    (s.act.counters.c0.value, s.act.counters.c1.value, s.act.counters.c2.value) = (4, 2, 2) := by
  decide

/-- 12.3: bay 2 at 2000 mm takes SET LOCAL ORDER 1200 with its last claim numbered 16. -/
def orderedBay2 : State :=
  after (.setLocalOrder 0) (withOps 1200 0 ((bay 2).setClu { (bay 2).clu with number := 16 }))

/-- 12.3: bay 2 makes claim 17 from 2000 to 1400. -/
theorem test_local_order_claims :
    orderedBay2.osl.selected = .localOrder ∧ orderedBay2.clu.state = .asking ∧
    orderedBay2.window = some { lo := 1400, hi := 2600 } ∧
    orderedBay2.lif.claimSlot = some { number := 17, start := 2000, stop := 1400 } ∧
    orderedBay2.lpt.answer = .done := by decide +kernel

/-- 12.3: bay 3 consents to that claim and holds bay 2 as [1400, 2000]. -/
theorem test_claim_consented :
    let t := after (.claimFrame 2 [17, 7, 208, 5, 120]) base
    t.lif.verdictSlots = [{ claimant := 2, number := 17, verdict := .consent }] ∧
    (t.entry 2).map (fun e => e.bound) = some (some { lo := 1400, hi := 2000 }) := by
  decide +kernel

/-- Bay 2's claim PENDING, its own CLAIM taken (12.3). -/
def pendingBay2 : State :=
  let s := after .attemptBegin orderedBay2
  after .attemptSuccess s

/-- 12.3: bay 2, PENDING on [1400, 2000], demurs to bay 3's claim 2000 to 2600; bay 4's side of the same
claim, at [2000, 2000], is a consent. -/
theorem test_claim_demurred :
    pendingBay2.clu.state = .pending ∧ pendingBay2.committed = { lo := 1400, hi := 2000 } ∧
    ((after (.claimFrame 3 [8, 7, 208, 10, 40]) pendingBay2).lif.verdictSlots =
      [{ claimant := 3, number := 8, verdict := .demurStagger }]) ∧
    ((after (.claimFrame 3 [8, 7, 208, 10, 40]) (bay 4)).lif.verdictSlots =
      [{ claimant := 3, number := 8, verdict := .consent }]) := by decide +kernel

/-- 12.3: both verdicts grant bay 2's claim, and its stride begins in PRIMING. -/
theorem test_claim_granted :
    let s := after (.verdictFrame 3 [2, 17, 0]) (after (.verdictFrame 1 [2, 17, 0]) pendingBay2)
    s.clu.state = .granted ∧ s.mtc.motion = .priming ∧
    s.mtc.goal = some (256 * inverse (conf 2) 1400) ∧ s.mtc.pumpSettle = some 2000 := by
  decide +kernel

/-- 12.4: a SURGE frame of epoch 5 is adopted at epoch 4; the closure begins from STOPPED with
2000 ms of pump settle and is fast. -/
theorem test_surge_begins_closure :
    let s := after (.surgeFrame 5 [5]) (base.setStm { base.stm with epoch := 4 })
    s.stm.epoch = 5 ∧ s.osl.selected = .surge ∧ s.osl.service = .surge ∧
    s.committed = { lo := 0, hi := 2000 } ∧ s.mtc.motion = .priming ∧
    s.mtc.speed = some .fast ∧ s.mtc.goal = some (256 * 3000) ∧
    s.mtc.pumpSettle = some 2000 := by decide +kernel

/-- A factory part is OUT and answers SET FLOOR with REFUSED STATE (R91, R190). -/
theorem test_factory_part :
    State.reset.readRegister 0x00 = 0x3B41 ∧ State.reset.readRegister 0x06 = 0x1000 ∧
    (after (.setFloor 1) State.reset).readRegister 0x0B = 0x0603 := by decide

/-- The default configuration passes its tests with BAY_LAST at 32 (R188, R189). -/
theorem test_defaults_pass : startReportOf false defaultWords = .passed := by decide

/-! ## Witnesses: states that meet the hypotheses of the statements, clause by clause -/

/-- Bay 3 with claim 8 from `a` to `b` PENDING, both neighbours required and one verdict recorded
below. -/
def pendingBase (a b : Nat) : State :=
  base.setClu { base.clu with
    number := 8, start := some a, stop := some b, state := .pending, window := some 300
    required := some { below := true, above := true }
    below := some { verdict := .consent, origin := .line } }

/-- `s` with a movement of MTC in a state and phase. -/
def moving (st : Motion) (ph : Option Phase) (mv : Option Movement) (s : State) : State :=
  s.setMtc { s.mtc.enter st ph with
    movement := mv, setpoint := some (256 * 24750), goal := some (256 * 26000)
    direction := some .raise, speed := some .normal }

/-- `s` with a cause latched and MTC in FAULT_STOP. -/
def faulted (c : CauseSet) (s : State) : State :=
  let s1 := s.setFmn { s.fmn with causes := c, faultLine := true }
  (s1.setMtc s1.mtc.faultStop).setOsl { s1.osl with service := .faulted }

/-- `s` in commissioning with an image. -/
def withImage (w : Words) (s : State) : State := s.setCfs { s.cfs with image := some w }

theorem wit_IdleStep : (base.setMtc { base.mtc with runOn := some 1 }).pending = [] ∧
    base.entry 3 = some (liveEntry false 3) ∧ State.reset.entry 32 = some (entryReset 32) := by
  decide

/-- A STATUS-A at the upper ends of its values. -/
def topStatusA : StatusA :=
  { opening := 15000, committed := { lo := 0, hi := 15000 }, number := 255, service := .surge,
    outcome := .abandoned, fresh := true, moving := true, degraded := true }

/-- A STATUS-B at the ends of its values. -/
def topStatusB : StatusB :=
  { up := none, down := some 20000, weight := 100, tidal := .flood, epoch := 15 }

theorem wit_FramesDecode :
    (Frame.surge 15).inRange 1 32 = true ∧
    (Frame.verdict { claimant := 32, number := 255, verdict := .demurUnsure }).inRange 1 32 = true ∧
    (Frame.claim { number := 255, start := 15000, stop := 0 }).inRange 1 32 = true ∧
    (Frame.order { stamp := 4095, isRepeat := true, aggregate := 480000 }).inRange 1 32 = true ∧
    (Frame.statusA topStatusA).inRange 1 32 = true ∧
    (Frame.statusB topStatusB).inRange 1 32 = true ∧
    (Frame.surge 15).kind < (Frame.statusB topStatusB).kind := by decide

theorem wit_BadFrames :
    kindAndBayOk base.firstBay base.lastBay { id := 3, data := [] } = false ∧
    kindAndBayOk base.firstBay base.lastBay { id := 448 + 2, data := [] } = false ∧
    kindAndBayOk base.firstBay base.lastBay { id := 64 + 6, data := [0] } = false ∧
    ([{ id := 64 + 2, data := [0, 0] }, { id := 192 + 2, data := [1, 58, 153, 0, 0] },
      { id := 128 + 2, data := [6, 1, 0] }, { id := 128 + 2, data := [3, 1, 4] }].all fun f =>
        !base.isDuplicate f && (parseFrame base.firstBay base.lastBay f).isNone) = true := by
  decide

theorem wit_DuplicateBay : base.cfs.out = false ∧ base.fmn.causes = noCauses ∧
    kindAndBayOk base.firstBay base.lastBay { id := 64 + 3, data := [] } = true ∧
    rawSender { id := 64 + 3, data := [] } = base.own ∧
    (faulted onlySkewTrip base).fmn.causes ≠ noCauses ∧
    (faulted onlySkewTrip base).fmn.causes.duplicateBay = false ∧
    (faulted onlySkewTrip base).mtc.motion ≠ .trim ∧
    (let s := faulted onlySkewTrip base
     let t := s.setMtc (s.mtc.enter .trim (some .settle))
     t.mtc.motion = .trim ∧ t.fmn.causes = onlySkewTrip) ∧
    (faulted (noCauses.add .duplicateBay) base).fmn.causes.duplicateBay = true := by decide

theorem wit_ValidFrames :
    base.frameValid { id := 64 + 5, data := [15] } = true ∧
    base.entry 5 = some (liveEntry false 5) ∧
    State.reset.frameValid { id := 64 + 32, data := [0] } = true ∧
    State.reset.entry 32 = some (entryReset 32) := by decide +kernel

theorem wit_StatusA : base.isNeighbour (2 : BitVec 6).toNat = true ∧
    base.own ≠ (2 : BitVec 6).toNat ∧ 1 ≤ base.firstBay ∧ base.lastBay ≤ 32 ∧
    (Frame.statusA topStatusA).inRange base.firstBay base.lastBay = true ∧
    base.entry 2 = some (liveEntry true 2) := by decide

theorem wit_StatusB : base.own ≠ (5 : BitVec 6).toNat ∧ State.reset.cfs.out = true ∧
    (Frame.statusB topStatusB).inRange 1 32 = true ∧ base.firstBay = 1 ∧ base.lastBay = 5 ∧
    base.entry 5 = some (liveEntry false 5) ∧ State.reset.firstBay = 1 ∧
    State.reset.lastBay = (32 : BitVec 6).toNat ∧
    State.reset.entry 32 = some (entryReset 32) ∧ base.cfs.out = false ∧
    base.pins.surgeIn = false ∧ base.stageCondition = false ∧ base.stm.settled = true ∧
    base.stm.epoch = 0 ∧ (liveEntry false 5).fresh = false ∧
    ((withEntry 5 (fun e => { e with fresh := true }) base).entry 5).map (fun e => e.fresh) =
      some true := by decide

/-- Bay 3 before it is settled. -/
def unsettled : State := base.setStm { base.stm with settled := false, settle := some 3000 }

/-- R120, R121: a settled station at epoch 0 takes an odd 7 and no 15, and an even 6 only from a sender that
is not fresh; an unsettled one takes 15. -/
theorem test_epoch_of_a_status :
    let b (e : Nat) := (Frame.statusB { topStatusB with epoch := e }).payload
    let fresh := withEntry 5 (fun e => { e with fresh := true }) base
    (after (.statusBFrame 5 (b 7)) fresh).stm.epoch = 7 ∧
    (after (.statusBFrame 5 (b 15)) base).stm.epoch = 0 ∧
    (after (.statusBFrame 5 (b 6)) base).stm.epoch = 6 ∧
    (after (.statusBFrame 5 (b 6)) fresh).stm.epoch = 0 ∧
    (after (.statusBFrame 5 (b 15)) unsettled).stm.epoch = 15 := by decide +kernel

theorem wit_SurgeFrames : base.own ≠ (5 : BitVec 6).toNat ∧ base.lastBay = (5 : BitVec 6).toNat ∧
    base.pins.surgeIn = false ∧ base.stageCondition = false ∧ base.stm.settled = true ∧
    unsettled.pins.surgeIn = false ∧ unsettled.stageCondition = false ∧
    State.reset.cfs.out = true ∧ State.reset.pins.surgeIn = false ∧
    State.reset.stageCondition = false ∧ State.reset.stm.settled = false := by decide

/-- The premises that VerdictsResolveThePendingClaim and GrantHandsTheStride share, bay 4 sending. -/
def verdictPremises (s : State) : Prop :=
  s.cfs.out = false ∧ s.isNeighbour 4 = true ∧ s.own ≠ 4 ∧ s.own < 256 ∧ s.firstBay ≤ s.own ∧
  s.own ≤ s.lastBay ∧ (8 : Byte).toNat = s.clu.number ∧ s.clu.state = .pending ∧
  s.requires 4 = true ∧ s.recordedFrom 4 = none ∧ sideDemurs s.clu.below = false ∧
  sideDemurs s.clu.above = false

/-- No verdict recorded yet: a consent of bay 4 leaves the claim PENDING. -/
def twoMissing : State :=
  (pendingBase 2000 2600).setClu { (pendingBase 2000 2600).clu with below := none }

/-- The same claim after bay 4 has lapsed. -/
def lapsedSender : State := withEntry 4 (fun e => { e with presence := .lapsed }) twoMissing

theorem wit_Verdicts : verdictPremises (pendingBase 2000 2600) ∧ verdictPremises twoMissing ∧
    verdictPremises lapsedSender ∧ (pendingBase 2000 2600).selectionOk = true ∧
    twoMissing.selectionOk = true ∧ lapsedSender.selectionOk = true ∧
    (lapsedSender.entry 4).map (fun e => e.presence) = some .lapsed ∧
    (recordVerdict 4 .consent twoMissing).allConsent = false := by
  unfold verdictPremises; decide

/-- The pending claim of 2000 to 2600, the LOCAL slot selected with target 2900. -/
def readyToGrant : State :=
  (pendingBase 2000 2600).setOsl { (pendingBase 2000 2600).osl with
    localTarget := some 2900, selected := .localOrder, service := .localOrder }

theorem wit_Grant : verdictPremises readyToGrant ∧
    (∀ e ∈ readyToGrant.entry 4, e.presence = .live) ∧
    (recordVerdict 4 .consent readyToGrant).allConsent = true ∧
    readyToGrant.clu.start = some 2000 ∧ readyToGrant.clu.stop = some 2600 ∧
    readyToGrant.osl.selected.staged = true ∧
    readyToGrant.osl.target readyToGrant.osl.selected = some 2900 ∧
    2000 + Param.tol readyToGrant.cfs.working < 2900 ∧ readyToGrant.mtc.motion = .stopped ∧
    readyToGrant.mtc.gateStroke = some 24750 := by
  unfold verdictPremises; decide

/-- Bay 3 with an odd epoch; with no stroke; with a last-judged record of claim 7 of bay 2. -/
def odd : State := base.setStm { base.stm with epoch := 5 }
def blind : State := base.setMtc { base.mtc with left := channelReset, right := channelReset }
def judgedBefore : State :=
  withEntry 2 (fun e => { e with judged := some { number := 7, verdict := .demurSurge } }) base

theorem wit_Claims : base.isNeighbour 2 = true ∧ base.own ≠ 2 ∧
    base.entry 2 = some (liveEntry true 2) ∧ (liveEntry true 2).judged = none ∧
    base.lineAccepts = true ∧ odd.stm.epoch % 2 = 1 ∧ blind.stm.epoch % 2 = 0 ∧
    blind.positionKnown = false ∧ base.stm.epoch % 2 = 0 ∧ base.positionKnown = true ∧
    gap (claimRange 2000 1400) base.committed = max (Param.stagger base.cfs.working)
      (gap (claimRange 2000 2000) base.committed) ∧
    gap (claimRange 2000 1399) base.committed = max (Param.stagger base.cfs.working)
      (gap (claimRange 2000 2000) base.committed) + 1 ∧
    (judgedBefore.entry 2).bind (fun e => e.judged) = some { number := 7, verdict := .demurSurge }
    := by decide

/-- Bay 3 holding an order of stamp 900. -/
def ordered : State :=
  base.setShu { base.shu with order := some { stamp := 900, aggregate := 9000, origin := 1 } }

theorem wit_Orders : base.cfs.out = false ∧ base.own ≠ 5 ∧ base.lif.line = .on ∧
    (base.entry base.own).isSome = true ∧ base.shu.order = none ∧
    ordered.shu.order = some { stamp := 900, aggregate := 9000, origin := 1 } ∧
    (901 + 4096 - 900) % 4096 = 1 ∧ (2947 + 4096 - 900) % 4096 = 2047 ∧
    (2948 + 4096 - 900) % 4096 = 2048 ∧ (899 + 4096 - 900) % 4096 = 4095 := by decide

/-- Every slot of bay 3's queue occupied. -/
def fullQueue : State :=
  base.setLif { base.lif with
    surgeSlot := some 5, verdictSlots := [{ claimant := 2, number := 1, verdict := .consent }]
    claimSlot := some { number := 8, start := 2000, stop := 2600 }
    orderSlot := some { stamp := 1, isRepeat := false, aggregate := 0 }
    statusASlot := true, statusBSlot := true }

/-- Its slots emptied one after another, in the order of their identifiers. -/
def fewerSlots : List Lif :=
  let l0 := fullQueue.lif
  let l1 := { l0 with surgeSlot := none }
  let l2 := { l1 with verdictSlots := [] }
  let l3 := { l2 with claimSlot := none }
  let l4 := { l3 with orderSlot := none }
  [l0, l1, l2, l3, l4, { l4 with statusASlot := false }]

theorem wit_Arbiter : base.cfs.out = false ∧ fewerSlots.all (fun l =>
    l.line != .off && l.attempt.isNone && (l.surgeSlot.isSome || !l.verdictSlots.isEmpty ||
      l.claimSlot.isSome || l.orderSlot.isSome || l.statusASlot || l.statusBSlot)) = true := by
  decide

/-- Bay 3 with a frame in attempt. -/
def attempting (line : LineState) (failures : Nat) (f : Frame) (s : State) : State :=
  s.setLif { s.lif with
    attempt := some { frame := f, touched := false }, line := line, failures := failures }

theorem wit_Success :
    (attempting .rejoining 0 (.statusB topStatusB) base).lif.attempt =
      some { frame := .statusB topStatusB, touched := false } ∧
    (attempting .rejoining 0 (.statusB topStatusB) base).lif.line = .rejoining ∧
    (attempting .on 0 (.surge 5) base).lif.line ≠ .rejoining ∧
    (attempting .rejoining 0 (.statusB topStatusB) base).entry base.own =
      some (liveEntry false 3) ∧
    [Frame.statusA topStatusA, .verdict { claimant := 2, number := 1, verdict := .consent },
      .order { stamp := 1, isRepeat := false, aggregate := 0 }, .surge 15].all (fun f =>
      (attempting .on 0 f fullQueue).lif.attempt == some { frame := f, touched := false }) = true ∧
    fullQueue.cfs.out = false ∧ fullQueue.lif.line ≠ .off ∧ fullQueue.pins.surgeIn = false ∧
    fullQueue.stageCondition = false := by decide

/-- R10, R22, R71: a success empties the slot of its frame, which is taken. -/
theorem test_own_frames_taken :
    let taken (f : Frame) := after .attemptSuccess (attempting .on 0 f fullQueue)
    (taken (.statusA topStatusA)).lif.statusASlot = false ∧
    ((taken (.statusA topStatusA)).entry 3).map (fun e => e.opening) = some (some 15000) ∧
    (taken (.verdict { claimant := 2, number := 1, verdict := .consent })).lif.verdictSlots = [] ∧
    (taken (.order { stamp := 1, isRepeat := false, aggregate := 7 })).shu.order =
      some { stamp := 1, aggregate := 7, origin := 3 } ∧
    (taken (.order { stamp := 1, isRepeat := false, aggregate := 7 })).lif.orderSlot = none := by
  decide +kernel

/-- A station ASKING with claim 8, its CLAIM frame in attempt. -/
def asking (s : State) : State :=
  let c : ClaimContent := { number := 8, start := 2000, stop := 2600 }
  let s := s.setClu { s.clu with
    number := 8, start := some 2000, stop := some 2600, state := .asking, asking := some 300 }
  attempting .on 0 (.claim c) (s.setLif { s.lif with claimSlot := some c })

/-- Bay 3 ASKING. -/
def askingBase : State := asking base

/-- Bay 3 with bay 2 LAPSED, bound frozen at `b`, and bay 4 LIVE or lapsed with it. -/
def withLapsed (b : Option Span) (both : Bool) : State :=
  let lapse (e : Entry) : Entry := { e with presence := .lapsed, bound := b }
  if both then withEntry 4 lapse (withEntry 2 lapse base) else withEntry 2 lapse base

theorem wit_OwnClaim : askingBase.lif.attempt =
      some { frame := .claim { number := 8, start := 2000, stop := 2600 }, touched := false } ∧
    askingBase.lif.line = .on ∧ askingBase.clu.state = .asking ∧ askingBase.clu.number = 8 ∧
    1 ≤ askingBase.own ∧ askingBase.liveNeighbour (askingBase.own - 1) = true ∧
    askingBase.liveNeighbour (askingBase.own + 1) = true ∧ askingBase.fmn.causes = noCauses ∧
    askingBase.stm.epoch % 2 = 0 ∧ askingBase.clu.surgeClosure = false ∧
    (asking (bay 1)).isNeighbour ((asking (bay 1)).own - 1) = false ∧ (asking (bay 1)).own = 1 ∧
    (asking (bay 1)).liveNeighbour 2 = true ∧ (asking (bay 1)).clu.state = .asking ∧
    (pendingBase 2000 2600).clu.state ≠ .asking ∧
    (let s := asking (withLapsed none false)
     s.liveNeighbour 2 = false ∧ s.isNeighbour 2 = true ∧ s.clu.state = .asking ∧
     (s.entry 2).map (fun e => e.presence) = some .lapsed) ∧
    (let s := asking (withLapsed (some { lo := 2000, hi := 2000 }) true)
     s.liveNeighbour 2 = false ∧ s.liveNeighbour 4 = false ∧ (s.entry 2).isSome = true ∧
     (s.entry 4).isSome = true) := by decide +kernel

/-- R43, R44, R46, R48, R49: what taking the own CLAIM makes of claim 8, 2000 to 2600, at S = 600: PENDING at
an edge bay; DEMURRED by a lapsed neighbour without a bound, and by one frozen at 1999; PENDING with one
frozen at 2000, and granted with two; a stale claim stays. -/
theorem test_own_claim_taken :
    let taken (s : State) := (after .attemptSuccess (asking s)).clu
    (taken (bay 1)).state = .pending ∧
    (taken (bay 1)).required = some { below := false, above := true } ∧
    (taken (withLapsed none false)).lastOutcome = .demurred ∧
    (taken (withLapsed (some { lo := 1999, hi := 1999 }) false)).lastOutcome = .demurred ∧
    (taken (withLapsed (some { lo := 2000, hi := 2000 }) false)).state = .pending ∧
    (taken (withLapsed (some { lo := 2000, hi := 2000 }) true)).lastOutcome = .granted ∧
    (after .attemptSuccess (asking base |>.setClu (pendingBase 2000 2600).clu)).clu =
      (pendingBase 2000 2600).clu := by decide +kernel

theorem wit_LostContention : askingBase.lif.attempt.isSome = true ∧
    rawKind { id := 64, data := [] } = 1 ∧ rawKind { id := 447, data := [] } = 6 := by
  decide

theorem wit_Failures :
    (attempting .on 14 (.surge 5) base).lif.failures < 15 ∧
    (attempting .on 15 (.surge 5) askingBase).lif.failures = 15 ∧
    (attempting .on 15 (.surge 5) askingBase).lif.attempt.isSome = true ∧
    (attempting .on 15 (.surge 5) askingBase).clu.state = .asking ∧
    (let s := moving .running none (some .stride) readyToGrant
     let t := attempting .on 15 (.surge 5) (s.setClu { s.clu with state := .granted })
     t.clu.state = .granted ∧ t.mtc.motion = .running ∧ t.lif.failures = 15) := by
  decide

/-- Bay 3 with its line timers running, an order held, and an issued order waiting or not. -/
def timed (line : LineState) (slot : Option OrderContent) : State :=
  ordered.setLif { ordered.lif with
    line := line, sinceStatusA := some 0, sinceStatusB := some 999, repeatTimer := some 1
    offTimer := if line = .off then some 1000 else none, orderSlot := slot }

theorem wit_LineTimers : (timed .on none).cfs.out = false ∧
    (attempting .on 0 (.statusA topStatusA) (timed .on none)).lif.attempt =
      some { frame := .statusA topStatusA, touched := false } ∧
    (timed .on none).lif.line ≠ .off ∧ (timed .on none).lif.sinceStatusA = some 0 ∧
    (timed .on none).lif.sinceStatusB = some 999 ∧ (timed .on none).lif.repeatTimer = some 1 ∧
    (∀ c ∈ (timed .on none).lif.orderSlot, c.isRepeat = true) ∧
    (∀ c ∈ (timed .on (some { stamp := 901, isRepeat := false, aggregate := 1 })).lif.orderSlot,
      c.isRepeat = false) ∧
    (timed .off none).lif.line = .off ∧ (timed .off none).lif.offTimer.isSome = true := by
  decide

/-- Bay 3 in its listen period, its neighbour 2 never heard. -/
def listening : State :=
  let s := withEntry 2 (fun _ => entryReset 2) base
  s.setPtb { s.ptb with listen := some 1 }

/-- Bay 3 with bay 5 unheard for `n` ms. -/
def aged (n : Nat) : State := withEntry 5 (fun e => { e with age := n }) base

/-- R21: bay 5 lapses in the millisecond that brings its age to 3000; where its frame is taken first the
expiry does not happen and nothing is counted. -/
theorem test_peer_lapse :
    (tick (aged 2999)).pending = [.peerLapse 5] ∧
    ((after (.peerLapse 5) (tick (aged 2999))).entry 5).map (fun e => e.presence) =
      some .lapsed ∧
    (let s := after (.surgeFrame 5 [0]) (tick (aged 2999))
     after (.peerLapse 5) s = s ∧ (s.entry 5).map (fun e => (e.presence, e.age)) =
       some (.live, 0)) := by decide +kernel

theorem wit_PeersLapse : base.entry 5 = some (liveEntry false 5) ∧
    (liveEntry false 5).presence = .live ∧ base.own ≠ 5 ∧ State.reset.cfs.out = true ∧
    base.peerTimeout = 3000 ∧ (aged 3000).entry 5 = some { liveEntry false 5 with age := 3000 } ∧
    (aged 2999).entry 5 = some { liveEntry false 5 with age := 2999 } ∧
    listening.ptb.listen.isSome = true ∧
    listening.neighbours.any (fun e => e.bound.isNone) = true := by decide +kernel

theorem wit_ClaimTimers : askingBase.clu.state = .asking ∧ askingBase.clu.asking.isSome = true ∧
    (pendingBase 2000 2600).clu.state = .pending ∧
    (pendingBase 2000 2600).clu.window.isSome = true ∧ (pendingBase 2000 2600).cfs.out = false ∧
    (pendingBase 2000 2600).lif.line ≠ .off ∧
    (startBackoff base).clu.backoff.isSome = true ∧
    (startBackoff askingBase).clu.state ≠ .still := by decide

/-- Bay 3 with a local order of 2011 mm, just above TOL away, its backoff about to expire. -/
def readyToClaim : State :=
  let s := startBackoff base
  s.setOsl { s.osl with localTarget := some 2011, selected := .localOrder, service := .localOrder }

theorem wit_MakeAClaim : readyToClaim.clu.backoff.isSome = true ∧
    readyToClaim.clu.state = .still ∧ readyToClaim.cfs.out = false ∧
    readyToClaim.commissioning = false ∧ readyToClaim.ptb.listen = none ∧
    readyToClaim.clu.freshTaken = true ∧ readyToClaim.mtc.motion = .stopped ∧
    readyToClaim.lif.line = .on ∧ readyToClaim.stm.epoch % 2 = 0 ∧
    readyToClaim.fmn.causes = noCauses ∧ readyToClaim.fmn.supplyLow = false ∧
    readyToClaim.fmn.hold = false ∧ readyToClaim.opening = some 2000 ∧
    readyToClaim.neighbours.all (fun x => x.bound.isSome) = true ∧
    readyToClaim.osl.selected ∈ [Slot.tidal, .localOrder, .weir] ∧
    readyToClaim.strideEnd = some 2011 ∧
    Param.tol readyToClaim.cfs.working < ((2011 : Int) - 2000).natAbs := by decide

theorem wit_StrideEnd : readyToGrant.strideEnd = some 2600 ∧
    (readyToGrant.neighbours.map fun x => x.bound) =
      [some { lo := 2000, hi := 2000 }, some { lo := 2000, hi := 2000 }] := by decide

theorem wit_Reads : evenParity 24950 (!evenParity 24950 false) = true ∧
    (24950 : BitVec 16).toNat ≤ 60000 ∧ base.mtc.left.value = some 24750 ∧
    base.mtc.right.value = some 24750 ∧ ((24950 : Int) - 24750).natAbs = 200 ∧
    evenParity 24750 (evenParity 24750 false) = false ∧ 60000 < (60001 : BitVec 16).toNat ∧
    200 < ((24951 : Int) - 24750).natAbs := by decide

/-- Bay 3 with two invalid reads of the left encoder behind it. -/
def twoInvalid : State :=
  base.setMtc { base.mtc with left := { base.mtc.left with invalidRun := 2, lastRead := .invalid } }

/-- The same with STALL_R latched and on record. -/
def secondInvalid : State :=
  let s := faulted (noCauses.add .stallR) twoInvalid
  s.setFmn { s.fmn with record := some (base.faultPicture .stallR) }

theorem wit_ThirdInvalid : twoInvalid.cfs.out = false ∧ twoInvalid.fmn.causes = noCauses ∧
    twoInvalid.mtc.left.invalidRun = 2 ∧ judgeRead twoInvalid.mtc.left.value .noAnswer = none ∧
    secondInvalid.cfs.out = false ∧ secondInvalid.mtc.left.invalidRun = 2 ∧
    judgeRead secondInvalid.mtc.left.value .noAnswer = none ∧
    secondInvalid.fmn.causes ≠ noCauses ∧ secondInvalid.fmn.causes.encoderL = false ∧
    secondInvalid.faultMotionOk = true ∧
    secondInvalid.fmn.record = some (base.faultPicture .stallR) := by decide

/-- R168: ENCODER_L joins STALL_R; the first cause and the picture of the record stay. -/
theorem test_second_fault :
    let t := after (.encoderFault .left .noAnswer (good 24750)) secondInvalid
    t.fmn.causes = (noCauses.add .stallR).add .encoderL ∧ t.fmn.record = some
      { base.faultPicture .stallR with recorded := (noCauses.add .stallR).add .encoderL } := by
  decide +kernel

theorem wit_ReadingsChange : ∃ t, exec .storeComplete base = .next t := ⟨_, rfl⟩

theorem wit_Conversions : wordNat defaultWords 32 ≤ 60000 ∧ wordNat defaultWords 40 ≤ 15000 ∧
    risesStrictly (geometryStrokes defaultWords) = true ∧
    risesStrictly (geometryOpenings defaultWords) = true ∧
    segmentsSteep (geometryStrokes defaultWords) (geometryOpenings defaultWords) = true ∧
    Param.openMax defaultWords = 4000 ∧ (geometryPoints defaultWords)[4]? = some (21000, 1500) ∧
    (geometryPoints defaultWords)[5]? = some (27000, 2300) ∧
    -- 1901 rounds up and 1900 meets a whole count; 2951 rounds down
    (1901 - 1500) * 6000 ≤ (inverse defaultWords 1901 - 21000) * 800 ∧
    (1900 - 1500) * 6000 = (inverse defaultWords 1900 - 21000) * 800 ∧
    (inverse defaultWords 2951 - 32500) * 550 < (2951 - 2950) * 5000 ∧
    forward defaultWords 42000 = Param.openMax defaultWords := by decide

theorem wit_Invariants : base.outputsOk = true ∧ base.drivesOk = true ∧ base.attnOk = true ∧
    base.faultLineOk = true ∧ base.faultMotionOk = true ∧ base.selectionOk = true ∧
    base.serviceOk = true ∧ base.tableOk = true ∧ base.agesOk = true ∧ base.ringsOk = true ∧
    base.conditionsOk = true ∧ base.outOk = true ∧ base.widthsOk = true ∧
    base.holdDrivesOk = true ∧ base.trimDrivesOk = true ∧ base.movementOk = true ∧
    base.motionOk = true := by decide +kernel

theorem wit_Invariants_step : ∃ t, step base = .next t := ⟨_, rfl⟩

theorem wit_Profile :
    let m := (moving .running none (some .stride) base).mtc
    m.setpoint = some (256 * 24750) ∧ m.goal = some (256 * 26000) ∧
    m.v ≤ vMax defaultWords (m.speed.getD .normal) ∧
    1 ≤ vMax defaultWords (m.speed.getD .normal) := by decide

/-- Bay 3 in PRIMING at its release, with a movement and a stop kind. -/
def priming (mv : Option Movement) (k : Option StopKind) (closure : Bool) : State :=
  let s := moving .priming (some .release) mv base
  s.setMtc { s.mtc with release := some 200, stopKind := k, closureRequest := closure }

/-- The trim record of a left hoist 300 counts high. -/
def trimLeft : Trim := { hoist := .left, start := 24950, limit := 24875, setpoint := none }

/-- Bay 3 in TRIM, phase RELEASE, and at its limit. -/
def trimming : State :=
  let s := faulted onlySkewTrip base
  s.setMtc { s.mtc.enter .trim (some .release) with
    trim := some trimLeft, release := some 200, trimLimit := some 5000 }

theorem wit_Priming :
    (let s := moving .priming (some .settle) (some .stride) base
     let t := s.setMtc { s.mtc with pumpSettle := some 2000 }
     t.mtc.pumpSettle.isSome = true ∧ t.mtc.motion = .priming) ∧
    (let s := trimming.setMtc { trimming.mtc with pumpSettle := some 1 }
     s.mtc.pumpSettle.isSome = true ∧ s.mtc.motion = .trim) ∧
    (priming (some .stride) (some .target) false).mtc.stopKind = some .target ∧
    (priming (some .stride) none false).mtc.movement.isSome = true ∧
    (priming none none true).mtc.closureRequest = true ∧
    (priming none none true).mtc.setpoint = some (256 * 24750) ∧
    256 * Param.strokeMin base.cfs.working < 256 * 24750 ∧
    (priming none none false).mtc.closureRequest = false ∧
    Param.runOn base.cfs.working ≠ 0 ∧ (priming none none false).mtc.release.isSome = true ∧
    (priming none none false).mtc.motion = .priming ∧
    trimming.mtc.release.isSome = true ∧ trimming.mtc.trim = some trimLeft := by decide

/-- Bay 3 in SETTLING at the stroke of its setpoint, 24 in-band samples counted. -/
def settling : State :=
  let s := moving .settling none (some .stride) readyToGrant
  (s.setClu { s.clu with state := .granted }).setMtc { s.mtc with
    settleCount := 24, settleTimeout := some 1 }

theorem wit_Settling : settling.mtc.motion = .settling ∧ settling.mtc.closureRequest = false ∧
    Param.runOn settling.cfs.working ≠ 0 ∧ settling.mtc.settleTimeout.isSome = true ∧
    settling.fillsSettleCount (good 24750) (good 24753) = true ∧
    settling.mtc.movement = some .stride ∧ settling.clu.state = .granted ∧
    settling.cfs.out = false ∧ settling.lif.line ≠ .off := by decide +kernel

/-- R152: under a skew hold an in-band sample leaves the settle count at 24; with no hold it ends SETTLING.
A skew of 7 lies in DB 20 and keeps the hold of SKEW_WARN 10. -/
theorem test_settle_count_under_skew_hold :
    let w := ((conf 3).set 46 20).set 47 10
    let s := settling.setCfs { settling.cfs with working := w }
    let held := s.setMtc { s.mtc with skewHold := true }
    held.fillsSettleCount (good 24750) (good 24757) = false ∧
    (after (.servoSample (good 24750) (good 24757)) held).mtc.motion = .settling ∧
    (after (.servoSample (good 24750) (good 24757)) held).mtc.settleCount = 24 ∧
    s.fillsSettleCount (good 24750) (good 24757) = true := by decide +kernel

/-- States that meet the invariants with something at stake: HOLD_IN active, a trim that moves its left
hoist, and a granted stride under way. -/
theorem wit_Invariants_moving :
    (let s := after .holdTaken base
     s.pins.holdIn = true ∧ s.outputsOk = true ∧ s.outOk = true ∧ s.holdDrivesOk = true ∧
     s.trimDrivesOk = true) ∧
    (let s := trimming.setMtc { trimming.mtc.enter .trim (some .move) with driveL := -500 }
     s.mtc.trimMoves = true ∧ s.outputsOk = true ∧ s.drivesOk = true ∧ s.outOk = true ∧
     s.holdDrivesOk = true ∧ s.trimDrivesOk = true) ∧
    (let s := moving .running none (some .stride) base
     let t := s.setClu { s.clu with state := .granted }
     t.movementOk = true ∧ t.selectionOk = true ∧ t.faultMotionOk = true ∧ t.outOk = true ∧
     t.mtc.motion = .running) := by decide +kernel

theorem wit_RunOnAndTrim :
    (let s := base.setMtc { base.mtc.enter .holding none with runOn := some 1 }
     s.mtc.motion = .holding ∧ s.mtc.runOn.isSome = true ∧ s.mtc.closureRequest = false) ∧
    trimming.mtc.motion = .trim ∧ trimming.mtc.trimLimit.isSome = true := by decide

/-- Bay 3 in SETTLING with its left hoist 1250 counts short, one sample before the window's end. -/
def stalling : State :=
  let s := moving .settling none (some .stride) base
  s.setMtc { s.mtc with
    setpoint := some (256 * 26000)
    stallL := { run := Param.stallWindow s.cfs.working - 1, ref := some 24749 } }

theorem wit_Stall : stalling.cfs.out = false ∧ stalling.fmn.causes = noCauses ∧
    stalling.mtc.motion = .settling ∧ stalling.pins.holdIn = false ∧
    stalling.mtc.skewHold = false ∧ stalling.mtc.left.value = some 24750 ∧
    evenParity 24750 (!evenParity 24750 false) = true ∧ stalling.mtc.right.invalidRun < 2 ∧
    (stalling.mtc.right.take (good 24750)).value = some 24750 ∧
    Param.strokeMin stalling.cfs.working ≤ 24750 ∧
    24750 ≤ Param.strokeMax stalling.cfs.working ∧ 1 ≤ Param.skewWarn stalling.cfs.working ∧
    1 ≤ Param.skewTrip stalling.cfs.working ∧ stalling.mtc.setpoint = some (256 * 26000) ∧
    (loopDrive stalling.cfs.working
      ((256 * 26000 / 256 : Nat) - (24750 : Int))).natAbs = 1000 ∧
    stalling.mtc.stallL.run + 1 = Param.stallWindow stalling.cfs.working ∧
    1 ≤ stalling.mtc.stallL.run ∧ stalling.mtc.stallL.ref = some 24749 ∧
    ((24750 : Int) - 24749).natAbs < 2 := by decide

theorem wit_Resets : base.cfs.storeBusy = false ∧
    startReportOf base.cfs.writeMark base.cfs.store = .passed ∧
    State.reset.cfs.storeBusy = false ∧
    startReportOf State.reset.cfs.writeMark State.reset.cfs.store ≠ .passed ∧
    (let s := base.setCfs { base.cfs with image := some (conf 4), storeBusy := true }
     s.cfs.storeBusy = true ∧ s.cfs.image = some (conf 4) ∧ (conf 4).length = 53 ∧
     s.cfs.store.length = 53) ∧
    (base.setAct { base.act with frozen := true }).act.counters.get 0 = some counterReset := by
  decide +kernel

/-- Bay 3 with two invalid reads of its right encoder behind it, and with its right hoist stalling. -/
def twoInvalidR : State :=
  base.setMtc { base.mtc with
    right := { base.mtc.right with invalidRun := 2, lastRead := .invalid } }
def stallingR : State :=
  stalling.setMtc { stalling.mtc with
    stallL := { run := 0, ref := none }
    stallR := { run := Param.stallWindow stalling.cfs.working - 1, ref := some 24751 } }

theorem wit_RightHoist : twoInvalidR.cfs.out = false ∧ twoInvalidR.fmn.causes = noCauses ∧
    twoInvalidR.mtc.right.invalidRun = 2 ∧
    judgeRead twoInvalidR.mtc.right.value .noAnswer = none ∧ twoInvalidR.mtc.left.invalidRun ≠ 2 ∧
    stallingR.cfs.out = false ∧ stallingR.fmn.causes = noCauses ∧
    stallingR.mtc.motion = .settling ∧ stallingR.pins.holdIn = false ∧
    stallingR.mtc.skewHold = false ∧ stallingR.mtc.right.value = some 24750 ∧
    evenParity 24750 (!evenParity 24750 false) = true ∧ stallingR.mtc.left.invalidRun < 2 ∧
    (stallingR.mtc.left.take (good 24750)).value = some 24750 ∧
    Param.strokeMin stallingR.cfs.working ≤ 24750 ∧
    24750 ≤ Param.strokeMax stallingR.cfs.working ∧ 1 ≤ Param.skewWarn stallingR.cfs.working ∧
    1 ≤ Param.skewTrip stallingR.cfs.working ∧ stallingR.mtc.setpoint = some (256 * 26000) ∧
    (loopDrive stallingR.cfs.working
      ((256 * 26000 / 256 : Nat) - (24750 : Int))).natAbs = 1000 ∧
    stallingR.mtc.stallR.run + 1 = Param.stallWindow stallingR.cfs.working ∧
    1 ≤ stallingR.mtc.stallR.run ∧ stallingR.mtc.stallR.ref = some 24751 ∧
    ((24750 : Int) - 24751).natAbs < 2 := by decide +kernel

/-- Both sides of R155 and R130 take the machine to FAULT_STOP. -/
theorem test_right_hoist_faults :
    (after (.encoderFault .right (good 24750) .noAnswer) twoInvalidR).mtc.motion = .faultStop ∧
    (after (.stallWindowEnd .right (good 24750) (good 24750)) stallingR).fmn.causes.stallR = true ∧
    (after (.stallWindowEnd .left (good 24750) (good 24750)) stalling).fmn.causes.stallL = true := by
  decide +kernel

/-- Bay 3 with HOLD_IN active and HOLD held. -/
def held : State := after .holdTaken base

/-- Bay 3 with SUPPLY_LOW held, the supply low or good. -/
def lowSupply : State := after .supplyGoesLow base
def supplyBack : State := after .supplyGoesGood lowSupply

theorem wit_Hold : base.cfs.out = false ∧ base.pins.holdIn = false ∧
    askingBase.clu.state ≠ .still ∧ askingBase.pins.holdIn = false ∧ held.cfs.out = false ∧
    held.pins.holdIn = true ∧ (faulted onlySkewTrip held).fmn.causes ≠ noCauses ∧
    (faulted onlySkewTrip held).pins.holdIn = true := by decide

theorem wit_Supply : base.pins.supplyGood = true ∧ base.fmn.supplyLow = false ∧
    lowSupply.cfs.out = false ∧ lowSupply.pins.supplyGood = false ∧
    lowSupply.fmn.supplyLow = true ∧ supplyBack.pins.supplyGood = true ∧
    supplyBack.fmn.supplyLow = true ∧ supplyBack.fmn.good.isSome = true ∧
    (faulted onlySkewTrip supplyBack).fmn.causes ≠ noCauses := by decide

theorem wit_StageSamples : base.cfs.out = false ∧
    (let c := Param.scalingU base.cfs.working
     c.raw4 - ((c.raw20 : Int) - c.raw4) / 40 = 705 ∧
     c.raw20 + ((c.raw20 : Int) - c.raw4) / 16 = 3988) := by decide

/-- Bay 3 with both rings full at stages `u` and `d`, in EBB, both runs one sample short. -/
def tidal (u d : Int) : State :=
  base.setStm { base.stm with
    ringU := List.replicate 32 (.accepted u), ringD := List.replicate 32 (.accepted d)
    sourceU := .own, sourceD := .own, tidal := .ebb, confirmRun := 99, surgeRun := 2 }

/-- Stage 3000 at both sensors is code 2290; a head of -1 mm points nowhere, one of -2000 to the
flood; stage 8000 is code 3800 and above the surge level. -/
theorem wit_FullRuns : (tidal 0 3000).cfs.out = false ∧
    ringValid (tidal 0 3000).stm.ringU = true ∧ ringValid (tidal 0 3000).stm.ringD = true ∧
    ringMean (pushSample (tidal 0 3000).stm.ringU
      ((Param.scalingU (tidal 0 3000).cfs.working).sampleOf 1384)) = some 0 ∧
    ringMean (pushSample (tidal 0 3000).stm.ringD
      ((Param.scalingD (tidal 0 3000).cfs.working).sampleOf 2290)) = some 3000 ∧
    Param.nConfirm (tidal 0 3000).cfs.working ≤ (tidal 0 3000).stm.confirmRun + 1 ∧
    (0 : Int) - 3000 ≤ -(Param.hFlood (tidal 0 3000).cfs.working : Int) ∧
    (let s := (tidal 0 0).setStm { (tidal 0 0).stm with tidal := .flood }
     s.stm.tidal = .flood ∧ (Param.hEbb s.cfs.working : Int) ≤ 3000 - 0) ∧
    (tidal 8000 8000).stm.surgeRun + 1 = Param.nSurge (tidal 8000 8000).cfs.working ∧
    ringMean (pushSample (tidal 8000 8000).stm.ringD
      ((Param.scalingD (tidal 8000 8000).cfs.working).sampleOf 3800)) = some 8000 ∧
    Param.surgeLevel (tidal 8000 8000).cfs.working ≤ 8000 ∧
    (tidal 8000 8000).stm.epoch % 2 = 0 ∧
    (let s := (tidal 0 3000).setStm { (tidal 0 3000).stm with tidal := .unknown }
     s.stm.tidal = .unknown ∧ s.stm.sourceU = .own ∧ s.stm.sourceD = .own) ∧
    (tidal 0 3000).tableOk = true := by decide

/-- R104 to R106: bay 3's U ring with 16 accepted samples of 32 is valid; a rejected sample that takes one of
them away has it borrowed, of bays 2 and 4 from bay 2; with no lender it is lost and STAGE_LOST is set. An
accepted sample that brings 15 to 16 makes it OWN. -/
theorem test_sources :
    let ring (n : Nat) := List.replicate n Sample.rejected ++ List.replicate 16 (.accepted 0)
    let s (r : List Sample) := (tidal 0 0).setStm { (tidal 0 0).stm with ringU := r }
    let lend (s : State) := withEntry 4 (fun e => { e with up := some 5 })
      (withEntry 2 (fun e => { e with up := some 7 }) s)
    let lost := s (ring 0 ++ List.replicate 16 .rejected)
    let low := s (ring 16 |>.dropLast |>.cons .rejected)
    ringValid lost.stm.ringU = true ∧ ringValid low.stm.ringU = false ∧
    (after (.stageSample 0 1384) (lend lost)).stm.sourceU = .borrowed 2 ∧
    (after (.stageSample 0 1384) lost).stm.sourceU = .unavailable ∧
    (after (.stageSample 0 1384) lost).act.causes &&& 0x040 = 0x040 ∧
    (after (.stageSample 1384 1384) (lend low)).stm.sourceU = .own := by decide +kernel

theorem wit_Raises : base.cfs.out = false ∧ base.pins.surgeIn = false ∧
    base.stm.epoch % 2 = 0 ∧ odd.stm.epoch % 2 = 1 ∧ base.stm.settled = true ∧
    odd.stm.settled = true ∧ unsettled.stm.settle.isSome = true ∧
    unsettled.stm.settled = false ∧ base.cfs.storeBusy = false ∧ base.lif.line ≠ .off ∧
    (timed .off none).lif.line = .off ∧ askingBase.clu.state = .asking := by decide

/-- Bay 3 with an odd epoch and a full D ring at `d`. -/
def oddAt (d : Int) : State :=
  (tidal 0 d).setStm { (tidal 0 d).stm with epoch := 5, surgeRun := 0 }

theorem wit_ClearSurge : State.reset.cfs.out = true ∧ State.reset.cfs.storeBusy = false ∧
    unsettled.stm.settled = false ∧ base.stm.epoch % 2 = 0 ∧ (timed .off none).lif.line = .off ∧
    (oddAt 4200).stm.epoch % 2 = 1 ∧ (oddAt 4200).stm.settled = true ∧
    (oddAt 4200).lif.line ≠ .off ∧ ringMean (oddAt 4200).stm.ringD = some 4200 ∧
    Param.surgeLevel base.cfs.working - Param.surgeHyst base.cfs.working = 4200 ∧
    ringMean (oddAt 4199).stm.ringD = some 4199 ∧ (oddAt 4199).pins.surgeIn = false ∧
    (oddAt 4199).stageCondition = false := by decide

theorem wit_LocalOrders : base.cfs.storeBusy = false ∧ State.reset.cfs.out = true ∧
    (withImage (conf 3) base).commissioning = true ∧ base.cfs.out = false ∧
    base.commissioning = false ∧ base.osl.localTarget = none ∧
    readyToClaim.osl.localTarget.isSome = true ∧ 6 < (7 : Byte).toNat ∧ (6 : Byte).toNat ≤ 6 := by
  decide

theorem wit_Issued : (timed .off none).lif.line = .off ∧ base.lif.line ≠ .off ∧
    base.commissioning = false ∧ base.cfs.out = false ∧ base.cfs.storeBusy = false ∧
    ordered.shu.order = some { stamp := 900, aggregate := 9000, origin := 1 } := by decide

theorem wit_Shares : 1 ≤ 4000 ∧ members [1, 2, 3, 4, 5] ≠ [] ∧
    ((members [1, 2, 3, 4, 5]).map fun m => m.bay).Nodup ∧
    ∀ m ∈ members [1, 2, 3, 4, 5], 1 ≤ m.weight := by decide

theorem wit_BusyAndUnknown :
    (base.setCfs { base.cfs with storeBusy := true }).cfs.storeBusy = true ∧
    base.cfs.storeBusy = false ∧ isUnknownCommand (commandCode 0x0000) (commandByte 0x0000) = true ∧
    isUnknownCommand (commandCode 0x0C00) (commandByte 0x0C00) = true ∧
    isUnknownCommand (commandCode 0x0B40) (commandByte 0x0B40) = true := by decide

/-- Bay 3 with bay 2 LAPSED, and then DECLARED. -/
def lapsedPeer : State := withEntry 2 (fun e => { e with presence := .lapsed }) base
def declaredPeer : State := after (.declareBound 2) (withOps 0 15000 lapsedPeer)

theorem wit_Declarations : lapsedPeer.cfs.storeBusy = false ∧ lapsedPeer.cfs.out = false ∧
    lapsedPeer.isNeighbour 1 = false ∧ lapsedPeer.isNeighbour 2 = true ∧
    (withOps 1 0 base).lpt.operand1.toNat < (withOps 1 0 base).lpt.operand0.toNat ∧
    15000 < (withOps 0 15001 base).lpt.operand1.toNat ∧
    (withOps 15000 15000 base).lpt.operand1.toNat ≤ 15000 ∧
    base.entry 2 = some (liveEntry true 2) ∧ (liveEntry true 2).presence = .live ∧
    (liveEntry true 2).saved = none ∧
    (lapsedPeer.entry 2).map (fun e => e.presence) = some .lapsed ∧
    (declaredPeer.entry 2).map (fun e => (e.presence, e.saved)) = some (.declared, some
      { presence := .lapsed, bound := some { lo := 2000, hi := 2000 } }) ∧
    (listening.entry 2).map (fun e => e.bound) = some none := by decide

theorem wit_FaultReset : State.reset.cfs.out = true ∧ base.fmn.causes = noCauses ∧
    (faulted (noCauses.add .duplicateBay) base).fmn.causes.duplicateBay = true ∧
    (faulted (noCauses.add .encoderL) twoInvalid).fmn.causes.encoderL = true ∧
    twoInvalid.mtc.left.lastRead = .invalid ∧
    (let s := faulted onlySkewTrip (base.setMtc { base.mtc with
      left := { base.mtc.left with value := some 24900 } })
     s.fmn.causes.skewTrip = true ∧ s.mtc.skew = some 150 ∧
     Param.skewTrip s.cfs.working = 150) ∧
    42000 + 50 < 42051 ∧ Param.strokeMax base.cfs.working = 42000 ∧
    (faulted (noCauses.add .stallR) base).fmn.causes ≠ noCauses ∧
    (faulted (noCauses.add .stallR) base).anyPersists = false ∧
    (faulted (noCauses.add .stallR) base).mtc.motion = .faultStop ∧
    (faulted (noCauses.add .stallR) base).mtc.closureRequest = false := by decide

/-- Bay 3 after a skew trip, its left hoist `k` counts above its right. -/
def tripped (k : Nat) : State :=
  faulted onlySkewTrip (base.setMtc { base.mtc with
    left := { base.mtc.left with value := some (24750 + k) } })

theorem wit_Trim : State.reset.cfs.out = true ∧ (withImage (conf 3) base).commissioning = true ∧
    1 < (2 : Byte).toNat ∧ base.fmn.causes ≠ onlySkewTrip ∧
    (tripped 30).fmn.causes = onlySkewTrip ∧ (tripped 30).mtc.motion = .faultStop ∧
    Param.skewWarn base.cfs.working / 2 = 30 ∧
    (tripped 31).mtc.left.value = some 24781 ∧ (tripped 31).mtc.right.value = some 24750 ∧
    (tripped 31).fmn.hold = false ∧ (tripped 31).fmn.supplyLow = false ∧
    (tripped 31).cfs.out = false ∧ (tripped 31).commissioning = false := by decide

theorem wit_CounterControl : base.cfs.storeBusy = false ∧ (4 : BitVec 4).toNat % 8 = 4 ∧
    (5 : BitVec 4).toNat % 8 = 5 ∧ (3 : BitVec 4).toNat % 8 = 3 ∧
    (withOps 18 0 base).lpt.operand0.toNat % 32 = 18 ∧
    (withOps 17 0 base).lpt.operand0.toNat % 32 = 17 ∧ base.act.frozen = false ∧
    (base.setAct { base.act with frozen := true }).act.frozen = true := by decide

/-- Bay 3 with counter 0 on FRAME_SENT at a value. -/
def counting (v : Nat) (frozen : Bool) : State :=
  base.setAct { base.act with
    freezeOnFull := true, frozen := frozen
    counters := { base.act.counters with
      c0 := { counterReset with selected := some .frameSent, value := v } } }

/-- R180, R208: a RESTART keeps the fault record and a frozen value, and a pin reset clears both; a skew of
150 at the first sample is latched and written anew. -/
theorem test_resets_of_the_record :
    let s := secondInvalid.setAct (counting 5 true).act
    let t := after (.restart 0 (good 24750) (good 24750)) s
    let u := after (.pinReset (good 24750) (good 24750)) s
    let v := after (.restart 0 (good 24900) (good 24750)) s
    t.fmn.causes = noCauses ∧ t.fmn.record = some (base.faultPicture .stallR) ∧
    t.act.counters.c0.value = 5 ∧ t.act.frozen = true ∧
    u.fmn.record = none ∧ u.act.counters = actReset.counters ∧ u.act.frozen = false ∧
    v.fmn.causes = onlySkewTrip ∧ v.fmn.record.map (fun x => x.first) = some .skewTrip := by
  decide +kernel

/-- Bay 3 with counter 1 on SKEW_MAGNITUDE at threshold 40, edge set, its condition last kept. -/
def comparing (last : Bool) : State :=
  base.setAct { base.act with
    counters := { base.act.counters with
      c1 := { counterReset with
        selected := some .skewMagnitude, threshold := 40, edge := true, last := last } } }

theorem wit_CountEvents : [0, 2147483647, 4294967295].all (fun v =>
      (counting v false).act.counters.get 0 ==
        some { counterReset with selected := some .frameSent, value := v }) = true ∧
    (counting 0 true).act.frozen = true ∧ (counting 0 false).act.frozen = false ∧
    (counting 0 false).act.counters.get 3 = some counterReset ∧
    [true, false].all (fun l => (comparing l).act.counters.get 1 == some { counterReset with
      selected := some .skewMagnitude, threshold := 40, edge := true, last := l }) = true ∧
    (comparing true).act.frozen = false ∧ counterReset.selected ≠ some .skewMagnitude ∧
    counterReset.selected ≠ some .followingError ∧ counterReset.selected ≠ some .staggerGap ∧
    State.reset.cfs.out = true ∧ State.reset.mtc.motion.bothLoops = false ∧
    State.reset.mtc.trimMoves = false := by decide

/-- R151, R202: a sample in OUT hands over the skew of its two strokes, 40 here. -/
theorem test_sample_in_out :
    let s := State.reset.setAct (comparing false).act
    (after (.servoSample (good 24790) (good 24750)) s).act.counters.c1.value = 1 ∧
    (after (.servoSample (good 24789) (good 24750)) s).act.counters.c1.value = 0 := by
  decide +kernel

theorem wit_Commissioning : base.cfs.image = none ∧ (1 : Byte).toNat ≤ 1 ∧
    State.reset.cfs.out = true ∧ State.reset.cfs.image = none ∧
    (let s := held.setMtc { held.mtc with motion := .stopped }
     s.pins.holdIn = true ∧ s.mtc.motion = .stopped ∧ s.cfs.storeBusy = false) ∧
    (withImage (conf 3) base).cfs.image = some (conf 3) ∧ (conf 3).length = 53 ∧
    51 < (52 : Byte).toNat ∧ wordInRange 51 60 = true ∧ wordInRange 51 61 = false ∧
    rangeAndConstraintReport (conf 3) = .passed ∧
    rangeAndConstraintReport ((conf 3).set 0 0) ≠ .passed := by decide +kernel

theorem wit_RegisterWrites : behavedAddresses.contains 0x00 = false ∧
    behavedAddresses.contains 0x7F = false ∧
    (base.captureEntry 0 5).isSome = true ∧ base.captureEntry 0 6 = none ∧
    ((wordBits 0x0603).take 15).length = 15 ∧
    (wordBits 0x0603).take 15 ++ [true] = wordBits 0x0603 := by decide

/-! ## Transactions of the local port (R182, R199) -/

/-- The bits clocked into a transaction, and what LP_SDO shifted out. -/
def clock (bits : List Bool) (s : State) : List (Option Bool) × State :=
  bits.foldl (fun x b =>
    let y := x.2.portClock b .noAnswer .noAnswer
    (x.1 ++ [y.1], y.2)) ([], s)

/-- The eight bits of a byte, most significant first. -/
def byteBits (b : Byte) : List Bool := (List.range 8).map fun i => b.getMsbD i

/-- A write of two words from 08h: SET FLOOR 3 and OPERAND0, and a word cut short. LP_SDO shifts out zeros
after the header. -/
theorem test_port_write :
    let x := clock (byteBits 0x08 ++ wordBits 0x0603 ++ wordBits 0x1234 ++ [true]) base.portSelect
    x.2.pending = [.setFloor 3, .registerWrite 0x09 0x1234] ∧
    x.1 = List.replicate 8 none ++ List.replicate 33 (some false) ∧
    x.2.portRelease.lpt.transaction = .idle ∧
    spiWrites (byteBits 0x08 ++ wordBits 0x0603 ++ wordBits 0x1234 ++ [true]) =
      [(0x08, 0x0603), (0x09, 0x1234)] := by decide +kernel

/-- A read of two words from 1Fh shifts out data word 15 and then data word 0, and changes nothing else; one
from 00h shifts out IDENT. -/
theorem test_port_read :
    let s := base.setLpt { base.lpt with data := 0x1111 :: List.replicate 14 0 ++ [0x9ABC] }
    (clock (byteBits 0x9F ++ List.replicate 32 false) s.portSelect).1.drop 8 =
      (wordBits 0x9ABC ++ wordBits 0x1111).map some ∧
    (clock (byteBits 0x9F ++ List.replicate 32 false) s.portSelect).2.portRelease = s ∧
    (clock (byteBits 0x80 ++ List.replicate 16 false) s.portSelect).1.drop 8 =
      (wordBits 0x3B41).map some ∧
    s.readWords 0x1F 2 = [0x9ABC, 0x1111] := by decide +kernel

/-- R199: a reset ends the transaction: no later word of it is written, and a read shifts out zeros. -/
theorem test_port_reset :
    let s := after (.pinReset .noAnswer .noAnswer) (clock (byteBits 0x09) base.portSelect).2
    let x := clock (wordBits 0xFFFF) s
    s.lpt.transaction = .ended ∧ x.2 = s ∧ x.1 = List.replicate 16 (some false) ∧
    s.portRelease.portSelect.lpt.transaction = .header [] := by decide +kernel

/-! ## OUT reads (R185, R190) -/

/-- In OUT the slot levels are the defaults 6, 5 and 3 of R85, and the committed range begins at 0. -/
theorem test_out_words :
    [Slot.tidal, .localOrder, .weir].map State.reset.levelWord = [6, 5, 3] ∧
    State.reset.committedWords.head? = some 0 := by decide

end Sys2Proof.Tests
end

namespace Sys2Proof.BayLine

open Sys2Proof Sys2Proof.Machine

/-! ## What ACT keeps while events are counted and attention causes set -/

/-- No counter selects an event. -/
def unselected (k : Counters) : Prop := k.any (fun c => c.selected.isSome) = false

/-- A counter's selection, with its value and flags where it is frozen; a counter that selects nothing is
left as it is. -/
def CounterKept (frozen : Bool) (c d : Counter) : Prop :=
  d.selected = c.selected ∧ d.threshold = c.threshold ∧ d.invert = c.invert ∧ d.edge = c.edge ∧
    (frozen = true → d.value = c.value ∧ d.half = c.half ∧ d.full = c.full) ∧
    (c.selected = none → d = c)

/-- What ACT keeps at every report and hand-over (R201 to R207): the mask, the freeze mode and every counter's
selection stay, a freeze stays, and attention causes only become set. -/
structure ActKept (a b : Act) : Prop where
  mask : b.mask = a.mask
  freezeOnFull : b.freezeOnFull = a.freezeOnFull
  frozen : a.frozen = true → b.frozen = true
  causes : a.causes ||| b.causes = b.causes
  attn : a.attn = attnOf a.causes a.mask → b.attn = attnOf b.causes b.mask
  counters : ∃ f, b.counters = a.counters.map f ∧ ∀ c, CounterKept a.frozen c (f c)
  unselected : unselected a.counters → b.frozen = a.frozen

theorem CounterKept.refl (frozen : Bool) (c : Counter) : CounterKept frozen c c := by
  simp [CounterKept]

theorem CounterKept.trans {p q : Bool} {c d e : Counter} (hpq : p = true → q = true)
    (h : CounterKept p c d) (k : CounterKept q d e) : CounterKept p c e := by
  obtain ⟨h1, h2, h3, h4, h5, h6⟩ := h
  obtain ⟨k1, k2, k3, k4, k5, k6⟩ := k
  refine ⟨k1.trans h1, k2.trans h2, k3.trans h3, k4.trans h4, fun hp => ?_, fun hn => ?_⟩
  · obtain ⟨hv, hh, hf⟩ := h5 hp
    obtain ⟨kv, kh, kf⟩ := k5 (hpq hp)
    exact ⟨kv.trans hv, kh.trans hh, kf.trans hf⟩
  · rw [k6 (h1.trans hn), h6 hn]

theorem unselected_iff (k : Counters) : unselected k ↔
    k.c0.selected = none ∧ k.c1.selected = none ∧ k.c2.selected = none ∧ k.c3.selected = none := by
  simp [unselected, Counters.any, and_assoc]

/-- Counters that select nothing stay as they are. -/
theorem ActKept.counters_of_unselected {a b : Act} (h : ActKept a b) (hu : BayLine.unselected a.counters) :
    b.counters = a.counters := by
  obtain ⟨f, hf, hk⟩ := h.counters
  obtain ⟨h0, h1, h2, h3⟩ := (unselected_iff _).1 hu
  have same (c : Counter) (hc : c.selected = none) : f c = c := by
    obtain ⟨-, -, -, -, -, unchanged⟩ := hk c
    exact unchanged hc
  rw [hf, Counters.map, same _ h0, same _ h1, same _ h2, same _ h3]

/-- FAULT, once set, stays set. -/
theorem ActKept.keeps_fault {a b : Act} (h : ActKept a b) (hbit : a.causes &&& 0x001 = 0x001) :
    b.causes &&& 0x001 = 0x001 := by
  rw [← h.causes, BitVec.and_comm, BitVec.and_or_distrib_left, BitVec.and_comm _ a.causes, hbit]
  ext i
  simp only [BitVec.getElem_and, BitVec.getElem_or]
  grind

/-- The kept selection, counter by counter. -/
theorem ActKept.counter {a b : Act} (h : ActKept a b) {n : Nat} {k : Counter}
    (hn : a.counters.get n = some k) : ∃ d, b.counters.get n = some d ∧ CounterKept a.frozen k d := by
  obtain ⟨f, hf, hk⟩ := h.counters
  refine ⟨f k, ?_, hk k⟩
  rw [hf]
  match n, hn with
  | 0, hn | 1, hn | 2, hn | 3, hn =>
    simp only [Counters.get, Option.some.injEq] at hn
    simp [Counters.get, Counters.map, hn]

theorem ActKept.refl (a : Act) : ActKept a a where
  mask := rfl
  freezeOnFull := rfl
  frozen h := h
  causes := BitVec.or_self
  attn h := h
  counters := ⟨fun c => c, rfl, CounterKept.refl _⟩
  unselected _ := rfl

theorem ActKept.trans {a b c : Act} (h : ActKept a b) (k : ActKept b c) : ActKept a c where
  mask := k.mask.trans h.mask
  freezeOnFull := k.freezeOnFull.trans h.freezeOnFull
  frozen ha := k.frozen (h.frozen ha)
  causes := by
    rw [← k.causes, ← BitVec.or_assoc, h.causes]
  attn ha := k.attn (h.attn ha)
  counters := by
    obtain ⟨f, hf, hk⟩ := h.counters
    obtain ⟨g, hg, hl⟩ := k.counters
    exact ⟨fun x => g (f x), by rw [hg, hf]; rfl, fun x => (hk x).trans h.frozen (hl (f x))⟩
  unselected hu := by
    have hb := h.counters_of_unselected hu
    rw [k.unselected (by rwa [hb]), h.unselected hu]

theorem setCauses_kept (a : Act) (bits : BitVec 10) : ActKept a (a.setCauses bits) where
  mask := rfl
  freezeOnFull := rfl
  frozen h := h
  causes := by simp only [Act.setCauses, ← BitVec.or_assoc, BitVec.or_self]
  attn _ := rfl
  counters := ⟨fun c => c, rfl, CounterKept.refl _⟩
  unselected _ := rfl

/-- An increase changes the value and the flags of a counter. -/
theorem increase_selection (c : Counter) : c.increase.selected = c.selected ∧
    c.increase.threshold = c.threshold ∧ c.increase.invert = c.invert ∧
    c.increase.edge = c.edge := by
  unfold Counter.increase
  split
  · simp
  · split <;> simp

/-- An increase of counters that select an event (R201, R203, R204). -/
theorem increaseWhere_kept (a : Act) (p : Counter → Bool)
    (hp : ∀ c, p c = true → c.selected ≠ none) : ActKept a (a.increaseWhere p) := by
  by_cases hf : a.frozen = true
  · simpa [Act.increaseWhere, hf] using ActKept.refl a
  · have hf' : a.frozen = false := by simpa using hf
    simp only [Act.increaseWhere, hf', Bool.false_eq_true, if_false]
    refine { (setCauses_kept a _) with
      frozen := fun h => absurd h hf
      counters := ⟨fun c => if p c = true then c.increase else c, rfl, fun c => ?_⟩
      unselected := fun hu => ?_ }
    · by_cases hc : p c = true
      · obtain ⟨h1, h2, h3, h4⟩ := increase_selection c
        simp [CounterKept, hc, h1, h2, h3, h4, hf', hp c hc]
      · simpa [hc] using CounterKept.refl a.frozen c
    · have none_p (c : Counter) (hc : c.selected = none) : p c = false := by
        by_contra h
        exact hp c (by simpa using h) hc
      obtain ⟨h0, h1, h2, h3⟩ := (unselected_iff _).1 hu
      simp [Counters.any, none_p _ h0, none_p _ h1, none_p _ h2, none_p _ h3, hf']

theorem setAttention_kept (c : AttnCause) (s : State) : ActKept s.act (setAttention c s).act :=
  setCauses_kept _ _

theorem countEvent_kept (e : CountedEvent) (s : State) : ActKept s.act (countEvent e s).act :=
  increaseWhere_kept _ _ fun c h => by
    rw [beq_iff_eq.1 h]
    simp

/-- The last conditions are remembered: nothing else of a counter changes (R202). -/
theorem remember_kept (v : SampleValues) (frozen : Bool) (c : Counter) :
    CounterKept frozen c (c.remember v) := by
  unfold Counter.remember
  split
  · exact CounterKept.refl _ _
  · next x hx =>
    have hs : c.selected ≠ none := fun h => by simp [SampleValues.of, h] at hx
    simp [CounterKept, hs]

theorem handOverSamples_kept (v : SampleValues) (s : State) :
    ActKept s.act (handOverSamples v s).act := by
  have counted (c : Counter) (h : c.countedAt v = true) : c.selected ≠ none := fun hc => by
    simp [Counter.countedAt, SampleValues.of, hc] at h
  refine (increaseWhere_kept s.act _ counted).trans ?_
  exact { (ActKept.refl _) with
    counters := ⟨fun c => c.remember v, rfl, remember_kept v _⟩
    unselected := fun _ => rfl }

end Sys2Proof.BayLine

namespace Sys2Proof.BayLine

open Sys2Proof Sys2Proof.Machine

/-! ## What an operation inside an event leaves of LIF, CLU and ACT -/

/-- LIF but for its CLAIM and STATUS-A slots: no attempt begins, and nothing but the mark of R10 and these two
slots changes. -/
def LifKept (l m : Lif) : Prop :=
  (∃ c b a, m = { l with claimSlot := c, statusASlot := b, attempt := a }) ∧
    (l.attempt = none → m.attempt = none)

/-- What the operations inside an event keep: LIF but for a STATUS-A made due and a CLAIM queued or withdrawn,
the listen period, the width of the claim number, and ACT as ActKept has it. While the listen period runs a
STILL claim stays as it is (R41). -/
structure InEvent (s t : State) : Prop where
  lif : LifKept s.lif t.lif
  listen : t.ptb.listen = s.ptb.listen
  number : s.clu.number < 256 → t.clu.number < 256
  still : s.ptb.listen.isSome = true → s.clu.state = .still →
    t.lif.claimSlot = s.lif.claimSlot ∧
      ∃ x y, t.clu = { s.clu with lastTest := x, surgeClosure := y }
  act : ActKept s.act t.act

theorem LifKept.refl (l : Lif) : LifKept l l := ⟨⟨_, _, _, rfl⟩, id⟩

theorem LifKept.trans {l m n : Lif} (h : LifKept l m) (k : LifKept m n) : LifKept l n := by
  obtain ⟨⟨c, b, a, rfl⟩, ha⟩ := h
  obtain ⟨⟨c', b', a', rfl⟩, ha'⟩ := k
  exact ⟨⟨c', b', a', rfl⟩, fun hn => ha' (ha hn)⟩

section
variable {s t u : State}

theorem InEvent.of_eq (hlif : t.lif = s.lif) (hlisten : t.ptb.listen = s.ptb.listen)
    (hclu : t.clu = s.clu) (hact : ActKept s.act t.act) : InEvent s t where
  lif := hlif ▸ LifKept.refl _
  listen := hlisten
  number h := hclu ▸ h
  still _ _ := ⟨by rw [hlif], _, _, hclu⟩
  act := hact

theorem InEvent.refl (s : State) : InEvent s s := .of_eq rfl rfl rfl (.refl _)

theorem InEvent.trans (h : InEvent s t) (k : InEvent t u) : InEvent s u where
  lif := h.lif.trans k.lif
  listen := k.listen.trans h.listen
  number hs := k.number (h.number hs)
  still hl hs := by
    obtain ⟨hc, x, y, hclu⟩ := h.still hl hs
    obtain ⟨kc, x', y', kclu⟩ := k.still (h.listen ▸ hl) (by rw [hclu]; exact hs)
    exact ⟨kc.trans hc, x', y', by rw [kclu, hclu]⟩
  act := h.act.trans k.act

/-- An operation on a claim in progress: it may resolve it. -/
theorem InEvent.of_active (hs : s.clu.state ≠ .still) (hlif : LifKept s.lif t.lif)
    (hlisten : t.ptb.listen = s.ptb.listen) (hnumber : t.clu.number = s.clu.number)
    (hact : ActKept s.act t.act) : InEvent s t where
  lif := hlif
  listen := hlisten
  number h := hnumber ▸ h
  still _ h := absurd h hs
  act := hact

/-! What an InEvent step leaves of LIF, field by field. -/

theorem InEvent.line (h : InEvent s t) : t.lif.line = s.lif.line := by
  obtain ⟨⟨_, _, _, e⟩, _⟩ := h.lif; rw [e]
theorem InEvent.failures (h : InEvent s t) : t.lif.failures = s.lif.failures := by
  obtain ⟨⟨_, _, _, e⟩, _⟩ := h.lif; rw [e]
theorem InEvent.offTimer (h : InEvent s t) : t.lif.offTimer = s.lif.offTimer := by
  obtain ⟨⟨_, _, _, e⟩, _⟩ := h.lif; rw [e]
theorem InEvent.sinceStatusA (h : InEvent s t) : t.lif.sinceStatusA = s.lif.sinceStatusA := by
  obtain ⟨⟨_, _, _, e⟩, _⟩ := h.lif; rw [e]
theorem InEvent.sinceStatusB (h : InEvent s t) : t.lif.sinceStatusB = s.lif.sinceStatusB := by
  obtain ⟨⟨_, _, _, e⟩, _⟩ := h.lif; rw [e]
theorem InEvent.repeatTimer (h : InEvent s t) : t.lif.repeatTimer = s.lif.repeatTimer := by
  obtain ⟨⟨_, _, _, e⟩, _⟩ := h.lif; rw [e]
theorem InEvent.surgeSlot (h : InEvent s t) : t.lif.surgeSlot = s.lif.surgeSlot := by
  obtain ⟨⟨_, _, _, e⟩, _⟩ := h.lif; rw [e]
theorem InEvent.verdictSlots (h : InEvent s t) : t.lif.verdictSlots = s.lif.verdictSlots := by
  obtain ⟨⟨_, _, _, e⟩, _⟩ := h.lif; rw [e]
theorem InEvent.orderSlot (h : InEvent s t) : t.lif.orderSlot = s.lif.orderSlot := by
  obtain ⟨⟨_, _, _, e⟩, _⟩ := h.lif; rw [e]
theorem InEvent.statusBSlot (h : InEvent s t) : t.lif.statusBSlot = s.lif.statusBSlot := by
  obtain ⟨⟨_, _, _, e⟩, _⟩ := h.lif; rw [e]
theorem InEvent.attempt (h : InEvent s t) (ha : s.lif.attempt = none) : t.lif.attempt = none :=
  h.lif.2 ha

end

/-! ## The setters, the reports and the requests to LIF -/

theorem setPtb_inEvent (s : State) {x : Ptb} (h : x.listen = s.ptb.listen) : InEvent s (s.setPtb x) :=
  .of_eq rfl h rfl (.refl _)
theorem setShu_inEvent (s : State) (x : Shu) : InEvent s (s.setShu x) := .of_eq rfl rfl rfl (.refl _)
theorem setOsl_inEvent (s : State) (x : Osl) : InEvent s (s.setOsl x) := .of_eq rfl rfl rfl (.refl _)
theorem setStm_inEvent (s : State) (x : Stm) : InEvent s (s.setStm x) := .of_eq rfl rfl rfl (.refl _)
theorem setMtc_inEvent (s : State) (x : Mtc) : InEvent s (s.setMtc x) := .of_eq rfl rfl rfl (.refl _)
theorem setFmn_inEvent (s : State) (x : Fmn) : InEvent s (s.setFmn x) := .of_eq rfl rfl rfl (.refl _)
theorem setLpt_inEvent (s : State) (x : Lpt) : InEvent s (s.setLpt x) := .of_eq rfl rfl rfl (.refl _)
theorem setCfs_inEvent (s : State) (x : Cfs) : InEvent s (s.setCfs x) := .of_eq rfl rfl rfl (.refl _)
theorem setPins_inEvent (s : State) (x : Pins) : InEvent s (s.setPins x) := .of_eq rfl rfl rfl (.refl _)

theorem updateEntry_inEvent (s : State) (b : Nat) (f : Entry → Entry) :
    InEvent s (s.updateEntry b f) := setPtb_inEvent s rfl

theorem setAttention_inEvent (c : AttnCause) (s : State) : InEvent s (setAttention c s) :=
  .of_eq rfl rfl rfl (setAttention_kept c s)

theorem countEvent_inEvent (e : CountedEvent) (s : State) : InEvent s (countEvent e s) :=
  .of_eq rfl rfl rfl (countEvent_kept e s)

theorem handOverSamples_inEvent (v : SampleValues) (s : State) : InEvent s (handOverSamples v s) :=
  .of_eq rfl rfl rfl (handOverSamples_kept v s)

theorem touch_none (c : FrameClass) {a : Option Attempt} (h : a = none) : touch c a = none := by
  simp [touch, h]

theorem queueClaim_lif (c : ClaimContent) (s : State) : LifKept s.lif (queueClaim c s).lif := by
  unfold queueClaim
  split
  · exact ⟨⟨_, _, _, rfl⟩, touch_none _⟩
  · exact .refl _

theorem withdrawClaim_lif (s : State) : LifKept s.lif (withdrawClaim s).lif := by
  unfold withdrawClaim
  split
  · exact ⟨⟨_, _, _, rfl⟩, touch_none _⟩
  · exact .refl _

theorem dueStatusA_lif (s : State) : LifKept s.lif (dueStatusA s).lif := by
  unfold dueStatusA
  split
  · exact ⟨⟨_, _, _, rfl⟩, touch_none _⟩
  · exact .refl _

theorem dueStatusA_claimSlot (s : State) : (dueStatusA s).lif.claimSlot = s.lif.claimSlot := by
  unfold dueStatusA
  split <;> rfl

theorem dueStatusA_inEvent (s : State) : InEvent s (dueStatusA s) where
  lif := dueStatusA_lif s
  listen := rfl
  number h := h
  still _ _ := ⟨dueStatusA_claimSlot s, _, _, rfl⟩
  act := .refl _

/-! ## The own claim -/

/-- No claim is made while the listen period runs (R41). -/
theorem claimConditions_of_listening {s : State} (h : s.ptb.listen.isSome = true) :
    s.claimConditions = false := by
  have hn : s.ptb.listen.isNone = false := by simpa [Option.isNone_eq_false_iff] using h
  simp [State.claimConditions, hn]

theorem makeClaim_inEvent (p t : Nat) {s : State} (h : s.ptb.listen.isSome = false) :
    InEvent s (makeClaim p t s) where
  lif := by
    unfold makeClaim
    exact queueClaim_lif _ (s.setClu _)
  listen := by simp
  number _ := by
    have hc : (makeClaim p t s).clu.number = (s.clu.number + 1) % 256 := by simp [makeClaim]
    omega
  still hl _ := by simp [h] at hl
  act := by
    rw [show (makeClaim p t s).act = s.act by simp]
    exact .refl _

theorem testClaim_inEvent (s : State) : InEvent s (testClaim s) := by
  have mark : InEvent s (s.setClu { s.clu with lastTest := s.opening }) :=
    ⟨.refl _, rfl, id, fun _ _ => ⟨rfl, _, _, rfl⟩, .refl _⟩
  unfold testClaim
  split
  · exact .refl _
  · dsimp only
    split
    · next hc =>
      have hl : s.ptb.listen.isSome = false := by
        rw [← Bool.not_eq_true]
        intro h
        rw [claimConditions_of_listening h] at hc
        exact absurd hc (by simp)
      split
      · exact mark.trans (makeClaim_inEvent _ _ (by simpa using hl))
      · exact mark
    · exact mark

theorem endClosureRow_inEvent (s : State) : InEvent s (endClosureRow s) :=
  ⟨.refl _, rfl, id, fun _ _ => ⟨rfl, _, _, rfl⟩, .refl _⟩

theorem resolveClaim_inEvent (o : ClaimOutcome) {s : State} (h : s.clu.state ≠ .still) :
    InEvent s (resolveClaim o s) := by
  refine .of_active h ?_ (by simp) (by simp) (by rw [show (resolveClaim o s).act = s.act by simp]; exact .refl _)
  unfold resolveClaim
  exact dueStatusA_lif (endClosureRow (s.setClu _))

theorem withdrawClaim_inEvent {s : State} (h : s.clu.state ≠ .still) : InEvent s (withdrawClaim s) :=
  .of_active h (withdrawClaim_lif s) rfl rfl (.refl _)

theorem abandonClaim_inEvent (s : State) : InEvent s (abandonClaim s) := by
  unfold abandonClaim
  split
  · exact .refl _
  · next h =>
    have hs : s.clu.state ≠ .still := by simp [h]
    exact (withdrawClaim_inEvent hs).trans (resolveClaim_inEvent _ (by simpa using hs))
  · next h => exact resolveClaim_inEvent _ (by simp [h])
  · next h => exact resolveClaim_inEvent _ (by simp [h])

/-! ## Motion -/

theorem setMotion_inEvent (m : Mtc) (s : State) : InEvent s (setMotion m s) := by
  unfold setMotion statusOnLeavingRest
  split
  · exact (setMtc_inEvent s m).trans (dueStatusA_inEvent _)
  · exact setMtc_inEvent s m

theorem enterFaultStop_inEvent (s : State) : InEvent s (enterFaultStop s) := setMotion_inEvent _ s

theorem closureTest_inEvent (s : State) : InEvent s (closureTest s) := by
  unfold closureTest
  split
  · exact .refl _
  · dsimp only
    split
    · exact setMtc_inEvent _ _
    · exact setMotion_inEvent _ _

theorem enterStopped_inEvent (s : State) : InEvent s (enterStopped s) :=
  (setMotion_inEvent _ s).trans <| (endClosureRow_inEvent _).trans <|
    (closureTest_inEvent _).trans (testClaim_inEvent _)

/-- A granted claim is resolved, and a claim in any other state stays. -/
theorem resolveIfGranted_inEvent (o : ClaimOutcome) (s : State) :
    InEvent s (if s.clu.state = .granted then resolveClaim o s else s) := by
  split
  · next h => exact resolveClaim_inEvent _ (by simp [h])
  · exact .refl _

theorem reportAbandon_inEvent (s : State) : InEvent s (reportAbandon s) := by
  unfold reportAbandon
  dsimp only
  refine (resolveIfGranted_inEvent .abandoned s).trans ?_
  generalize (if s.clu.state = .granted then resolveClaim .abandoned s else s) = s1
  split
  · split
    · exact setMtc_inEvent _ _
    · exact setMotion_inEvent _ _
  · exact setMtc_inEvent _ _

theorem enterSettling_inEvent (s : State) : InEvent s (enterSettling s) := by
  unfold enterSettling
  dsimp only
  split
  · exact (setMotion_inEvent _ s).trans (reportAbandon_inEvent _)
  · exact setMotion_inEvent _ s

theorem runOnExpiry_inEvent (s : State) : InEvent s (runOnExpiry s) := by
  unfold runOnExpiry
  split
  · exact enterStopped_inEvent s
  · exact .refl _

theorem endMovement_inEvent (s : State) : InEvent s (endMovement s) := by
  unfold endMovement
  dsimp only
  split
  · exact setMtc_inEvent _ _
  · exact setMtc_inEvent _ _
  · exact (setMtc_inEvent s _).trans <| (resolveIfGranted_inEvent _ _).trans <|
      (dueStatusA_inEvent _).trans (countEvent_inEvent _ _)

theorem enterHolding_inEvent (s : State) : InEvent s (enterHolding s) := by
  unfold enterHolding
  dsimp only
  have entry (t : State) : InEvent t (testClaim (closureTest (endClosureRow (endMovement t)))) :=
    (endMovement_inEvent t).trans <| (endClosureRow_inEvent _).trans <|
      (closureTest_inEvent _).trans (testClaim_inEvent _)
  split
  · exact (setMotion_inEvent _ s).trans <| (entry _).trans (runOnExpiry_inEvent _)
  · exact (setMotion_inEvent _ s).trans (entry _)

theorem newGoal_inEvent (q : Nat) (s : State) : InEvent s (newGoal q s) := by
  unfold newGoal
  split
  · exact setMtc_inEvent _ _
  · exact .refl _

theorem targetStop_inEvent (s : State) : InEvent s (targetStop s) := by
  unfold targetStop
  dsimp only
  split
  · exact setMotion_inEvent _ _
  · exact setMtc_inEvent _ _
  all_goals exact .refl _

theorem abandonStop_inEvent (s : State) : InEvent s (abandonStop s) := by
  unfold abandonStop
  dsimp only
  split
  · exact setMotion_inEvent _ _
  · exact setMtc_inEvent _ _
  · exact setMtc_inEvent _ _
  · exact reportAbandon_inEvent s
  all_goals exact .refl _

theorem handStride_inEvent (limits : Span) (e : Nat) (s : State) :
    InEvent s (handStride limits e s) := setMotion_inEvent _ s

theorem surgeSelected_inEvent (s : State) : InEvent s (surgeSelected s) :=
  (setMtc_inEvent s _).trans (closureTest_inEvent _)

theorem surgeDeselected_inEvent (s : State) : InEvent s (surgeDeselected s) := by
  unfold surgeDeselected
  dsimp only
  split
  · split
    case h_2 => exact (setMtc_inEvent s _).trans (enterSettling_inEvent _)
    all_goals exact setMtc_inEvent _ _
  · exact setMtc_inEvent _ _

theorem leavePriming_inEvent (s : State) : InEvent s (leavePriming s) := by
  unfold leavePriming
  dsimp only
  split
  · exact (setMtc_inEvent s _).trans (enterSettling_inEvent _)
  · split
    · exact setMotion_inEvent _ _
    · split
      · split
        · exact (setMtc_inEvent s _).trans (enterHolding_inEvent _)
        · exact setMotion_inEvent _ _
      · exact enterHolding_inEvent s

/-! ## Selection -/

theorem evalService_inEvent (s : State) : InEvent s (evalService s) := by
  unfold evalService
  split
  · exact .refl _
  · exact (setOsl_inEvent s _).trans (dueStatusA_inEvent _)

theorem captureRest_inEvent (s : State) : InEvent s (captureRest s) := setOsl_inEvent s _

theorem midStride_inEvent (u : Nat) (s : State) : InEvent s (midStride u s) := by
  unfold midStride
  dsimp only
  split <;> split
  · exact newGoal_inEvent _ s
  · exact targetStop_inEvent s
  · exact newGoal_inEvent _ s
  · exact targetStop_inEvent s

theorem targetReport_inEvent (s : State) : InEvent s (targetReport s) := by
  unfold targetReport
  split
  · exact .refl _
  · split
    · exact testClaim_inEvent s
    · exact .refl _
    · exact .refl _
    · split
      · split
        · exact midStride_inEvent _ s
        · split
          · exact targetStop_inEvent s
          · exact .refl _
      · exact .refl _

theorem surgeReport_inEvent (before : Slot) (s : State) : InEvent s (surgeReport before s) := by
  unfold surgeReport
  split
  · exact .refl _
  · split
    · exact surgeSelected_inEvent s
    · split
      · exact surgeDeselected_inEvent s
      · exact .refl _

theorem reselect_inEvent (s : State) : InEvent s (reselect s) := by
  have rest (t : State) : InEvent t (surgeReport s.osl.selected (targetReport (evalService t))) :=
    (evalService_inEvent t).trans <| (targetReport_inEvent _).trans (surgeReport_inEvent _ _)
  unfold reselect
  dsimp only
  split
  · exact .refl _
  · split
    · exact (setOsl_inEvent s _).trans <| (captureRest_inEvent _).trans (rest _)
    · exact (setOsl_inEvent s _).trans (rest _)

theorem setTidalSlot_inEvent (b : Bool) (s : State) : InEvent s (setTidalSlot b s) := by
  unfold setTidalSlot
  split
  · exact .refl _
  · exact (setOsl_inEvent s _).trans (reselect_inEvent _)

theorem handWeir_inEvent (share : Nat) (s : State) : InEvent s (handWeir share s) := by
  unfold handWeir
  dsimp only
  split
  · exact (setOsl_inEvent s _).trans (reselect_inEvent _)
  · split
    · exact .refl _
    · split
      · exact (setOsl_inEvent s _).trans (targetReport_inEvent _)
      · exact setOsl_inEvent s _

theorem setLocal_inEvent (target : Nat) (s : State) : InEvent s (setLocal target s) := by
  unfold setLocal
  dsimp only
  split
  · exact (setOsl_inEvent s _).trans (reselect_inEvent _)
  · split
    · exact .refl _
    · split
      · exact (setOsl_inEvent s _).trans (targetReport_inEvent _)
      · exact setOsl_inEvent s _

/-! ## The surge epoch -/

theorem surgeAbandon_inEvent (s : State) : InEvent s (surgeAbandon s) := by
  unfold surgeAbandon
  split
  · exact .refl _
  · next h =>
    have hs : s.clu.state ≠ .still := by simp [h]
    exact (withdrawClaim_inEvent hs).trans (resolveClaim_inEvent _ (by simpa using hs))
  · next h => exact resolveClaim_inEvent _ (by simp [h])
  · next h =>
    have hs : s.clu.state ≠ .still := by simp [h]
    split
    · exact abandonStop_inEvent s
    · exact abandonStop_inEvent s
    · exact abandonStop_inEvent s
    · exact (setMtc_inEvent s _).trans (resolveClaim_inEvent _ (by simpa using hs))
    all_goals exact resolveClaim_inEvent _ hs

theorem changeEpoch_inEvent (e : Nat) (s : State) : InEvent s (changeEpoch e s) := by
  unfold changeEpoch
  split
  · exact .refl _
  · dsimp only
    have adopt : InEvent s (setAttention .surgeChange (s.setStm { s.stm with epoch := e })) :=
      (setStm_inEvent s _).trans (setAttention_inEvent _ _)
    split
    · exact adopt
    · have closing (t : State) (b : Bool) : InEvent t (t.setClu { t.clu with surgeClosure := b }) :=
        ⟨.refl _, rfl, id, fun _ _ => ⟨rfl, _, _, rfl⟩, .refl _⟩
      have claim (t : State) (odd : Bool) : InEvent t (if t.cfs.out then t
          else if odd then surgeAbandon t else endClosureRow (testClaim t)) := by
        split
        · exact .refl _
        · split
          · exact surgeAbandon_inEvent t
          · exact (testClaim_inEvent t).trans (endClosureRow_inEvent _)
      exact adopt.trans <| (closing _ _).trans <| (setOsl_inEvent _ _).trans <|
        (endClosureRow_inEvent _).trans <| (reselect_inEvent _).trans (claim _ _)

theorem settleNow_inEvent (s : State) : InEvent s (settleNow s) := setStm_inEvent s _

theorem chooseSources_inEvent (s : State) : InEvent s (chooseSources s) := by
  unfold chooseSources
  split
  · exact .refl _
  · dsimp only
    split
    · exact (setStm_inEvent s _).trans (setAttention_inEvent _ _)
    · exact setStm_inEvent s _

/-! ## Faults and conditions -/

theorem firstFault_inEvent (c : Cause) (s : State) : InEvent s (firstFault c s) :=
  (setFmn_inEvent s _).trans <| (enterFaultStop_inEvent _).trans <| (abandonClaim_inEvent _).trans <|
    (evalService_inEvent _).trans (setAttention_inEvent _ _)

theorem secondFault_inEvent (c : Cause) (s : State) : InEvent s (secondFault c s) := by
  unfold secondFault
  dsimp only
  split
  · exact (setFmn_inEvent s _).trans <| (enterFaultStop_inEvent _).trans (setAttention_inEvent _ _)
  · exact (setFmn_inEvent s _).trans (setAttention_inEvent _ _)

theorem reportFault_inEvent (c : Cause) (s : State) : InEvent s (reportFault c s) := by
  unfold reportFault
  split
  · exact .refl _
  · split
    · exact firstFault_inEvent c s
    · exact secondFault_inEvent c s

theorem reportIf_inEvent (p : Bool) (c : Cause) (s : State) : InEvent s (reportIf p c s) := by
  unfold reportIf
  split
  · exact reportFault_inEvent c s
  · exact .refl _

theorem clearFaults_inEvent (s : State) : InEvent s (clearFaults s) := by
  unfold clearFaults
  dsimp only
  have rest (t : State) : InEvent t (testClaim (evalService t)) :=
    (evalService_inEvent t).trans (testClaim_inEvent _)
  split
  · exact (setFmn_inEvent s _).trans <| (enterStopped_inEvent _).trans (rest _)
  · exact (setFmn_inEvent s _).trans (rest _)

theorem stopForCondition_inEvent (s : State) : InEvent s (stopForCondition s) := by
  unfold stopForCondition
  split
  · exact .refl _
  · exact (enterFaultStop_inEvent s).trans (abandonClaim_inEvent _)

theorem conditionEnds_inEvent (s : State) : InEvent s (conditionEnds s) := by
  unfold conditionEnds
  split
  · exact .refl _
  · exact closureTest_inEvent s

theorem takeHold_inEvent (s : State) : InEvent s (takeHold s) :=
  (setFmn_inEvent s _).trans <| (stopForCondition_inEvent _).trans (evalService_inEvent _)

theorem takeSupplyLow_inEvent (s : State) : InEvent s (takeSupplyLow s) :=
  (setFmn_inEvent s _).trans (stopForCondition_inEvent _)

/-! ## Shares and the peer table -/

theorem runShares_inEvent (adoption : Bool) (s : State) : InEvent s (runShares adoption s) := by
  unfold runShares
  split
  · exact .refl _
  · dsimp only
    split
    · exact (setShu_inEvent s _).trans <| (setShu_inEvent _ _).trans (handWeir_inEvent _ _)
    · exact setShu_inEvent s _

theorem shareReport_inEvent (s : State) : InEvent s (shareReport s) := by
  unfold shareReport
  split
  · exact .refl _
  · exact runShares_inEvent _ s

theorem openingReport_inEvent (b opening : Nat) (s : State) : InEvent s (openingReport b opening s) := by
  unfold openingReport
  split
  · exact .refl _
  · split
    · exact .refl _
    · split
      · exact shareReport_inEvent s
      · exact .refl _

theorem weightReport_inEvent (b : Nat) (s : State) : InEvent s (weightReport b s) := by
  unfold weightReport
  split
  · exact .refl _
  · split
    · exact shareReport_inEvent s
    · exact .refl _

theorem reportUnknown_inEvent (s : State) : InEvent s (reportUnknown s) := by
  unfold reportUnknown
  split
  · exact setAttention_inEvent _ s
  · exact .refl _

/-! ## Verdicts and grants -/

theorem setClu_inEvent {s : State} {x : Clu} (h : s.clu.state ≠ .still)
    (hx : x.number = s.clu.number) : InEvent s (s.setClu x) :=
  .of_active h (.refl _) rfl hx (.refl _)

theorem grantClaim_inEvent {s : State} (h : s.clu.state ≠ .still) : InEvent s (grantClaim s) := by
  unfold grantClaim
  dsimp only
  have granted : InEvent s (countEvent .claimGranted
      (s.setClu { s.clu with state := .granted, window := none })) := by
    refine (setClu_inEvent h ?_).trans (countEvent_inEvent _ _)
    rfl
  refine granted.trans ?_
  split
  · exact handStride_inEvent _ _ _
  · exact resolveClaim_inEvent _ (by simp)

theorem demurClaim_inEvent {s : State} (h : s.clu.state ≠ .still) : InEvent s (demurClaim s) := by
  have resolved : InEvent s (countEvent .claimDemurred (resolveClaim .demurred s)) :=
    (resolveClaim_inEvent _ h).trans (countEvent_inEvent _ _)
  exact .of_active h resolved.lif (by simp) (by simp) resolved.act

theorem applyVerdicts_inEvent {s : State} (h : s.clu.state ≠ .still) : InEvent s (applyVerdicts s) := by
  unfold applyVerdicts
  split
  · exact demurClaim_inEvent h
  · split
    · exact grantClaim_inEvent h
    · exact .refl _

theorem takeOwnClaim_inEvent (c : ClaimContent) (s : State) : InEvent s (takeOwnClaim c s) := by
  unfold takeOwnClaim
  split
  · next h =>
    simp only [Bool.and_eq_true, decide_eq_true_eq] at h
    have hs : s.clu.state ≠ .still := by simp [h.1]
    refine (setClu_inEvent hs ?_).trans <| (countEvent_inEvent .claimSent _).trans
      (applyVerdicts_inEvent ?_)
    · rfl
    · simp
  · exact .refl _

theorem takeVerdict_inEvent (b : Nat) (c : VerdictContent) (s : State) :
    InEvent s (takeVerdict b c s) := by
  unfold takeVerdict
  split
  · exact .refl _
  · split
    · exact countEvent_inEvent _ s
    · split
      · exact countEvent_inEvent _ s
      · split
        · exact .refl _
        · next hp =>
          have hs : s.clu.state ≠ .still := by
            rintro h
            simp [h] at hp
          split
          · exact .refl _
          · split
            · exact .refl _
            · have recorded : InEvent s (recordVerdict b c.verdict s) := by
                unfold recordVerdict
                exact setClu_inEvent hs (by split <;> rfl)
              refine recorded.trans (applyVerdicts_inEvent ?_)
              unfold recordVerdict
              split <;> exact hs

theorem claimLineOff_inEvent (s : State) : InEvent s (claimLineOff s) := by
  unfold claimLineOff
  split
  · exact .refl _
  · next h => exact resolveClaim_inEvent _ (by simp [h])
  · next h => exact resolveClaim_inEvent _ (by simp [h])
  · exact abandonStop_inEvent s

/-! ## The servo sample -/

theorem countRead_inEvent (c : Channel) (s : State) : InEvent s (countRead c s) := by
  unfold countRead
  split
  · exact countEvent_inEvent _ s
  · exact .refl _

theorem readEncoders_inEvent (l r : EncoderRead) (s : State) : InEvent s (readEncoders l r s) :=
  (setMtc_inEvent s _).trans <| (countRead_inEvent _ _).trans <| (countRead_inEvent _ _).trans <|
    (reportIf_inEvent _ _ _).trans (reportIf_inEvent _ _ _)

theorem sampleTests_inEvent (s : State) : InEvent s (sampleTests s) :=
  (reportIf_inEvent _ _ s).trans <| (reportIf_inEvent _ _ _).trans (setMtc_inEvent _ _)

theorem advanceSetpoint_inEvent (s : State) : InEvent s (advanceSetpoint s) := by
  unfold advanceSetpoint
  dsimp only
  split
  · split
    · exact (setMtc_inEvent s _).trans (enterSettling_inEvent _)
    · exact setMtc_inEvent s _
  · split
    · exact setMtc_inEvent s _
    · exact .refl _

theorem sampleDrives_inEvent (s : State) : InEvent s (sampleDrives s) :=
  (advanceSetpoint_inEvent s).trans <| (setMtc_inEvent _ _).trans <| (setMtc_inEvent _ _).trans <|
    (reportIf_inEvent _ _ _).trans (reportIf_inEvent _ _ _)

theorem settleStep_inEvent (s : State) : InEvent s (settleStep s) := by
  unfold settleStep
  dsimp only
  split
  · split
    · exact .refl _
    · split
      · exact (setMtc_inEvent s _).trans (enterHolding_inEvent _)
      · exact setMtc_inEvent s _
  · exact setMtc_inEvent s _

theorem settleAndTrim_inEvent (settling : Bool) (s : State) : InEvent s (settleAndTrim settling s) := by
  have settled : InEvent s (if settling && s.mtc.motion == .settling then settleStep s else s) := by
    split
    · exact settleStep_inEvent s
    · exact .refl _
  unfold settleAndTrim
  dsimp only
  refine settled.trans ?_
  generalize (if settling && s.mtc.motion == .settling then settleStep s else s) = s1
  split
  · exact enterFaultStop_inEvent _
  · exact .refl _

theorem leaveFaultStop_inEvent (s : State) : InEvent s (leaveFaultStop s) := by
  unfold leaveFaultStop
  split
  · exact enterStopped_inEvent s
  · exact .refl _

theorem sampleSteps_inEvent (s : State) : InEvent s (sampleSteps s) :=
  (sampleTests_inEvent s).trans <| (sampleDrives_inEvent _).trans <| (settleAndTrim_inEvent _ _).trans <|
    (handOverSamples_inEvent _ _).trans (leaveFaultStop_inEvent _)

theorem awaitRest_inEvent (s : State) : InEvent s (awaitRest s) := by
  unfold awaitRest
  split
  · exact captureRest_inEvent s
  · exact .refl _

theorem firstStroke_inEvent (before : Option Nat) (s : State) : InEvent s (firstStroke before s) := by
  unfold firstStroke
  split
  · exact closureTest_inEvent s
  · exact .refl _

theorem openingTest_inEvent (s : State) : InEvent s (openingTest s) := by
  unfold openingTest
  split
  · exact .refl _
  · exact testClaim_inEvent s

theorem sample_inEvent (l r : EncoderRead) (s : State) : InEvent s (sample l r s) := by
  unfold sample
  dsimp only
  refine (readEncoders_inEvent l r s).trans ?_
  split
  · exact handOverSamples_inEvent _ _
  · exact (sampleSteps_inEvent _).trans <| (awaitRest_inEvent _).trans <|
      (firstStroke_inEvent _ _).trans (openingTest_inEvent _)

/-! ## The stage sample -/

theorem countSample_inEvent (x : Sample) (s : State) : InEvent s (countSample x s) := by
  unfold countSample
  split
  · exact countEvent_inEvent _ s
  · exact .refl _

theorem validityStep_inEvent (before : Stm) (s : State) : InEvent s (validityStep before s) := by
  unfold validityStep
  split
  · exact chooseSources_inEvent s
  · exact .refl _

theorem changeTide_inEvent (t : Tidal) (s : State) : InEvent s (changeTide t s) :=
  (setStm_inEvent s _).trans <| (setAttention_inEvent _ _).trans (setTidalSlot_inEvent _ _)

theorem tidalStep_inEvent (s : State) : InEvent s (tidalStep s) := by
  unfold tidalStep
  split
  · unfold tidalRules
    dsimp only
    split
    · exact changeTide_inEvent _ s
    · split
      · split
        · exact changeTide_inEvent _ s
        · exact setStm_inEvent s _
      · exact setStm_inEvent s _
  · exact .refl _

end Sys2Proof.BayLine

namespace Sys2Proof.BayLine

open Sys2Proof Sys2Proof.Machine

/-! ## The records that every step keeps -/

/-- What every command but a reset keeps: OUT and the working copy, the bays of the table, the ages, the rings,
the conditions, and the width of each register (R19, R21, R103, R175, R176). -/
structure Records (s t : State) : Prop where
  out : t.cfs.out = s.cfs.out
  working : t.cfs.working = s.cfs.working
  bays : t.ptb.entries.map (fun e => e.bay) = s.ptb.entries.map fun e => e.bay
  ages : s.agesOk = true → t.agesOk = true
  rings : s.ringsOk = true → t.ringsOk = true
  conditions : s.conditionsOk = true → t.conditionsOk = true
  failures : s.lif.failures ≤ 16 → t.lif.failures ≤ 16
  number : s.clu.number < 256 → t.clu.number < 256
  epoch : s.stm.epoch < 16 → t.stm.epoch < 16
  left : s.mtc.left.invalidRun ≤ 65535 → t.mtc.left.invalidRun ≤ 65535
  right : s.mtc.right.invalidRun ≤ 65535 → t.mtc.right.invalidRun ≤ 65535
  data : s.lpt.data.length = 16 → t.lpt.data.length = 16

/-- The blocks and fields that the records speak of, but for the failure count and the claim number, stand as
they stood, and the epoch keeps its width. -/
def SameRecords (s t : State) : Prop :=
  t.cfs.out = s.cfs.out ∧ t.cfs.working = s.cfs.working ∧ t.ptb.entries = s.ptb.entries ∧
    t.stm.ringU = s.stm.ringU ∧ t.stm.ringD = s.stm.ringD ∧ (s.stm.epoch < 16 → t.stm.epoch < 16) ∧
    t.pins = s.pins ∧ t.fmn.hold = s.fmn.hold ∧ t.fmn.supplyLow = s.fmn.supplyLow ∧
    t.fmn.good = s.fmn.good ∧ t.mtc.left = s.mtc.left ∧ t.mtc.right = s.mtc.right ∧
    t.lpt.data.length = s.lpt.data.length

/-- What every taking of a frame keeps: the records, the line state and the failure count; no attempt
begins. -/
structure LineKept (s t : State) : Prop extends Records s t where
  line : t.lif.line = s.lif.line
  sameFailures : t.lif.failures = s.lif.failures
  attempt : s.lif.attempt = none → t.lif.attempt = none

section
variable {s t u : State}

theorem SameRecords.records (h : SameRecords s t) (hf : s.lif.failures ≤ 16 → t.lif.failures ≤ 16)
    (hn : s.clu.number < 256 → t.clu.number < 256) : Records s t := by
  obtain ⟨out, working, entries, ringU, ringD, epoch, pins, hold, low, good, left, right, data⟩ := h
  exact ⟨out, working, by rw [entries], fun x => by simpa [State.agesOk, entries] using x,
    fun x => by simpa [State.ringsOk, ringU, ringD] using x,
    fun x => by simpa [State.conditionsOk, pins, hold, low, good] using x, hf, hn, epoch,
    by rw [left]; exact id, by rw [right]; exact id, by rw [data]; exact id⟩

theorem Records.refl (s : State) : Records s s := ⟨rfl, rfl, rfl, id, id, id, id, id, id, id, id, id⟩

theorem Records.trans (h : Records s t) (k : Records t u) : Records s u where
  out := k.out.trans h.out
  working := k.working.trans h.working
  bays := k.bays.trans h.bays
  ages x := k.ages (h.ages x)
  rings x := k.rings (h.rings x)
  conditions x := k.conditions (h.conditions x)
  failures x := k.failures (h.failures x)
  number x := k.number (h.number x)
  epoch x := k.epoch (h.epoch x)
  left x := k.left (h.left x)
  right x := k.right (h.right x)
  data x := k.data (h.data x)

theorem InEvent.lineKept (h : InEvent s t) (hr : SameRecords s t) : LineKept s t :=
  { hr.records (h.failures ▸ id) h.number with
    line := h.line
    sameFailures := h.failures
    attempt := h.attempt }

theorem LineKept.refl (s : State) : LineKept s s := { Records.refl s with
  line := rfl
  sameFailures := rfl
  attempt := id }

theorem LineKept.trans (h : LineKept s t) (k : LineKept t u) : LineKept s u :=
  { h.toRecords.trans k.toRecords with
    line := k.line.trans h.line
    sameFailures := k.sameFailures.trans h.sameFailures
    attempt := fun x => k.attempt (h.attempt x) }

/-- Where CLU stands as it stood, only LIF is to be looked at. -/
theorem LineKept.of_clu (hclu : t.clu = s.clu) (hr : SameRecords s t) (hline : t.lif.line = s.lif.line)
    (hfail : t.lif.failures = s.lif.failures)
    (hatt : s.lif.attempt = none → t.lif.attempt = none) : LineKept s t :=
  { hr.records (hfail ▸ id) (hclu ▸ id) with
    line := hline
    sameFailures := hfail
    attempt := hatt }

/-- A change of an entry that keeps its bay and bounds its age (R19, R21). -/
theorem updateEntry_lineKept (s : State) (b : Nat) (f : Entry → Entry) (hb : ∀ e, (f e).bay = e.bay)
    (ha : ∀ e, e.age ≤ 65535 → (f e).age ≤ 65535) : LineKept s (s.updateEntry b f) :=
  { Records.refl s with
    bays := bays_updateEntry s b f hb
    ages := fun h => by
      simp only [State.agesOk, State.updateEntry, State.setPtb_ptb, List.all_map, List.all_eq_true,
        decide_eq_true_eq, Function.comp] at h ⊢
      intro e he
      split
      · exact ha e (h e he)
      · exact h e he
    line := rfl
    sameFailures := rfl
    attempt := id }

end

/-! ## Frames taken and sent -/

theorem queueSurge_attempt (e : Nat) {s : State} (h : s.lif.attempt = none) :
    (queueSurge e s).lif.attempt = none := by
  unfold queueSurge
  split
  · exact touch_none _ h
  · exact h

theorem queueVerdict_attempt (v : VerdictContent) {s : State} (h : s.lif.attempt = none) :
    (queueVerdict v s).lif.attempt = none := by
  unfold queueVerdict
  split
  · exact touch_none _ h
  · exact h

theorem queueOrder_attempt (c : OrderContent) {s : State} (h : s.lif.attempt = none) :
    (queueOrder c s).lif.attempt = none := by
  unfold queueOrder
  split
  · exact touch_none _ h
  · exact h

theorem queueSurge_lineKept (e : Nat) (s : State) : LineKept s (queueSurge e s) :=
  .of_clu (by simp) (by simp [SameRecords]) (by simp) (by simp) (queueSurge_attempt e)

theorem queueVerdict_lineKept (v : VerdictContent) (s : State) : LineKept s (queueVerdict v s) :=
  .of_clu (by simp) (by simp [SameRecords]) (by simp) (by simp) (queueVerdict_attempt v)

theorem queueOrder_lineKept (c : OrderContent) (s : State) : LineKept s (queueOrder c s) :=
  .of_clu (by simp) (by simp [SameRecords]) (by simp) (by simp) (queueOrder_attempt c)

theorem restartRepeat_lineKept (s : State) : LineKept s (restartRepeat s) :=
  .of_clu rfl (by simp [SameRecords]) rfl rfl id

/-- A change of the epoch writes the epoch and no other field of STM (R113). -/
theorem changeEpoch_stm (e : Nat) (s : State) : (changeEpoch e s).stm = { s.stm with epoch := e } := by
  unfold changeEpoch
  split
  · next h => rw [h]
  · dsimp only
    split
    · simp
    · split
      · simp
      · split <;> simp

theorem changeEpoch_lineKept {e : Nat} {s : State} (he : s.stm.epoch < 16 → e < 16) :
    LineKept s (changeEpoch e s) :=
  (changeEpoch_inEvent e s).lineKept (by simpa [SameRecords, changeEpoch_stm] using he)

/-- An even epoch below 16 leaves room for the raise (R112). -/
theorem raiseEpoch_lineKept (s : State) : LineKept s (raiseEpoch s) := by
  unfold raiseEpoch
  split
  · exact .refl s
  · next h =>
    simp only [State.epochOdd, beq_iff_eq] at h
    exact (changeEpoch_lineKept (by omega)).trans (queueSurge_lineKept _ _)

theorem raiseTests_lineKept (s : State) : LineKept s (raiseTests s) := by
  have stage : LineKept s (if s.stageCondition then raiseEpoch s else s) := by
    split
    · exact raiseEpoch_lineKept s
    · exact .refl s
  unfold raiseTests
  dsimp only
  split
  · exact .refl s
  · refine stage.trans ?_
    generalize (if s.stageCondition then raiseEpoch s else s) = s1
    split
    · exact raiseEpoch_lineKept s1
    · exact .refl s1

theorem clearEpoch_lineKept (s : State) : LineKept s (clearEpoch s) := by
  unfold clearEpoch
  split
  · exact (changeEpoch_lineKept (by omega)).trans <| (queueSurge_lineKept _ _).trans
      (raiseTests_lineKept _)
  · exact .refl s

theorem adoptEpoch_lineKept {e : Nat} (he : e < 16) (s : State) : LineKept s (adoptEpoch e s) := by
  unfold adoptEpoch
  dsimp only
  split
  · exact .refl s
  · split
    · exact (changeEpoch_lineKept fun _ => he).trans (raiseTests_lineKept _)
    · exact changeEpoch_lineKept fun _ => he

theorem settleNow_lineKept (s : State) : LineKept s (settleNow s) :=
  (settleNow_inEvent s).lineKept (by simp [SameRecords])

theorem surgeFromPeer_lineKept {e : Nat} (he : e < 16) (s : State) :
    LineKept s (surgeFromPeer e s) := by
  unfold surgeFromPeer
  split
  · split
    · exact adoptEpoch_lineKept he s
    · exact .refl s
  · exact (settleNow_lineKept s).trans (adoptEpoch_lineKept he _)

theorem surgeFromSelf_lineKept {e : Nat} (he : e < 16) (s : State) :
    LineKept s (surgeFromSelf e s) := by
  unfold surgeFromSelf
  split
  · exact adoptEpoch_lineKept he s
  · exact .refl s

theorem epochFromStatus_lineKept {e : Nat} (he : e < 16) (fresh : Bool) (s : State) :
    LineKept s (epochFromStatus e fresh s) := by
  unfold epochFromStatus
  split
  · split
    · exact adoptEpoch_lineKept he s
    · exact .refl s
  · exact (settleNow_lineKept s).trans (adoptEpoch_lineKept he _)

/-! The operations that stay clear of the records. -/

theorem testClaim_lineKept (s : State) : LineKept s (testClaim s) :=
  (testClaim_inEvent s).lineKept (by simp [SameRecords])
theorem evalService_lineKept (s : State) : LineKept s (evalService s) :=
  (evalService_inEvent s).lineKept (by simp [SameRecords])
theorem shareReport_lineKept (s : State) : LineKept s (shareReport s) :=
  (shareReport_inEvent s).lineKept (by simp [SameRecords])
theorem chooseSources_lineKept (s : State) : LineKept s (chooseSources s) :=
  (chooseSources_inEvent s).lineKept (by simp [SameRecords])
theorem reportUnknown_lineKept (s : State) : LineKept s (reportUnknown s) :=
  (reportUnknown_inEvent s).lineKept (by simp [SameRecords])
theorem openingReport_lineKept (b opening : Nat) (s : State) : LineKept s (openingReport b opening s) :=
  (openingReport_inEvent b opening s).lineKept (by simp [SameRecords])
theorem weightReport_lineKept (b : Nat) (s : State) : LineKept s (weightReport b s) :=
  (weightReport_inEvent b s).lineKept (by simp [SameRecords])
theorem countEvent_lineKept (e : CountedEvent) (s : State) : LineKept s (countEvent e s) :=
  (countEvent_inEvent e s).lineKept (by simp [SameRecords])
theorem setAttention_lineKept (c : AttnCause) (s : State) : LineKept s (setAttention c s) :=
  (setAttention_inEvent c s).lineKept (by simp [SameRecords])
theorem runShares_lineKept (adoption : Bool) (s : State) : LineKept s (runShares adoption s) :=
  (runShares_inEvent adoption s).lineKept (by simp [SameRecords])
theorem takeVerdict_lineKept (b : Nat) (c : VerdictContent) (s : State) : LineKept s (takeVerdict b c s) :=
  (takeVerdict_inEvent b c s).lineKept (by simp [SameRecords])
theorem takeOwnClaim_lineKept (c : ClaimContent) (s : State) : LineKept s (takeOwnClaim c s) :=
  (takeOwnClaim_inEvent c s).lineKept (by simp [SameRecords])
theorem reportFault_lineKept (c : Cause) (s : State) : LineKept s (reportFault c s) :=
  (reportFault_inEvent c s).lineKept (by simp [SameRecords])

/-- An operation under a test. -/
theorem LineKept.ite {p : Prop} [Decidable p] {s t : State} (h : LineKept s t) :
    LineKept s (if p then t else s) := by
  split
  · exact h
  · exact .refl s

theorem takeOrder_lineKept (sender : Nat) (c : OrderContent) (s : State) :
    LineKept s (takeOrder sender c s) := by
  have adopted : LineKept s (s.setShu { s.shu with
      order := some { stamp := c.stamp, aggregate := c.aggregate, origin := sender } }) :=
    (setShu_inEvent s _).lineKept (by simp [SameRecords])
  unfold takeOrder
  split
  · exact .refl s
  · exact adopted.trans <| (setAttention_lineKept _ _).trans <| (restartRepeat_lineKept _).trans
      (runShares_lineKept _ _)

theorem heard_lineKept (b : Nat) (s : State) : LineKept s (heard b s) := by
  unfold heard
  split
  · exact .refl s
  · dsimp only
    refine (updateEntry_lineKept s b Entry.heard (fun _ => rfl) fun _ _ => Nat.zero_le _).trans ?_
    split
    · exact .refl _
    · split
      · exact shareReport_lineKept _
      · exact .refl _
      · exact (shareReport_lineKept _).trans (chooseSources_lineKept _)
      · exact (shareReport_lineKept _).trans (chooseSources_lineKept _)

theorem listenEnd_lineKept (s : State) : LineKept s (listenEnd s) := by
  have ended : LineKept s (s.setPtb { s.ptb with listen := none }) :=
    .of_clu rfl (by simp [SameRecords]) rfl rfl id
  exact ended.trans <| (evalService_lineKept _).trans <| (reportUnknown_lineKept _).trans
    (testClaim_lineKept _)

/-- A STATUS-A makes its reports one after another (R23). -/
theorem takeStatusA_lineKept (b : Nat) (c : StatusA) (s : State) : LineKept s (takeStatusA b c s) := by
  unfold takeStatusA
  split
  · exact .refl s
  · exact (updateEntry_lineKept s b _ (fun _ => by split <;> rfl) fun _ h => by split <;> exact h).trans <|
      (shareReport_lineKept _).ite.trans <| (openingReport_lineKept _ _ _).ite.trans <|
      (testClaim_lineKept _).ite.trans (listenEnd_lineKept _).ite

theorem takeStatusB_lineKept {c : StatusB} (hc : c.epoch < 16) (b : Nat) (s : State) :
    LineKept s (takeStatusB b c s) := by
  unfold takeStatusB
  split
  · exact .refl s
  · dsimp only
    refine (updateEntry_lineKept s b (Entry.writeStatusB c) (fun _ => rfl) fun _ h => h).trans ?_
    split
    · exact .refl _
    · exact (epochFromStatus_lineKept hc _ _).trans <| (weightReport_lineKept _ _).ite.trans
        (chooseSources_lineKept _).ite

theorem writeBound_lineKept (b : Nat) (x : Span) (s : State) : LineKept s (writeBound b x s) := by
  have written : LineKept s (s.updateEntry b fun e => { e with bound := some x }) :=
    updateEntry_lineKept s b _ (fun _ => rfl) fun _ h => h
  unfold writeBound
  dsimp only
  split
  · exact written
  · exact written.trans (testClaim_lineKept _)

theorem judgeClaim_lineKept (b : Nat) (c : ClaimContent) (s : State) : LineKept s (judgeClaim b c s) := by
  have judged (j : Judged) : LineKept s (s.updateEntry b fun e => { e with judged := some j }) :=
    updateEntry_lineKept s b _ (fun _ => rfl) fun _ h => h
  exact (judged _).trans <| (writeBound_lineKept _ _ _).ite.trans (queueVerdict_lineKept _ _)

theorem takeClaim_lineKept (b : Nat) (c : ClaimContent) (s : State) : LineKept s (takeClaim b c s) := by
  unfold takeClaim
  split
  · exact .refl s
  · split
    · split
      · exact queueVerdict_lineKept _ s
      · exact judgeClaim_lineKept b c s
    · exact judgeClaim_lineKept b c s

/-- The epoch that a frame carries, if it carries one, has its four bits (R2). -/
def epochInRange : Frame → Prop
  | .surge e => e < 16
  | .statusB c => c.epoch < 16
  | .verdict _ | .claim _ | .order _ | .statusA _ => True

theorem epochInRange_of_parse {k : Nat} {data : List Byte} {f : Frame}
    (h : parsePayload k data = some f) : epochInRange f := by
  unfold parsePayload at h
  split at h
  · cases h
    exact Nat.mod_lt _ (by omega)
  · simp only [Option.map_eq_some_iff] at h
    obtain ⟨_, _, rfl⟩ := h
    trivial
  · split at h <;> cases h
    trivial
  · split at h <;> cases h
    trivial
  · split at h <;> cases h
    trivial
  · split at h
    · split at h <;> cases h
      exact Nat.mod_lt _ (by omega)
    · cases h
  · cases h

theorem deliver_lineKept {f : Frame} (hf : epochInRange f) (b : Nat) (s : State) :
    LineKept s (deliver b f s) := by
  cases f with
  | surge e => exact surgeFromPeer_lineKept hf s
  | verdict c => exact takeVerdict_lineKept b c s
  | claim c => exact takeClaim_lineKept b c s
  | order c => exact takeOrder_lineKept b c s
  | statusA c => exact takeStatusA_lineKept b c s
  | statusB c => exact takeStatusB_lineKept hf b s

/-- A frame of another sender changes neither the line state nor the failure count (R9, R15). -/
theorem receiveFrame_lineKept (f : RawFrame) (s : State) : LineKept s (receiveFrame f s) := by
  unfold receiveFrame
  split
  · exact countEvent_lineKept _ s
  · split
    · exact (reportFault_lineKept _ s).trans (countEvent_lineKept _ _)
    · split
      · exact countEvent_lineKept _ s
      · next c hc =>
        simp only [parseFrame, Option.filter_eq_some_iff] at hc
        exact (countEvent_lineKept _ s).trans <| (heard_lineKept _ _).trans
          (deliver_lineKept (epochInRange_of_parse hc.1) _ _)

theorem ownStatusA_lineKept (c : StatusA) (s : State) : LineKept s (ownStatusA c s) := by
  have timed (t : State) : LineKept t (t.setLif { t.lif with sinceStatusA := some 0 }) :=
    .of_clu rfl (by simp [SameRecords]) rfl rfl id
  have marked (t : State) : LineKept t (t.setClu { t.clu with freshTaken := true }) :=
    ⟨SameRecords.records (by simp [SameRecords]) id id, rfl, rfl, id⟩
  have written : LineKept s (takeOwnStatusA c s) :=
    updateEntry_lineKept s _ _ (fun _ => rfl) fun _ _ => Nat.zero_le _
  unfold ownStatusA
  dsimp only
  split
  · exact written.trans <| (timed _).trans <| (marked _).trans (testClaim_lineKept _)
  · exact written.trans (timed _)

theorem takeOwnFrame_lineKept (f : Frame) (s : State) : LineKept s (takeOwnFrame f s) := by
  cases f with
  | surge e => exact surgeFromSelf_lineKept (Nat.mod_lt _ (by omega)) s
  | verdict c => exact countEvent_lineKept _ s
  | claim c => exact takeOwnClaim_lineKept c s
  | order c => exact (takeOrder_lineKept _ c s).trans (restartRepeat_lineKept _)
  | statusA c => exact ownStatusA_lineKept c s
  | statusB c =>
    have written : LineKept s (takeOwnStatusB c s) :=
      updateEntry_lineKept s _ _ (fun _ => rfl) fun _ _ => Nat.zero_le _
    have timed (t : State) : LineKept t (t.setLif { t.lif with sinceStatusB := some 0 }) :=
      .of_clu rfl (by simp [SameRecords]) rfl rfl id
    exact written.trans (timed _)

end Sys2Proof.BayLine

namespace Sys2Proof.BayLine

open Sys2Proof Sys2Proof.Machine

/-! ## Frames seen on the line -/

/-- A frame that fails check 1, 3 or 4 of R3 is discarded, and check 2 does not take it first. -/
theorem receiveFrame_of_bad {f : RawFrame} {s : State}
    (h : kindAndBayOk s.firstBay s.lastBay f = false ∨
      (s.isDuplicate f = false ∧ parseFrame s.firstBay s.lastBay f = none)) :
    receiveFrame f s = discardFrame s := by
  rcases h with h | ⟨hd, hp⟩
  · simp [receiveFrame, h]
  · simp [receiveFrame, hd, hp]

theorem frameValid_of_bad {f : RawFrame} {s : State}
    (h : kindAndBayOk s.firstBay s.lastBay f = false ∨
      (s.isDuplicate f = false ∧ parseFrame s.firstBay s.lastBay f = none)) :
    s.frameValid f = false := by
  rcases h with h | ⟨_, hp⟩
  · simp [State.frameValid, h]
  · simp [State.frameValid, hp]

/-- Settles O5: FRAME_DISCARDED is the ordinary taking of a frame that is not valid (log 2), and such a frame is
only counted. -/
theorem badFramesAreDiscardedAndCounted : Obligations.BadFramesAreDiscardedAndCounted := by
  intro f s h
  simp only [exec, execFrameDiscarded, frameValid_of_bad h, receiveFrame_of_bad h, discardFrame,
    Bool.false_eq_true, if_false]

/-! ## A duplicate bay -/

theorem isDuplicate_of_own {f : RawFrame} {s : State} (hout : s.cfs.out = false)
    (hown : rawSender f = s.own) : s.isDuplicate f = true := by
  simp [State.isDuplicate, hout, hown]

/-- A frame in range with the own bay number is reported and discarded (R3, R6). -/
theorem execFrameDiscarded_duplicate {f : RawFrame} {s : State} (hout : s.cfs.out = false)
    (hok : kindAndBayOk s.firstBay s.lastBay f = true) (hown : rawSender f = s.own) :
    execFrameDiscarded f s = .next (discardFrame (reportFault .duplicateBay s)) := by
  have hd := isDuplicate_of_own hout hown
  simp [execFrameDiscarded, State.frameValid, receiveFrame, hok, hd]

theorem reportFault_latched {c : Cause} {s : State} (h : s.fmn.causes.has c = true) :
    reportFault c s = s := by
  simp [reportFault, h]

theorem has_noCauses (c : Cause) : noCauses.has c = false := by cases c <;> rfl

theorem reportFault_first {c : Cause} {s : State} (hout : s.cfs.out = false)
    (h : s.fmn.causes = noCauses) : reportFault c s = firstFault c s := by
  simp [reportFault, hout, h, has_noCauses, CauseSet.isEmpty]

theorem reportFault_second {c : Cause} {s : State} (hout : s.cfs.out = false)
    (h : s.fmn.causes ≠ noCauses) (hc : s.fmn.causes.has c = false) :
    reportFault c s = secondFault c s := by
  simp [reportFault, hout, h, hc, CauseSet.isEmpty]

/-- An abandoned claim is STILL. -/
theorem abandonClaim_state (s : State) : (abandonClaim s).clu.state = .still := by
  unfold abandonClaim
  split
  · assumption
  all_goals simp [resolveClaim, endClosureRow]

theorem add_ne_noCauses (x : CauseSet) (c : Cause) : x.add c ≠ noCauses := by
  cases c <;> simp [CauseSet.add, noCauses]

/-- A cause that is latched outside OUT makes the service state FAULTED (R95). -/
theorem serviceNow_of_fault {s : State} (hout : s.cfs.out = false) (h : s.fmn.causes ≠ noCauses) :
    s.serviceNow = .faulted := by
  simp [State.serviceNow, hout, State.faultLatched, CauseSet.isEmpty, h]

/-- A first fault latches its cause and stops the gate (R156, R167). -/
theorem firstFault_fmn (c : Cause) (s : State) : (firstFault c s).fmn = { s.fmn with
    record := some (s.faultPicture c), causes := s.fmn.causes.add c, faultLine := true } := by
  simp [firstFault]

theorem firstFault_mtc (c : Cause) (s : State) : (firstFault c s).mtc = s.mtc.faultStop := by
  simp [firstFault, enterFaultStop]

theorem firstFault_state (c : Cause) (s : State) : (firstFault c s).clu.state = .still := by
  simp [firstFault, abandonClaim_state]

theorem firstFault_service (c : Cause) {s : State} (hout : s.cfs.out = false) :
    (firstFault c s).osl.service = .faulted := by
  simp only [firstFault, setAttention_frame, evalService_service]
  exact serviceNow_of_fault (by simpa using hout) (by simpa using add_ne_noCauses _ c)

/-- A later fault joins the causes and the recorded causes (R168). -/
theorem secondFault_fmn (c : Cause) (s : State) : (secondFault c s).fmn = { s.fmn with
    causes := s.fmn.causes.add c,
    record := s.fmn.record.map fun r => { r with recorded := r.recorded.add c } } := by
  unfold secondFault
  dsimp only
  split <;> simp

/-- A later fault ends a trim, and leaves MTC alone in any other state (R161, R168). -/
theorem secondFault_mtc (c : Cause) (s : State) : (secondFault c s).mtc =
    if s.mtc.motion = .trim then s.mtc.faultStop else s.mtc := by
  unfold secondFault
  dsimp only
  split <;> simp_all [enterFaultStop]

/-- The report of a fault sets the FAULT cause (R156, R168). -/
theorem setAttention_fault (s : State) : (setAttention .fault s).act.causes &&& 0x001 = 0x001 := by
  simp only [setAttention_causes, AttnCause.mask]
  ext i
  simp only [BitVec.getElem_and, BitVec.getElem_or]
  grind

theorem secondFault_attention (c : Cause) (s : State) :
    (secondFault c s).act.causes &&& 0x001 = 0x001 := setAttention_fault _

/-- A count changes the counters and the attention causes, which only become set. -/
theorem countEvent_keeps_bit {e : CountedEvent} {s : State} (h : s.act.causes &&& 0x001 = 0x001) :
    (countEvent e s).act.causes &&& 0x001 = 0x001 :=
  (countEvent_kept e s).keeps_fault h

/-- FAULT_STOP: the pump is off, the valve engaged, both drives are 0 and no trim is held (R139, R156). -/
theorem faultStop_outputs (m : Mtc) : m.faultStop.motion = .faultStop ∧ m.faultStop.driveL = 0 ∧
    m.faultStop.driveR = 0 ∧ m.faultStop.pump = false ∧ m.faultStop.valve = false ∧
    m.faultStop.trim = none := by
  simp [Mtc.faultStop, Mtc.enter, outputsOf, loopsRun]

/-- Settles O6, by the place that R166 gives the report: a first fault, a second one, or one absorbed. -/
theorem duplicateBayIsLatched : Obligations.DuplicateBayIsLatched := by
  intro f s hout hok hown
  have run : exec (.frameDiscarded f) s = .next (discardFrame (reportFault .duplicateBay s)) :=
    execFrameDiscarded_duplicate hout hok hown
  refine ⟨fun hnone => ?_, fun hsome hdup => ?_, fun hdup => ?_⟩
  · obtain ⟨hm, hl, hr, hp, hv, _⟩ := faultStop_outputs s.mtc
    rw [run, reportFault_first hout hnone]
    refine ⟨_, rfl, ?_⟩
    simp [firstFault_fmn, firstFault_mtc, firstFault_state, firstFault_service _ hout, hnone, hm, hl,
      hr, hp, hv]
  · obtain ⟨hm, hl, hr, hp, hv, ht⟩ := faultStop_outputs s.mtc
    rw [run, reportFault_second (c := .duplicateBay) hout hsome hdup]
    refine ⟨_, rfl, ?_⟩
    refine ⟨by simp [secondFault_fmn, CauseSet.add],
      countEvent_keeps_bit (secondFault_attention _ s), by simp, by simp, fun htrim => ?_,
      fun htrim => by simp [secondFault_mtc, htrim], by simp⟩
    simp [secondFault_mtc, htrim, hm, hl, hr, hp, hv, ht]
  · rw [run, reportFault_latched (c := .duplicateBay) hdup]
    rfl

/-! ## The attempt -/

/-- A frame of a kind code of the table runs as the row of its kind, which receives it (R1, R4). -/
theorem exec_instrOfFrame {w : RawFrame} (s : State) (h1 : 1 ≤ rawKind w) (h6 : rawKind w ≤ 6) :
    exec (instrOfFrame w) s = .next (receiveFrame w s) := by
  have kind : (w.id.extractLsb' 6 5).toNat = rawKind w := by
    have := w.id.isLt
    simp only [BitVec.extractLsb'_toNat, Nat.shiftRight_eq_div_pow, rawKind]
    omega
  have same (k : Nat) (hk : rawKind w = k) : frameOf k (w.id.extractLsb' 0 6) w.data = w := by
    have hid : BitVec.ofNat 11 (64 * k + (w.id.extractLsb' 0 6).toNat) = w.id := by
      apply BitVec.eq_of_toNat_eq
      have := w.id.isLt
      simp only [rawKind] at hk
      simp only [BitVec.toNat_ofNat, BitVec.extractLsb'_toNat, Nat.shiftRight_zero]
      omega
    simp only [frameOf, hid]
  simp only [instrOfFrame, kind]
  have hk : rawKind w = 1 ∨ rawKind w = 2 ∨ rawKind w = 3 ∨ rawKind w = 4 ∨ rawKind w = 5 ∨
    rawKind w = 6 := by omega
  rcases hk with hk | hk | hk | hk | hk | hk <;>
    simp [hk, exec, execSurgeFrame, execVerdictFrame, execClaimFrame, execOrderFrame,
      execStatusAFrame, execStatusBFrame, same _ hk]

/-- Settles O18: the winner is received as the row of its kind receives it, and no reception changes the failure
count. -/
theorem lostContentionTakesTheWinner : Obligations.LostContentionTakesTheWinner := by
  intro s w ha h1 h6
  have kept := receiveFrame_lineKept w (s.setLif { s.lif with attempt := none })
  refine ⟨_, ?_, exec_instrOfFrame _ h1 h6, kept.sameFailures, kept.line⟩
  simp [exec, execAttemptLostContention, ha]

/-- Settles O15: the slots are looked at in the order of their identifiers, and a status is filled at the
attempt (R11). -/
theorem arbiterTakesTheLowestIdentifier : Obligations.ArbiterTakesTheLowestIdentifier := by
  intro s hout hline hatt hocc
  have begins (f : Frame) (h : s.chosenFrame = some f) : exec .attemptBegin s =
      .next (s.setLif { s.lif with attempt := some { frame := f, touched := false } }) := by
    simp [exec, execAttemptBegin, State.lineAccepts, hout, hline, hatt, h]
  match hs : s.lif.surgeSlot, hv : s.lif.verdictSlots, hc : s.lif.claimSlot, ho : s.lif.orderSlot,
      hA : s.lif.statusASlot, hB : s.lif.statusBSlot with
  | some e, _, _, _, _, _ =>
    exact ⟨.surge e, begins _ (by simp [State.chosenFrame, hs]), by simp⟩
  | none, v :: vs, _, _, _, _ =>
    exact ⟨.verdict v, begins _ (by simp [State.chosenFrame, hs, hv]), by simp⟩
  | none, [], some c, _, _, _ =>
    exact ⟨.claim c, begins _ (by simp [State.chosenFrame, hs, hv, hc]), by simp⟩
  | none, [], none, some c, _, _ =>
    exact ⟨.order c, begins _ (by simp [State.chosenFrame, hs, hv, hc, ho]), by simp⟩
  | none, [], none, none, true, _ =>
    refine ⟨.statusA s.fillStatusA, begins _ (by simp [State.chosenFrame, hs, hv, hc, ho, hA]), ?_⟩
    have moving : s.mtc.motion.moving = true ↔
        s.mtc.motion ∈ [Motion.priming, .running, .stopping, .settling, .trim] := by
      cases s.mtc.motion <;> simp [Motion.moving]
    simp [State.fillStatusA, or_assoc, moving]
  | none, [], none, none, false, true =>
    refine ⟨.statusB s.fillStatusB, begins _ (by simp [State.chosenFrame, hs, hv, hc, ho, hA, hB]), ?_⟩
    simp [State.fillStatusB]
  | none, [], none, none, false, false => simp [hs, hv, hc, ho, hA, hB] at hocc

end Sys2Proof.BayLine

namespace Sys2Proof.BayLine

open Sys2Proof Sys2Proof.Machine

/-! ## A line that is OFF -/

/-- In OFF a request to queue a status is dropped (R17). -/
theorem dueStatusA_of_off {s : State} (h : s.lif.line = .off) : (dueStatusA s).lif = s.lif := by
  simp [dueStatusA, State.lineAccepts, h]

theorem resolveClaim_lif_of_off (o : ClaimOutcome) {s : State} (h : s.lif.line = .off) :
    (resolveClaim o s).lif = s.lif := by
  unfold resolveClaim
  rw [dueStatusA_of_off (by simpa using h)]
  simp

theorem setMotion_lif_of_off (m : Mtc) {s : State} (h : s.lif.line = .off) :
    (setMotion m s).lif = s.lif := by
  unfold setMotion statusOnLeavingRest
  split
  · rw [dueStatusA_of_off (by simpa using h)]
    simp
  · simp

theorem reportAbandon_lif_of_off {s : State} (h : s.lif.line = .off) : (reportAbandon s).lif = s.lif := by
  have resolved : (if s.clu.state = .granted then resolveClaim .abandoned s else s).lif = s.lif := by
    split
    · exact resolveClaim_lif_of_off _ h
    · rfl
  unfold reportAbandon
  dsimp only
  generalize (if s.clu.state = .granted then resolveClaim .abandoned s else s) = s1 at resolved ⊢
  rw [← resolved] at h
  split
  · split
    · simpa using resolved
    · rw [setMotion_lif_of_off _ h, resolved]
  · simpa using resolved

theorem abandonStop_lif_of_off {s : State} (h : s.lif.line = .off) : (abandonStop s).lif = s.lif := by
  unfold abandonStop
  dsimp only
  split
  · exact setMotion_lif_of_off _ h
  · rfl
  · rfl
  · exact reportAbandon_lif_of_off h
  all_goals rfl

/-- CLU's action at a line that has become OFF queues nothing (R17, R57). -/
theorem claimLineOff_lif {s : State} (h : s.lif.line = .off) : (claimLineOff s).lif = s.lif := by
  unfold claimLineOff
  split
  · rfl
  · exact resolveClaim_lif_of_off _ h
  · exact resolveClaim_lif_of_off _ h
  · exact abandonStop_lif_of_off h

theorem resolveClaim_state (o : ClaimOutcome) (s : State) :
    (resolveClaim o s).clu.state = .still ∧ (resolveClaim o s).clu.lastOutcome = o := by
  simp [resolveClaim, endClosureRow]

/-- A claim on its way is ABANDONED at a line-off, and MTC is not told (R57). -/
theorem claimLineOff_of_waiting {s : State} (h : s.clu.state = .asking ∨ s.clu.state = .pending) :
    claimLineOff s = resolveClaim .abandoned s := by
  rcases h with h | h <;> simp [claimLineOff, h]

/-- A granted stride in RUNNING is stopped at a line-off, with its claim still granted (R57, R147). -/
theorem claimLineOff_of_running {s : State} (hc : s.clu.state = .granted)
    (hm : s.mtc.motion = .running) : (claimLineOff s).clu = s.clu ∧
      (claimLineOff s).mtc.motion = .stopping ∧ (claimLineOff s).mtc.stopKind = some .abandon := by
  simp [claimLineOff, hc, abandonStop, hm, Mtc.enter]

theorem failAttempt_of_few {s : State} (h : s.lif.failures < 15) : failAttempt s = countEvent .txRetry
    (s.setLif { s.lif with attempt := none, failures := s.lif.failures + 1 }) := by
  have hn : min 16 (s.lif.failures + 1) = s.lif.failures + 1 := by omega
  have h16 : s.lif.failures + 1 ≠ 16 := by omega
  simp [failAttempt, hn, h16]

theorem failAttempt_of_fifteen {s : State} (h : s.lif.failures = 15) : failAttempt s = goOff
    (countEvent .txRetry (s.setLif { s.lif with attempt := none, failures := 16 })) := by
  simp [failAttempt, h]

/-- The state in which CLU acts at a line-off: the slots empty, the timers stopped, LINE_OFF taken (R15,
R177). -/
def lineDropped (s : State) : State :=
  (s.setLif { s.lif with
    surgeSlot := none, verdictSlots := [], claimSlot := none, orderSlot := none,
    statusASlot := false, statusBSlot := false, line := .off,
    sinceStatusA := none, sinceStatusB := none, repeatTimer := none, offTimer := some 1000 }).setFmn
    { s.fmn with lineOff := true }

theorem goOff_eq (s : State) : goOff s = claimLineOff (lineDropped s) := rfl

theorem goOff_lif (s : State) : (goOff s).lif = (lineDropped s).lif := claimLineOff_lif rfl

/-- Settles O19: the sixteenth failure is counted, and the line-off of R15 is all that follows it. -/
theorem failuresCountUpToLineOff : Obligations.FailuresCountUpToLineOff := by
  intro s ha
  refine ⟨fun hf => by simp [exec, execAttemptFailure, ha, failAttempt_of_few hf], fun hf => ?_⟩
  refine ⟨failAttempt s, by simp [exec, execAttemptFailure, ha],
    by simp [exec, execLineOff, ha, hf], ?_⟩
  rw [failAttempt_of_fifteen hf]
  generalize hu : countEvent .txRetry (s.setLif { s.lif with attempt := none, failures := 16 }) = u
  have waiting : s.clu.state = .asking ∨ s.clu.state = .pending → (goOff u).clu.state = .still ∧
      (goOff u).clu.lastOutcome = .abandoned ∧ (goOff u).mtc = s.mtc := fun h => by
    rw [goOff_eq, claimLineOff_of_waiting (by subst hu; simpa [lineDropped] using h)]
    exact ⟨(resolveClaim_state _ _).1, (resolveClaim_state _ _).2, by subst hu; simp [lineDropped]⟩
  have running : s.clu.state = .granted → s.mtc.motion = .running →
      (goOff u).clu.state = .granted ∧ (goOff u).mtc.motion = .stopping ∧
        (goOff u).mtc.stopKind = some .abandon := fun hc hm => by
    obtain ⟨kc, km, kk⟩ := claimLineOff_of_running (s := lineDropped u)
      (by subst hu; simpa [lineDropped] using hc) (by subst hu; simpa [lineDropped] using hm)
    exact ⟨by rw [goOff_eq, kc]; subst hu; simpa [lineDropped] using hc, km, kk⟩
  have off : (goOff u).fmn.lineOff = true := by simp [goOff]
  rw [goOff_lif]
  subst hu
  simpa [lineDropped, off] using ⟨waiting, running⟩

/-! ## The line timers -/

/-- A change of the table that keeps the bay numbers is read at every entry. -/
theorem entry_map {s : State} {f : Entry → Entry} (hf : ∀ e, (f e).bay = e.bay) (p : Ptb)
    (hp : p.entries = s.ptb.entries.map f) (b : Nat) :
    (s.setPtb p).entry b = (s.entry b).map f := by
  simp only [State.entry, State.setPtb_ptb, hp, List.find?_map]
  congr 2
  funext e
  simp [hf]

theorem lineAccepts_setLif {s : State} {l : Lif} (h : l.line = s.lif.line) :
    (s.setLif l).lineAccepts = s.lineAccepts := by
  simp [State.lineAccepts, h]

/-! A request that is accepted occupies its slot and touches an attempt of its own kind (R7, R10). -/

theorem dueStatusA_setLif {s : State} {l : Lif} (ha : s.lineAccepts = true) (h : l.line = s.lif.line) :
    dueStatusA (s.setLif l) =
      s.setLif { l with statusASlot := true, attempt := touch .statusA l.attempt } := by
  simp only [dueStatusA, lineAccepts_setLif h, ha, if_true]
  rfl

theorem dueStatusB_setLif {s : State} {l : Lif} (ha : s.lineAccepts = true) (h : l.line = s.lif.line) :
    dueStatusB (s.setLif l) =
      s.setLif { l with statusBSlot := true, attempt := touch .statusB l.attempt } := by
  simp only [dueStatusB, lineAccepts_setLif h, ha, if_true]
  rfl

theorem queueOrder_setLif (c : OrderContent) {s : State} {l : Lif} (ha : s.lineAccepts = true)
    (h : l.line = s.lif.line) : queueOrder c (s.setLif l) =
      s.setLif { l with orderSlot := some c, attempt := touch .order l.attempt } := by
  simp only [queueOrder, lineAccepts_setLif h, ha, if_true]
  rfl

/-- What a start and a rejoin leave of LIF: both statuses due, both timers at 0 (R16, R18). -/
theorem startStatuses_eq {s : State} (h : s.lineAccepts = true) : startStatuses s = s.setLif { s.lif with
    statusASlot := true, statusBSlot := true, sinceStatusA := some 0, sinceStatusB := some 0,
    attempt := touch .statusB (touch .statusA s.lif.attempt) } := by
  have hA : dueStatusA s = _ := dueStatusA_setLif (l := s.lif) h rfl
  simp only [startStatuses, hA]
  rw [dueStatusB_setLif h] <;> rfl

/-- A STATUS-A that is due stays due while the service state is evaluated. -/
theorem evalService_statusASlot {s : State} (h : s.lif.statusASlot = true) :
    (evalService s).lif.statusASlot = true := by
  unfold evalService
  split
  · exact h
  · unfold dueStatusA
    split
    · rfl
    · exact h

/-- The start of a listen period clears the marks and runs the timer (R26). -/
theorem listenStart_ptb (s : State) : (listenStart s).ptb =
    { entries := s.ptb.entries.map fun e => { e with mark := false }, listen := some s.peerTimeout } := by
  simp [listenStart]

theorem listenStart_lif (s : State) : LifKept s.lif (listenStart s).lif :=
  (evalService_inEvent (s.setPtb _)).lif

/-- The rejoining state in which the listen period of R26 starts. -/
def rejoining (s : State) : State :=
  startStatuses (s.setLif { s.lif with line := .rejoining, failures := 0, offTimer := none })

theorem execOffTimer_eq {s : State} (hline : s.lif.line = .off) (hoff : s.lif.offTimer.isSome = true) :
    execOffTimer s = .next (restartRepeat ((listenStart (rejoining s)).setClu
      { s.clu with fresh := true, freshTaken := false })) := by
  simp [execOffTimer, hline, hoff, rejoining]

/-- The rejoin of R16: the two statuses, then a listen period, then the fresh flag and the repeat timer. -/
theorem execOffTimer_rejoins {s : State} (hout : s.cfs.out = false) (hline : s.lif.line = .off)
    (hoff : s.lif.offTimer.isSome = true) :
    ∃ t, exec .offTimer s = .next t ∧ t.lif.line = .rejoining ∧ t.lif.failures = 0 ∧
      t.lif.offTimer = none ∧ t.lif.statusASlot = true ∧ t.lif.statusBSlot = true ∧
      t.lif.sinceStatusA = some 0 ∧ t.lif.sinceStatusB = some 0 ∧
      t.lif.repeatTimer = (if s.shu.order.isSome then some 5000 else none) ∧
      t.ptb.listen = some (Param.peerTimeout s.cfs.working) ∧
      (∀ b e, s.entry b = some e → t.entry b = some { e with mark := false }) ∧
      t.clu = { s.clu with fresh := true, freshTaken := false } ∧
      t.fmn = s.fmn ∧ t.mtc = s.mtc ∧ t.shu = s.shu ∧ t.stm = s.stm ∧ t.cfs = s.cfs := by
  refine ⟨_, execOffTimer_eq hline hoff, ?_⟩
  have due : (rejoining s).lif = _ :=
    congrArg State.lif (startStatuses_eq (by simp [State.lineAccepts, hout]))
  obtain ⟨⟨c, b, a, hl⟩, -⟩ := listenStart_lif (rejoining s)
  have hA : (listenStart (rejoining s)).lif.statusASlot = true :=
    evalService_statusASlot (by simp [due])
  have marks (b : Nat) (e : Entry) (h : s.entry b = some e) :
      (listenStart (rejoining s)).entry b = some { e with mark := false } := by
    have read := entry_map (s := s) (f := fun e => { e with mark := false }) (fun _ => rfl)
      (listenStart (rejoining s)).ptb (by simp [listenStart_ptb, rejoining]) b
    rw [h] at read
    exact read
  have peer : (rejoining s).peerTimeout = Param.peerTimeout s.cfs.working := by
    simp [State.peerTimeout, hout, rejoining]
  refine ⟨?_, ?_, ?_, by simpa [restartRepeat] using hA, ?_, ?_, ?_, ?_,
    by simp [listenStart_ptb, peer], fun b e h => marks b e h, by simp, ?_⟩
  all_goals simp only [restartRepeat, State.setLif_lif, State.setClu_lif, hl, due]
  all_goals simp [rejoining]
  cases s.shu.order <;> simp

/-- A request to queue a status touches the attempt of its own kind (R10). -/
theorem touch_statusA (x : Attempt) : touch .statusA (some x) =
    some { x with touched := x.touched || decide (x.frame.kind = 5) } := by
  obtain ⟨f, p⟩ := x
  cases f <;> simp [touch, Frame.cls, Frame.kind]

theorem touch_statusB (x : Attempt) : touch .statusB (some x) =
    some { x with touched := x.touched || decide (x.frame.kind = 6) } := by
  obtain ⟨f, p⟩ := x
  cases f <;> simp [touch, Frame.cls, Frame.kind]

/-- Settles O20: each expiry by its own row of chapter 1. -/
theorem lineTimersMakeFramesDueAndRejoin : Obligations.LineTimersMakeFramesDueAndRejoin := by
  intro s hout
  have accepts (h : s.lif.line ≠ .off) : s.lineAccepts = true := by simp [State.lineAccepts, hout, h]
  refine ⟨fun hline n hn => ?_, fun hline n hn => ?_, fun hline n o hn ho hrep => ?_,
    fun hline n o c hn ho hc hissued => ?_, fun x hx => ?_, execOffTimer_rejoins hout⟩
  · simp only [exec, execStatusAPeriod, hn]
    rw [dueStatusA_setLif (accepts hline)] <;> rfl
  · simp only [exec, execStatusBPeriod, hn]
    rw [dueStatusB_setLif (accepts hline)]
    rfl
  · have queued : queueOrder { stamp := o.stamp, isRepeat := true, aggregate := o.aggregate }
        (s.setLif { s.lif with repeatTimer := none }) = s.setLif { s.lif with
          repeatTimer := none, attempt := touch .order s.lif.attempt
          orderSlot := some { stamp := o.stamp, isRepeat := true, aggregate := o.aggregate } } := by
      rw [queueOrder_setLif _ (accepts hline)]
      rfl
    cases hslot : s.lif.orderSlot with
    | none => simpa [exec, execOrderRepeatTimer, hn, ho, hslot] using queued
    | some c => simpa [exec, execOrderRepeatTimer, hn, ho, hslot, hrep c hslot] using queued
  · simp [exec, execOrderRepeatTimer, hn, ho, hc, hissued, restartRepeat, hline]
  · rw [hx]
    exact ⟨touch_statusA x, touch_statusB x⟩

end Sys2Proof.BayLine

namespace Sys2Proof.BayLine

open Sys2Proof Sys2Proof.Machine

/-! ## Bytes and fields (R2) -/

theorem byte_toNat (n : Nat) : (byte n).toNat = n % 256 := by simp [byte]

theorem nat2_bytes {n : Nat} (h : n < 65536) : nat2 (byte (n / 256)) (byte n) = n := by
  simp only [nat2, byte_toNat]
  omega

theorem nat3_bytes {n : Nat} (h : n < 16777216) :
    nat3 (byte (n / 65536)) (byte (n / 256)) (byte n) = n := by
  simp only [nat3, byte_toNat]
  omega

theorem stageCode_lt (x : Option Int) : stageCode x < 65536 := (BitVec.ofInt 16 _).isLt

/-- A stage in range, and the mark of an absent one, come back from their code. -/
theorem stageOfCode_stageCode {x : Option Int}
    (h : (x.all fun v => decide (-10000 ≤ v ∧ v ≤ 20000)) = true) :
    stageOfCode (stageCode x) = some x := by
  have back (v : Int) (h1 : -32768 ≤ v) (h2 : v ≤ 32767) : (BitVec.ofInt 16 v).toInt = v := by
    rw [BitVec.toInt_ofInt]
    exact Int.bmod_eq_of_le (by omega) (by omega)
  cases x with
  | none => decide
  | some v =>
    simp only [Option.all_some, decide_eq_true_eq] at h
    simp only [stageOfCode, stageCode, BitVec.ofNat_toNat, BitVec.setWidth_eq, Option.getD_some,
      back v (by omega) (by omega)]
    rw [if_neg (by omega), if_pos h]

theorem verdict_ofCode_code (v : Verdict) : Verdict.ofCode (v.code % 256) = some v := by
  cases v <;> rfl

theorem outcome_ofCode_code (o : ClaimOutcome) : ClaimOutcome.ofCode o.code = o := by cases o <;> rfl

theorem service_ofCode_code (v : Service) : Service.ofCode v.code = v := by cases v <;> rfl

theorem tidal_ofCode_code (t : Tidal) : Tidal.ofCode t.code = some t := by cases t <;> rfl

theorem outcome_code_lt (o : ClaimOutcome) : o.code < 4 := by cases o <;> decide
theorem service_code_lt {v : Service} (h : v ≠ .out) : v.code < 8 := by
  cases v <;> simp_all [Service.code]
theorem tidal_code_lt (t : Tidal) : t.code < 3 := by cases t <;> decide
theorem bit_le (b : Bool) : bit b ≤ 1 := by cases b <;> decide

/-- The last byte of a STATUS-A gives its five fields back (R2). -/
theorem statusA_flags {v : Service} (hv : v ≠ .out) (o : ClaimOutcome) (f m d : Bool) :
    let x := byte (v.code * 32 + o.code * 8 + bit f * 4 + bit m * 2 + bit d)
    Service.ofCode (x.toNat / 32) = v ∧ ClaimOutcome.ofCode (x.toNat / 8 % 4) = o ∧
      x.getLsbD 2 = f ∧ x.getLsbD 1 = m ∧ x.getLsbD 0 = d := by
  have hs := service_code_lt hv
  have ho := outcome_code_lt o
  have hf := bit_le f
  have hm := bit_le m
  have hd := bit_le d
  have h32 : (byte (v.code * 32 + o.code * 8 + bit f * 4 + bit m * 2 + bit d)).toNat / 32 = v.code := by
    rw [byte_toNat]; omega
  have h8 : (byte (v.code * 32 + o.code * 8 + bit f * 4 + bit m * 2 + bit d)).toNat / 8 % 4 = o.code := by
    rw [byte_toNat]; omega
  have flag (i n : Nat) (b : Bool) (h : n / 2 ^ i % 2 = bit b) (hi : i < 8) :
      (byte n).getLsbD i = b := by
    rw [byte, BitVec.getLsbD_ofNat, Nat.testBit_eq_decide_div_mod_eq, h]
    cases b <;> simp [bit, hi]
  exact ⟨by rw [h32, service_ofCode_code], by rw [h8, outcome_ofCode_code],
    flag 2 _ f (by omega) (by omega), flag 1 _ m (by omega) (by omega),
    flag 0 _ d (by omega) (by omega)⟩

/-! ## Decode of encode -/

/-- Every frame in range comes back from its data bytes, kind by kind (R2, R3). -/
theorem parsePayload_payload {first last : Nat} {f : Frame} (hlast : last ≤ 32)
    (h : f.inRange first last = true) : parsePayload f.kind f.payload = some f := by
  cases f with
  | surge e =>
    have he : e < 16 := by simpa [Frame.inRange] using h
    simp only [Frame.kind, Frame.payload, parsePayload, byte_toNat]
    congr 2
    omega
  | verdict c =>
    simp only [Frame.inRange, decide_eq_true_eq] at h
    obtain ⟨_, hc, hn⟩ := h
    simp only [Frame.kind, Frame.payload, parsePayload, verdict_ofCode_code, Option.map_some,
      byte_toNat, Nat.mod_eq_of_lt (show c.claimant < 256 by omega), Nat.mod_eq_of_lt hn]
  | claim c =>
    simp only [Frame.inRange, decide_eq_true_eq] at h
    obtain ⟨hn, hs, he⟩ := h
    simp only [Frame.kind, Frame.payload, bytes2, List.cons_append, List.nil_append, parsePayload,
      nat2_bytes (show c.start < 65536 by omega), nat2_bytes (show c.stop < 65536 by omega), hs, he,
      byte_toNat, Nat.mod_eq_of_lt hn, and_self, if_true]
  | order c =>
    simp only [Frame.inRange, decide_eq_true_eq] at h
    obtain ⟨hs, ha⟩ := h
    have hr : (byte (bit c.isRepeat)).toNat ≤ 1 ∧ ((byte (bit c.isRepeat)).toNat == 1) = c.isRepeat := by
      cases c.isRepeat <;> decide
    simp only [Frame.kind, Frame.payload, bytes2, bytes3, List.cons_append, List.nil_append,
      parsePayload, Nat.mod_eq_of_lt hs, nat2_bytes (show c.stamp < 65536 by omega),
      nat3_bytes (show c.aggregate < 16777216 by omega), hr, ha, and_self, if_true]
  | statusA c =>
    simp only [Frame.inRange, Bool.and_eq_true, decide_eq_true_eq, bne_iff_ne] at h
    obtain ⟨⟨ho, hle, hhi, hn⟩, hv⟩ := h
    obtain ⟨fs, fo, ff, fm, fd⟩ := statusA_flags hv c.outcome c.fresh c.moving c.degraded
    simp only [Frame.kind, Frame.payload, bytes2, List.cons_append, List.nil_append, parsePayload,
      nat2_bytes (show c.opening < 65536 by omega), nat2_bytes (show c.committed.lo < 65536 by omega),
      nat2_bytes (show c.committed.hi < 65536 by omega), ho, hle, hhi, and_self, if_true, fs, fo, ff,
      fm, fd]
    simp only [byte_toNat, Nat.mod_eq_of_lt hn]
  | statusB c =>
    simp only [Frame.inRange, Bool.and_eq_true, decide_eq_true_eq] at h
    obtain ⟨⟨hu, hd⟩, hw1, hw, he⟩ := h
    have ht := tidal_code_lt c.tidal
    have hx : (c.tidal.code * 64 + c.epoch % 16) % 256 / 64 = c.tidal.code := by omega
    have hx' : (c.tidal.code * 64 + c.epoch % 16) % 256 % 16 = c.epoch := by omega
    simp only [Frame.kind, Frame.payload, bytes2, List.cons_append, List.nil_append, parsePayload,
      nat2_bytes (stageCode_lt _), stageOfCode_stageCode hu, stageOfCode_stageCode hd, byte_toNat, hx,
      hx', tidal_ofCode_code, Nat.mod_eq_of_lt (show c.weight < 256 by omega), hw1, hw, and_self,
      if_true]

/-- The claimant of a VERDICT in range is a bay of the weir (R3, check 4). -/
theorem claimantInRange_of_inRange {first last : Nat} {f : Frame} (h : f.inRange first last = true) :
    claimantInRange first last f = true := by
  cases f with
  | verdict c =>
    simp only [Frame.inRange, decide_eq_true_eq] at h
    simp [claimantInRange, h]
  | surge e => rfl
  | claim c => rfl
  | order c => rfl
  | statusA c => rfl
  | statusB c => rfl

theorem kind_range (f : Frame) : 1 ≤ f.kind ∧ f.kind ≤ 6 := by cases f <;> simp [Frame.kind]

/-- An identifier is 64 × kind code + bay (R1). -/
theorem encodeFrame_id {bay : Nat} (f : Frame) (h : bay ≤ 32) :
    (encodeFrame bay f).id.toNat = 64 * f.kind + bay := by
  have hk := kind_range f
  simp only [encodeFrame, BitVec.toNat_ofNat]
  omega

theorem payload_length (f : Frame) : f.payload.length ≤ 8 := by
  cases f <;> simp [Frame.payload, bytes2, bytes3]

/-- Settles O4: identifier, then data bytes, then the order of identifiers. -/
theorem framesDecodeFromTheirEncoding : Obligations.FramesDecodeFromTheirEncoding := by
  intro first last bay f _ hlast hlo hhi hf
  have id := encodeFrame_id f (show bay ≤ 32 by omega)
  have hk := kind_range f
  have kind : rawKind (encodeFrame bay f) = f.kind := by rw [rawKind, id]; omega
  have sender : rawSender (encodeFrame bay f) = bay := by rw [rawSender, id]; omega
  refine ⟨by simp [kindAndBayOk, kind, sender, hk, hlo, hhi], sender, ?_, payload_length f,
    fun g b hb1 hb2 hlt => ?_⟩
  · have parsed : parsePayload f.kind (encodeFrame bay f).data = some f := parsePayload_payload hlast hf
    simp [parseFrame, kind, parsed, claimantInRange_of_inRange hf]
  · rw [id, encodeFrame_id g hb2]
    omega

/-! ## The reset state -/

/-- Settles O42: State.reset is one state. -/
theorem resetMeetsTheInvariants : Obligations.ResetMeetsTheInvariants := by
  unfold Obligations.ResetMeetsTheInvariants
  decide

end Sys2Proof.BayLine

namespace Sys2Proof.BayLine

open Sys2Proof Sys2Proof.Machine

/-! ## A change of epoch, as STM has it -/

/-- The stage condition rests on the D ring, the surge run and N_SURGE (R114). -/
theorem stageCondition_changeEpoch (e : Nat) (s : State) :
    (changeEpoch e s).stageCondition = s.stageCondition := by
  simp [State.stageCondition, changeEpoch_stm]

/-- With no condition of its own the station raises for nothing (R114, R115). -/
theorem raiseTests_of_quiet {s : State} (hpin : s.pins.surgeIn = false)
    (hstage : s.stageCondition = false) : raiseTests s = s := by
  simp [raiseTests, hpin, hstage]

/-- With no condition of its own the station adopts the epoch as it is (R118). -/
theorem adoptEpoch_of_quiet {e : Nat} {s : State} (hpin : s.pins.surgeIn = false)
    (hstage : s.stageCondition = false) (hne : e ≠ s.stm.epoch) :
    adoptEpoch e s = changeEpoch e s := by
  have quiet : raiseTests (changeEpoch e s) = changeEpoch e s :=
    raiseTests_of_quiet (by simpa using hpin) (by rw [stageCondition_changeEpoch, hstage])
  simp [adoptEpoch, hne, quiet]

theorem surgeFromSelf_inEvent {e : Nat} {s : State} (hpin : s.pins.surgeIn = false)
    (hstage : s.stageCondition = false) : InEvent s (surgeFromSelf e s) := by
  unfold surgeFromSelf
  split
  · by_cases hne : e = s.stm.epoch
    · simpa [adoptEpoch, hne] using InEvent.refl s
    · rw [adoptEpoch_of_quiet hpin hstage hne]
      exact changeEpoch_inEvent e s
  · exact .refl s

theorem surgeFromSelf_epoch {e : Nat} {s : State} (hpin : s.pins.surgeIn = false)
    (hstage : s.stageCondition = false) : (surgeFromSelf e s).stm.epoch =
      if 1 ≤ (e + 16 - s.stm.epoch) % 16 ∧ (e + 16 - s.stm.epoch) % 16 ≤ 7 then e else s.stm.epoch := by
  have newer : epochNewer e s.stm.epoch = true ↔
      1 ≤ (e + 16 - s.stm.epoch) % 16 ∧ (e + 16 - s.stm.epoch) % 16 ≤ 7 := decide_eq_true_iff
  unfold surgeFromSelf
  by_cases hnew : epochNewer e s.stm.epoch = true
  · rw [if_pos hnew, if_pos (newer.1 hnew)]
    by_cases hne : e = s.stm.epoch
    · simp [adoptEpoch, hne]
    · rw [adoptEpoch_of_quiet hpin hstage hne, changeEpoch_stm]
  · rw [if_neg hnew, if_neg (mt newer.2 hnew)]

/-! ## What the claim test and the change to ON leave of LIF -/

/-- The claim test queues a CLAIM at most. -/
theorem testClaim_statusASlot (s : State) : (testClaim s).lif.statusASlot = s.lif.statusASlot := by
  have queued (c : ClaimContent) (t : State) :
      (queueClaim c t).lif.statusASlot = t.lif.statusASlot := by
    unfold queueClaim
    split <;> rfl
  unfold testClaim
  split
  · rfl
  · dsimp only
    split
    · split
      · exact queued _ _
      · rfl
    · rfl

/-- The line state after a success (R16). -/
def lineAfter (l : LineState) : LineState := if l = .rejoining then .on else l

/-- A success makes REJOINING ON and leaves the rest of LIF to the claim test (R16). -/
theorem lineOn_lif (s : State) : LifKept { s.lif with line := lineAfter s.lif.line } (lineOn s).lif ∧
    (lineOn s).lif.statusASlot = s.lif.statusASlot := by
  unfold lineOn
  split
  · next h =>
    constructor
    · simpa [lineAfter, h] using (testClaim_inEvent ((s.setLif { s.lif with line := .on }).setFmn _)).lif
    · rw [testClaim_statusASlot]
      simp
  · next h => exact ⟨by simpa [lineAfter, h] using LifKept.refl s.lif, rfl⟩

theorem lineOn_lineOff (s : State) : (lineOn s).fmn.lineOff =
    if s.lif.line = .rejoining then false else s.fmn.lineOff := by
  unfold lineOn
  split <;> simp_all

/-! ## A success -/

/-- LIF after a success, with the sent frame's slot emptied unless it changed meanwhile (R9, R10). -/
def sentLif (a : Attempt) (l : Lif) : Lif :=
  if a.touched then { l with attempt := none, failures := 0 }
  else Lif.empty { l with attempt := none, failures := 0 } a.frame.cls

/-- The state in which the station takes its own frame: the attempt ended, FRAME_SENT counted. -/
def sent (a : Attempt) (s : State) : State := countEvent .frameSent (s.setLif (sentLif a s.lif))

theorem execAttemptSuccess_eq {s : State} {a : Attempt} (h : s.lif.attempt = some a) :
    execAttemptSuccess s = .next (lineOn (takeOwnFrame a.frame (sent a s))) := by
  simp only [execAttemptSuccess, h]
  rfl

theorem sentLif_line (a : Attempt) (l : Lif) : (sentLif a l).line = l.line ∧
    (sentLif a l).failures = 0 ∧ (sentLif a l).attempt = none := by
  unfold sentLif Lif.empty
  split
  · exact ⟨rfl, rfl, rfl⟩
  · split <;> exact ⟨rfl, rfl, rfl⟩

theorem entry_congr {s t : State} (h : t.ptb = s.ptb) (b : Nat) : t.entry b = s.entry b := by
  rw [State.entry, State.entry, h]

/-- The own entry after an own status frame (R22). -/
theorem entry_updateEntry_own {s : State} {b : Nat} {e : Entry} {f : Entry → Entry}
    (hf : ∀ e, (f e).bay = e.bay) (h : s.entry b = some e) :
    (s.updateEntry b f).entry b = some (f e) := by
  rw [entry_updateEntry s b b f hf, if_pos rfl, h, Option.map_some]

theorem takeOwnStatusA_entry {s : State} {e : Entry} (c : StatusA) (h : s.entry s.own = some e) :
    (takeOwnStatusA c s).entry s.own = some (e.writeStatusA c).takenOwn :=
  entry_updateEntry_own (f := fun e => (e.writeStatusA c).takenOwn) (fun _ => rfl) h

theorem takeOwnStatusB_entry {s : State} {e : Entry} (c : StatusB) (h : s.entry s.own = some e) :
    (takeOwnStatusB c s).entry s.own = some (e.writeStatusB c).takenOwn :=
  entry_updateEntry_own (f := fun e => (e.writeStatusB c).takenOwn) (fun _ => rfl) h

/-- The attempt's end leaves the own bay number and the table. -/
theorem sent_entry (a : Attempt) {s : State} {e : Entry} (h : s.entry s.own = some e) :
    (sent a s).own = s.own ∧ (sent a s).entry (sent a s).own = some e := by
  have own : (sent a s).own = s.own := by simp [State.own, sent]
  exact ⟨own, by rw [own, ← h]; exact entry_congr (by simp [sent]) _⟩

section
variable {s : State} {a : Attempt}

/-- The part of a success that rests on no kind of frame (R9, R16, R177). -/
theorem success_line (f : Frame) :
    (lineOn (takeOwnFrame f (sent a s))).lif.failures = 0 ∧
    (lineOn (takeOwnFrame f (sent a s))).lif.attempt = none ∧
    (lineOn (takeOwnFrame f (sent a s))).lif.line = lineAfter s.lif.line ∧
    (lineOn (takeOwnFrame f (sent a s))).fmn.lineOff =
      if s.lif.line = .rejoining then false else s.fmn.lineOff := by
  obtain ⟨hline, hfail, hatt⟩ := sentLif_line a s.lif
  have taken := takeOwnFrame_lineKept f (sent a s)
  have line : (takeOwnFrame f (sent a s)).lif.line = s.lif.line := taken.line.trans (by simpa [sent] using hline)
  have fail : (takeOwnFrame f (sent a s)).lif.failures = 0 :=
    taken.sameFailures.trans (by simpa [sent] using hfail)
  have att : (takeOwnFrame f (sent a s)).lif.attempt = none :=
    taken.attempt (by simpa [sent] using hatt)
  obtain ⟨⟨⟨c, b, x, hl⟩, hx⟩, -⟩ := lineOn_lif (takeOwnFrame f (sent a s))
  refine ⟨by rw [hl]; exact fail, hx att, by rw [hl, line], ?_⟩
  rw [lineOn_lineOff, line]
  simp [sent]

theorem success_statusB (c : StatusB) (hf : a.frame = .statusB c) :
    (lineOn (takeOwnFrame a.frame (sent a s))).lif.statusBSlot = (a.touched && s.lif.statusBSlot) ∧
    (lineOn (takeOwnFrame a.frame (sent a s))).lif.sinceStatusB = some 0 ∧
    ∀ e, s.entry s.own = some e → (lineOn (takeOwnFrame a.frame (sent a s))).entry s.own = some { e with
      presence := .live, age := 0, up := c.up, down := c.down, weight := c.weight,
      tidal := c.tidal, epoch := c.epoch } := by
  obtain ⟨⟨⟨_, _, _, hl⟩, -⟩, -⟩ := lineOn_lif (takeOwnFrame a.frame (sent a s))
  have slot : (sent a s).lif.statusBSlot = (a.touched && s.lif.statusBSlot) := by
    cases ht : a.touched <;> simp [sent, sentLif, ht, hf, Frame.cls, Lif.empty]
  refine ⟨?_, ?_, fun e he => ?_⟩
  · rw [hl]
    simpa [hf, takeOwnFrame] using slot
  · rw [hl]
    simp [hf, takeOwnFrame]
  · rw [entry_congr (s := takeOwnStatusB c (sent a s)) (by simp [hf, takeOwnFrame])]
    obtain ⟨own, here⟩ := sent_entry a he
    rw [← own]
    exact takeOwnStatusB_entry c here

theorem ownStatusA_lif (c : StatusA) (t : State) :
    LifKept { t.lif with sinceStatusA := some 0 } (ownStatusA c t).lif ∧
      (ownStatusA c t).lif.statusASlot = t.lif.statusASlot := by
  unfold ownStatusA
  dsimp only
  split
  · refine ⟨?_, by rw [testClaim_statusASlot]; simp⟩
    simpa using (testClaim_inEvent (((takeOwnStatusA c t).setLif
      { t.lif with sinceStatusA := some 0 }).setClu { t.clu with freshTaken := true })).lif
  · exact ⟨by simpa using LifKept.refl _, by simp⟩

theorem success_statusA (c : StatusA) (hf : a.frame = .statusA c) :
    (lineOn (takeOwnFrame a.frame (sent a s))).lif.statusASlot = (a.touched && s.lif.statusASlot) ∧
    (lineOn (takeOwnFrame a.frame (sent a s))).lif.sinceStatusA = some 0 ∧
    (lineOn (takeOwnFrame a.frame (sent a s))).clu.freshTaken = (s.clu.freshTaken || c.fresh) ∧
    ∀ e, s.entry s.own = some e → (lineOn (takeOwnFrame a.frame (sent a s))).entry s.own = some { e with
      presence := .live, age := 0, opening := some c.opening, committed := some c.committed,
      lastNumber := c.number, lastOutcome := c.outcome, service := c.service,
      fresh := c.fresh, moving := c.moving, degraded := c.degraded } := by
  obtain ⟨⟨⟨_, _, _, hl⟩, -⟩, hslot⟩ := lineOn_lif (takeOwnFrame a.frame (sent a s))
  have took : takeOwnFrame a.frame (sent a s) = ownStatusA c (sent a s) := by rw [hf]; rfl
  obtain ⟨⟨⟨_, _, _, hk⟩, -⟩, kslot⟩ := ownStatusA_lif c (sent a s)
  have slot : (sent a s).lif.statusASlot = (a.touched && s.lif.statusASlot) := by
    cases ht : a.touched <;> simp [sent, sentLif, ht, hf, Frame.cls, Lif.empty]
  have fresh : (ownStatusA c (sent a s)).clu.freshTaken = (s.clu.freshTaken || c.fresh) := by
    unfold ownStatusA
    cases c.fresh <;> simp [sent]
  have table : (ownStatusA c (sent a s)).ptb = (takeOwnStatusA c (sent a s)).ptb := by
    unfold ownStatusA
    dsimp only
    split <;> simp
  refine ⟨by rw [hslot, took, kslot, slot], by rw [hl, took, hk], by rw [took]; simpa using fresh,
    fun e he => ?_⟩
  rw [entry_congr (s := takeOwnStatusA c (sent a s)) (by simp [took, table])]
  obtain ⟨own, here⟩ := sent_entry a he
  rw [← own]
  exact takeOwnStatusA_entry c here

theorem countEvent_act_congr (e : CountedEvent) {s t : State} (h : t.act = s.act) :
    (countEvent e t).act = (countEvent e s).act := by
  simp [countEvent, h]

theorem success_verdict (c : VerdictContent) (hf : a.frame = .verdict c) :
    (lineOn (takeOwnFrame a.frame (sent a s))).lif.verdictSlots = (if a.touched then s.lif.verdictSlots
      else s.lif.verdictSlots.filter fun v => v.claimant != c.claimant) ∧
    (lineOn (takeOwnFrame a.frame (sent a s))).act =
      (countEvent (if c.verdict = .consent then .verdictConsentSent else .verdictDemurSent)
        (countEvent .frameSent s)).act := by
  obtain ⟨⟨⟨_, _, _, hl⟩, -⟩, -⟩ := lineOn_lif (takeOwnFrame a.frame (sent a s))
  refine ⟨?_, ?_⟩
  · rw [hl]
    cases ht : a.touched <;> simp [hf, takeOwnFrame, sent, sentLif, ht, Frame.cls, Lif.empty]
  · rw [hf]
    simp only [takeOwnFrame, lineOn_frame]
    exact countEvent_act_congr _ (countEvent_act_congr _ rfl)

/-- SHU's order after an ORDER frame (R68 to R70). -/
theorem takeOrder_order {t : State} (sender : Nat) (c : OrderContent) (hout : t.cfs.out = false) :
    (takeOrder sender c t).shu.order = if adoptsOrder t.shu.order c then
      some { stamp := c.stamp, aggregate := c.aggregate, origin := sender } else t.shu.order := by
  unfold takeOrder
  cases ha : adoptsOrder t.shu.order c <;> simp [hout]

theorem takeOrder_orderSlot {t : State} (sender : Nat) (c : OrderContent) :
    (takeOrder sender c t).lif.orderSlot = t.lif.orderSlot := by
  unfold takeOrder
  split
  · rfl
  · dsimp only
    rw [(runShares_inEvent _ _).orderSlot]
    simp

theorem success_order (c : OrderContent) (hf : a.frame = .order c) (hout : s.cfs.out = false) :
    (lineOn (takeOwnFrame a.frame (sent a s))).lif.orderSlot =
      (if a.touched then s.lif.orderSlot else none) ∧
    (s.lif.line ≠ .off → (lineOn (takeOwnFrame a.frame (sent a s))).lif.repeatTimer = some 5000) ∧
    (lineOn (takeOwnFrame a.frame (sent a s))).shu.order = (if adoptsOrder s.shu.order c then
      some { stamp := c.stamp, aggregate := c.aggregate, origin := s.own } else s.shu.order) := by
  obtain ⟨⟨⟨_, _, _, hl⟩, -⟩, -⟩ := lineOn_lif (takeOwnFrame a.frame (sent a s))
  have took : takeOwnFrame a.frame (sent a s) = restartRepeat (takeOrder s.own c (sent a s)) := by
    rw [hf]
    simp [takeOwnFrame, State.own, sent]
  have order := takeOrder_order (t := sent a s) s.own c (by simpa [sent] using hout)
  have held : (sent a s).shu.order = s.shu.order := by simp [sent]
  rw [held] at order
  have some_order : (takeOrder s.own c (sent a s)).shu.order.isNone = false := by
    rw [order]
    cases ho : s.shu.order with
    | none => simp [adoptsOrder]
    | some o => split <;> rfl
  refine ⟨?_, fun hline => ?_, by simpa [took] using order⟩
  · rw [hl, took]
    simp only [restartRepeat, State.setLif_lif, takeOrder_orderSlot]
    cases ht : a.touched <;> simp [sent, sentLif, ht, hf, Frame.cls, Lif.empty]
  · have line : (takeOrder s.own c (sent a s)).lif.line = s.lif.line :=
      (takeOrder_lineKept _ _ _).line.trans (by simpa [sent] using (sentLif_line a s.lif).1)
    rw [hl, took]
    simp [restartRepeat, line, hline, some_order]

theorem success_surge (e : Nat) (hf : a.frame = .surge e) (he : e < 16) (hpin : s.pins.surgeIn = false)
    (hstage : s.stageCondition = false) :
    (lineOn (takeOwnFrame a.frame (sent a s))).lif.surgeSlot =
      (if a.touched then s.lif.surgeSlot else none) ∧
    (lineOn (takeOwnFrame a.frame (sent a s))).stm.settled = s.stm.settled ∧
    (lineOn (takeOwnFrame a.frame (sent a s))).stm.epoch =
      (if 1 ≤ (e + 16 - s.stm.epoch) % 16 ∧ (e + 16 - s.stm.epoch) % 16 ≤ 7 then e else s.stm.epoch) := by
  obtain ⟨⟨⟨_, _, _, hl⟩, -⟩, -⟩ := lineOn_lif (takeOwnFrame a.frame (sent a s))
  have took : takeOwnFrame a.frame (sent a s) = surgeFromSelf e (sent a s) := by
    rw [hf, takeOwnFrame, Nat.mod_eq_of_lt he]
  have hpin' : (sent a s).pins.surgeIn = false := by simpa [sent] using hpin
  have hstage' : (sent a s).stageCondition = false := by
    simpa [State.stageCondition, sent] using hstage
  refine ⟨?_, ?_, ?_⟩
  · rw [hl, took]
    simp only [(surgeFromSelf_inEvent hpin' hstage').surgeSlot]
    cases ht : a.touched <;> simp [sent, sentLif, ht, hf, Frame.cls, Lif.empty]
  · simp [sent]
  · have epoch := surgeFromSelf_epoch (e := e) hpin' hstage'
    rw [took]
    simpa [sent] using epoch

end

/-- Settles O16: what every success does to the line, then the clause of each kind of frame. -/
theorem successSendsTheFrame : Obligations.SuccessSendsTheFrame := by
  intro s a ha
  obtain ⟨hfail, hatt, hline, hoff⟩ := success_line (s := s) (a := a) a.frame
  refine ⟨_, execAttemptSuccess_eq ha, hfail, hatt, fun h => ?_, fun h => ?_, ?_, ?_, ?_, ?_, ?_,
    success_statusB, success_statusA, success_verdict, success_order, success_surge⟩
  · simp [hline, hoff, lineAfter, h]
  · simp [hline, hoff, lineAfter, h]
  all_goals simp [sent]

end Sys2Proof.BayLine

namespace Sys2Proof.BayLine

open Sys2Proof Sys2Proof.Machine

/-! ## OUT: what does nothing there -/

/-- In OUT the service state is OUT (R95). -/
theorem serviceNow_of_out {s : State} (h : s.cfs.out = true) : s.serviceNow = .out := by
  simp [State.serviceNow, h]

theorem evalService_of_out {s : State} (h : s.cfs.out = true) (hs : s.osl.service = .out) :
    evalService s = s := by
  simp [evalService, serviceNow_of_out h, hs]

theorem stopForCondition_of_out {s : State} (h : s.cfs.out = true) : stopForCondition s = s := by
  simp [stopForCondition, h]

/-! ## The blocks after a reset -/

/-- What a reset leaves of CFS (R195, R199). -/
theorem blocksReset_cfs (k : ResetKind) (s : State) : (blocksReset k s).cfs =
    cfsAfter (cutStore s.freeCount s.cfs).1 (cutStore s.freeCount s.cfs).2 := rfl

section
variable (k : ResetKind) (s : State)

@[simp] theorem blocksReset_lif : (blocksReset k s).lif = lifReset := rfl
@[simp] theorem blocksReset_clu : (blocksReset k s).clu = cluReset := rfl
@[simp] theorem blocksReset_shu : (blocksReset k s).shu = shuReset := rfl
@[simp] theorem blocksReset_stm : (blocksReset k s).stm = stmReset := rfl
@[simp] theorem blocksReset_mtc : (blocksReset k s).mtc = mtcReset := rfl
@[simp] theorem blocksReset_fmn : (blocksReset k s).fmn = fmnReset (recordAfter k s.fmn.record) := rfl
@[simp] theorem blocksReset_lpt : (blocksReset k s).lpt =
    lptReset (resetCauseAfter k s.lpt.resetCause) s.lpt.transaction.afterReset := rfl
@[simp] theorem blocksReset_act : (blocksReset k s).act = actAfter k s.act := rfl
@[simp] theorem blocksReset_pins : (blocksReset k s).pins = s.pins := rfl
theorem blocksReset_ptb : (blocksReset k s).ptb =
    { entries := entriesReset (tableBays (blocksReset k s).cfs).1 (tableBays (blocksReset k s).cfs).2,
      listen := none } := rfl
theorem blocksReset_osl : (blocksReset k s).osl =
    oslReset (if (blocksReset k s).cfs.out then .out else .starting) := rfl

end

/-- Whether a station is OUT after its check, and the working copy that it holds (R190). -/
theorem cfsAfter_out (store : Words) (mark : Bool) :
    (cfsAfter store mark).out = true ↔ startReportOf mark store ≠ .passed := by
  simp [cfsAfter]

/-! ## The start in OUT -/

/-- FMN as it takes its conditions in OUT (R181): HOLD by HOLD_IN, SUPPLY_LOW by the sense. -/
theorem startConditions_of_out {s : State} (h : s.cfs.out = true) (hs : s.osl.service = .out)
    (hhold : s.fmn.hold = false) (hlow : s.fmn.supplyLow = false) : startConditions s =
      s.setFmn { s.fmn with hold := s.pins.holdIn, supplyLow := !s.pins.supplyGood } := by
  have hold (t : State) (ht : t.cfs.out = true) (hts : t.osl.service = .out) :
      takeHold t = t.setFmn { t.fmn with hold := true } := by
    unfold takeHold
    rw [stopForCondition_of_out (by simpa using ht), evalService_of_out (by simpa using ht) (by simpa using hts)]
  have low (t : State) (ht : t.cfs.out = true) :
      takeSupplyLow t = t.setFmn { t.fmn with supplyLow := true } := by
    unfold takeSupplyLow
    rw [stopForCondition_of_out (by simpa using ht)]
  unfold startConditions
  cases hp : s.pins.holdIn <;> cases hg : s.pins.supplyGood
  · simp only [hg, Bool.false_eq_true, if_false]
    rw [low s h]
    congr 1
    simp [hhold]
  · simp only [hg, Bool.false_eq_true, if_false, if_true]
    have eta : s.fmn = { s.fmn with hold := false, supplyLow := !true } := by
      generalize s.fmn = f at hhold hlow ⊢
      cases f
      simp_all
    exact congrArg s.setFmn eta
  · rw [if_pos rfl, hold s h hs]
    simp only [State.setFmn_pins, hg, Bool.false_eq_true, if_false]
    rw [low _ (by simpa using h)]
    rfl
  · rw [if_pos rfl, hold s h hs]
    simp only [State.setFmn_pins, hg, if_true]
    congr 1
    simp [hlow]

/-- The state in which a reset leaves a station whose check fails: the blocks at reset, FMN's conditions as
their pins have them, the settle timer at the default PEER_TIMEOUT (R37, R181). -/
def startedOut (k : ResetKind) (s : State) : State :=
  ((blocksReset k s).setFmn { fmnReset (recordAfter k s.fmn.record) with
    hold := s.pins.holdIn, supplyLow := !s.pins.supplyGood }).setStm
    { stmReset with settle := some 3000 }

theorem reset_of_out {k : ResetKind} {l r : EncoderRead} {s : State}
    (h : (blocksReset k s).cfs.out = true) : reset k l r s = startedOut k s := by
  have conditions := startConditions_of_out h (by rw [blocksReset_osl, h]; rfl)
    (s := blocksReset k s) rfl rfl
  unfold reset startOut
  dsimp only
  rw [if_pos h, conditions]
  simp only [startStage, State.peerTimeout, State.setFmn_cfs, State.setStm_cfs, h, if_true,
    Bool.not_true, Bool.and_false, Bool.false_eq_true, if_false]
  rfl

theorem reset_of_passed {k : ResetKind} {l r : EncoderRead} {s : State}
    (h : (blocksReset k s).cfs.out = false) : reset k l r s = startPassed l r (blocksReset k s) := by
  simp [reset, h]

/-- The three rows that reset the part, each of its kind; a RESTART resets where no store is in progress
(R197, R198). -/
theorem exec_reset {c : Instr} {s : State} {l r : EncoderRead} {b : Byte}
    (hc : c ∈ [Instr.powerOnReset l r, .pinReset l r, .restart b l r]) (hb : s.cfs.storeBusy = false) :
    ∃ k : ResetKind, exec c s = .next (reset k l r s) ∧ (c = .restart b l r ↔ k = .restart) := by
  simp only [List.mem_cons, List.not_mem_nil, or_false] at hc
  rcases hc with rfl | rfl | rfl
  · exact ⟨.powerOn, rfl, by simp⟩
  · exact ⟨.pin, rfl, by simp⟩
  · exact ⟨.restart, by simp [exec, execRestart, hb], by simp⟩

/-- A power-on or pin reset leaves no fault record and ACT at its reset values (R180, R208). -/
theorem recordAfter_of_ne {k : ResetKind} (h : k ≠ .restart) (r : Option FaultRecord) :
    recordAfter k r = none := by
  cases k <;> simp_all [recordAfter]

theorem actAfter_of_ne {k : ResetKind} (h : k ≠ .restart) (a : Act) : actAfter k a = actReset := by
  cases k <;> simp_all [actAfter]

/-- Every reset masks every cause and releases ATTN (R208). -/
theorem actAfter_attention (k : ResetKind) (a : Act) : (actAfter k a).causes = 0 ∧
    (actAfter k a).mask = 0x3FF ∧ (actAfter k a).attn = false := by
  cases k <;> exact ⟨rfl, rfl, rfl⟩

/-- A RESTART keeps every counter but its last condition (R208). -/
theorem actAfter_restart_counters (a : Act) (n : Nat) : (actAfter .restart a).counters.get n =
    (a.counters.get n).map fun k => { k with last := false } := by
  match n with
  | 0 | 1 | 2 | 3 => rfl
  | _ + 4 => rfl

/-! ## A store cut short -/

theorem storeWords_length {w : Words} (h : w.length = 53) : (storeWords w).length = 53 := by
  simp [storeWords, h]

/-- The words of a store cut between steps 1 and 4 (R195). -/
def cutWords (n : Nat) (old new : Words) : Words :=
  (List.range 53).map fun k => if cutWrote n k then new.getD k 0 else old.getD k 0

/-- Each word of it is the old one or the new one. -/
theorem cutWords_getElem? {n : Nat} {old new : Words} {k : Nat} (hk : k < 53) (ho : old.length = 53)
    (hn : new.length = 53) : (cutWords n old new)[k]? = if cutWrote n k then new[k]? else old[k]? := by
  have hko : k < old.length := by omega
  have hkn : k < new.length := by omega
  simp only [cutWords, List.getElem?_map, List.getElem?_range hk, Option.map_some]
  split
  · simp [List.getD_eq_getElem?_getD, hkn]
  · simp [List.getD_eq_getElem?_getD, hko]

/-- Where the check word is new, all the words are (R194). -/
theorem cutWords_of_check {n : Nat} {old new : Words} (hn : new.length = 53)
    (ho : old.length = 53) (h : cutWrote n 52 = true) : cutWords n old new = new := by
  apply List.ext_getElem?
  intro k
  by_cases hk : k < 53
  · rw [cutWords_getElem? hk ho hn, if_pos (cutWrote_check h k hk)]
  · rw [List.getElem?_eq_none (by simp [cutWords]; omega), List.getElem?_eq_none (by omega)]

/-- Before the check word a stored image is the image (R194). -/
theorem storeWords_getElem? {w : Words} {k : Nat} (hk : k < 52) (hw : w.length = 53) :
    (storeWords w)[k]? = w[k]? := by
  rw [storeWords, List.getElem?_append_left (by simp [hw]; omega), List.getElem?_take_of_lt hk]

/-- With the write mark set the check reports CHECK_WORD (R189). -/
theorem startReportOf_marked (w : Words) : startReportOf true w = .checkWord := by
  simp [startReportOf, configReport]

/-- A start that passes leaves CFS as the reset left it. -/
theorem reset_cfs (k : ResetKind) (l r : EncoderRead) (s : State) :
    (reset k l r s).cfs = (blocksReset k s).cfs := by
  cases h : (blocksReset k s).cfs.out with
  | true => rw [reset_of_out h]; rfl
  | false => rw [reset_of_passed h, startPassed]; simp

/-- What a reset makes of a store in progress (R195): as it was, complete, or marked with some words
written. -/
theorem cutStore_outcome {n : Nat} {c : Cfs} {w : Words} (hb : c.storeBusy = true)
    (hi : c.image = some w) (hw : w.length = 53) (hs : c.store.length = 53) :
    (cutStore n c).1 = c.store ∧ (cutStore n c).2 = c.writeMark ∨
    (cutStore n c).1 = w.take 52 ++ [checkWord w] ∧ (cutStore n c).2 = false ∨
    (cutStore n c).2 = true ∧ (cutStore n c).1.length = 53 ∧
      (∀ k, k < 52 → (cutStore n c).1[k]? = c.store[k]? ∨ (cutStore n c).1[k]? = w[k]?) ∧
      ((cutStore n c).1[52]? = c.store[52]? ∨ (cutStore n c).1 = w.take 52 ++ [checkWord w]) := by
  have hw' := storeWords_length hw
  rcases cutStore_cases (n := n) hb hi with h | h | h
  · exact .inl (by simp [h])
  · exact .inr (.inl (by simp [h, storeWords]))
  · have words : (cutStore n c).1 = cutWords n c.store (storeWords w) := by rw [h]; rfl
    refine .inr (.inr ⟨by rw [h], by simp [words, cutWords], fun k hk => ?_, ?_⟩)
    · rw [words, cutWords_getElem? (by omega) hs hw', storeWords_getElem? hk hw]
      split
      · exact .inr rfl
      · exact .inl rfl
    · rw [words]
      by_cases h52 : cutWrote n 52 = true
      · exact .inr (cutWords_of_check hw' hs h52)
      · exact .inl (by rw [cutWords_getElem? (by omega) hs hw', if_neg h52])

/-! ## The statement -/

theorem failedCheck_idle (s : State) (l r : EncoderRead) (b : Byte) (c : Instr)
    (hc : c ∈ [Instr.powerOnReset l r, .pinReset l r, .restart b l r]) (hb : s.cfs.storeBusy = false)
    (hfail : startReportOf s.cfs.writeMark s.cfs.store ≠ .passed) :
    ∃ t, exec c s = .next t ∧
      t.cfs = { store := s.cfs.store, writeMark := s.cfs.writeMark, working := s.cfs.store,
                out := true, startReport := startReportOf s.cfs.writeMark s.cfs.store,
                imageReport := .passed, image := none, storeBusy := false } ∧
      t.lif = lifReset ∧ t.ptb = { entries := entriesReset 1 32, listen := none } ∧
      t.clu = cluReset ∧ t.shu = shuReset ∧ t.osl = oslReset .out ∧
      t.stm = { stmReset with settle := some 3000 } ∧ t.mtc = mtcReset ∧
      t.fmn.causes = noCauses ∧ t.fmn.faultLine = false ∧ t.fmn.hold = s.pins.holdIn ∧
      t.fmn.supplyLow = !s.pins.supplyGood ∧ t.fmn.lineOff = false ∧ t.fmn.good = none ∧
      t.act.causes = 0 ∧ t.act.mask = 0x3FF ∧ t.act.attn = false ∧
      (c ≠ .restart b l r → t.fmn.record = none ∧ t.act = actReset) ∧
      (c = .restart b l r → t.fmn.record = s.fmn.record ∧
        t.act.freezeOnFull = s.act.freezeOnFull ∧ t.act.frozen = s.act.frozen ∧
        ∀ n, t.act.counters.get n = (s.act.counters.get n).map fun k => { k with last := false }) ∧
      t.lpt = lptReset t.lpt.resetCause s.lpt.transaction.afterReset ∧ t.pins = s.pins := by
  obtain ⟨k, hrun, hk⟩ := exec_reset hc hb
  have cfs : (blocksReset k s).cfs = cfsAfter s.cfs.store s.cfs.writeMark := by
    rw [blocksReset_cfs, cutStore_idle hb]
  have out : (blocksReset k s).cfs.out = true := by rw [cfs]; exact (cfsAfter_out _ _).2 hfail
  obtain ⟨causes, mask, attn⟩ := actAfter_attention k s.act
  refine ⟨_, hrun, ?_⟩
  rw [reset_of_out out]
  have cfs' : (startedOut k s).cfs =
      { cfsAfter s.cfs.store s.cfs.writeMark with out := true } := by
    rw [← out, ← cfs]
    rfl
  have ptb : (startedOut k s).ptb = { entries := entriesReset 1 32, listen := none } := by
    simp [startedOut, blocksReset_ptb, tableBays, out]
  have osl : (startedOut k s).osl = oslReset .out := by simp [startedOut, blocksReset_osl, out]
  refine ⟨cfs', rfl, ptb, rfl, rfl, osl, rfl, rfl, rfl, rfl, rfl, rfl, rfl, rfl, causes, mask, attn,
    fun h => ?_, fun h => ?_, rfl, rfl⟩
  · have hne := mt hk.2 h
    exact ⟨recordAfter_of_ne hne _, actAfter_of_ne hne _⟩
  · obtain rfl := hk.1 h
    exact ⟨rfl, rfl, rfl, actAfter_restart_counters s.act⟩

theorem failedCheck_busy (s : State) (l r : EncoderRead) (c : Instr) (w : Words)
    (hc : c ∈ [Instr.powerOnReset l r, .pinReset l r]) (hb : s.cfs.storeBusy = true)
    (hi : s.cfs.image = some w) (hw : w.length = 53) (hs : s.cfs.store.length = 53) :
    ∃ t, exec c s = .next t ∧ t.cfs.working = t.cfs.store ∧ t.cfs.image = none ∧
      t.cfs.storeBusy = false ∧ t.cfs.imageReport = .passed ∧
      t.cfs.startReport = startReportOf t.cfs.writeMark t.cfs.store ∧
      (t.cfs.out = true ↔ t.cfs.startReport ≠ .passed) ∧
      (t.cfs.store = s.cfs.store ∧ t.cfs.writeMark = s.cfs.writeMark ∨
        t.cfs.store = w.take 52 ++ [checkWord w] ∧ t.cfs.writeMark = false ∨
        t.cfs.writeMark = true ∧ t.cfs.startReport = .checkWord ∧ t.cfs.out = true ∧
          t.cfs.store.length = 53 ∧
          (∀ k, k < 52 → t.cfs.store[k]? = s.cfs.store[k]? ∨ t.cfs.store[k]? = w[k]?) ∧
          (t.cfs.store[52]? = s.cfs.store[52]? ∨
            t.cfs.store = w.take 52 ++ [checkWord w])) ∧
      (t.cfs.out = true → t.lif = lifReset ∧ t.clu = cluReset ∧ t.shu = shuReset ∧
        t.osl = oslReset .out ∧ t.mtc = mtcReset ∧ t.act = actReset ∧
        t.fmn.causes = noCauses ∧ t.fmn.record = none) := by
  have run : ∃ k : ResetKind, exec c s = .next (reset k l r s) ∧ k ≠ .restart := by
    simp only [List.mem_cons, List.not_mem_nil, or_false] at hc
    rcases hc with rfl | rfl
    · exact ⟨.powerOn, rfl, by simp⟩
    · exact ⟨.pin, rfl, by simp⟩
  obtain ⟨k, hrun, hk⟩ := run
  refine ⟨_, hrun, ?_⟩
  rw [reset_cfs, blocksReset_cfs]
  refine ⟨rfl, rfl, rfl, rfl, rfl, cfsAfter_out _ _, ?_, fun hout => ?_⟩
  · rcases cutStore_outcome (n := s.freeCount) hb hi hw hs with h | h | ⟨hm, hlen, hwords, hcheck⟩
    · exact .inl h
    · exact .inr (.inl h)
    · have report : startReportOf (cutStore s.freeCount s.cfs).2 (cutStore s.freeCount s.cfs).1 = .checkWord := by
        rw [hm, startReportOf_marked]
      exact .inr (.inr ⟨hm, report, (cfsAfter_out _ _).2 (by simp [report]), hlen, hwords, hcheck⟩)
  · rw [← blocksReset_cfs k] at hout
    rw [reset_of_out hout]
    have osl : (startedOut k s).osl = oslReset .out := by simp [startedOut, blocksReset_osl, hout]
    exact ⟨rfl, rfl, rfl, osl, rfl, actAfter_of_ne hk _, rfl, recordAfter_of_ne hk _⟩

/-- Settles O36: first with no store in progress, then with one that the reset cuts short. -/
theorem failedCheckStartsInOut : Obligations.FailedCheckStartsInOut :=
  ⟨failedCheck_idle, failedCheck_busy⟩

end Sys2Proof.BayLine

namespace Sys2Proof.BayLine

open Sys2Proof Sys2Proof.Machine

/-! ## The servo sample and the two channels -/

/-- A read leaves an invalid run within its width (R130). -/
theorem take_invalidRun (c : Channel) (r : EncoderRead) : (c.take r).invalidRun ≤ 65535 := by
  unfold Channel.take
  split
  · exact Nat.zero_le _
  · exact Nat.min_le_left _ _

theorem evalSkewHold_channels (w : Words) (m : Mtc) :
    (m.evalSkewHold w).left = m.left ∧ (m.evalSkewHold w).right = m.right := by
  unfold Mtc.evalSkewHold
  split
  · exact ⟨rfl, rfl⟩
  · split
    · split <;> exact ⟨rfl, rfl⟩
    · split <;> exact ⟨rfl, rfl⟩

theorem advanceTrim_channels (w : Words) (m : Mtc) :
    (m.advanceTrim w).left = m.left ∧ (m.advanceTrim w).right = m.right := by
  unfold Mtc.advanceTrim
  split <;> exact ⟨rfl, rfl⟩

theorem readEncoders_channels (l r : EncoderRead) (s : State) :
    (readEncoders l r s).mtc.left = s.mtc.left.take l ∧
      (readEncoders l r s).mtc.right = s.mtc.right.take r := by
  simp [readEncoders]

theorem sampleTests_channels (s : State) :
    (sampleTests s).mtc.left = s.mtc.left ∧ (sampleTests s).mtc.right = s.mtc.right := by
  simp [sampleTests, evalSkewHold_channels]

theorem advanceSetpoint_channels (s : State) :
    (advanceSetpoint s).mtc.left = s.mtc.left ∧ (advanceSetpoint s).mtc.right = s.mtc.right := by
  have advance : (s.mtc.advance s.cfs.working).left = s.mtc.left ∧
      (s.mtc.advance s.cfs.working).right = s.mtc.right := ⟨rfl, rfl⟩
  unfold advanceSetpoint
  dsimp only
  split
  · split <;> simp [advance]
  · split <;> simp [advanceTrim_channels]

theorem sampleDrives_channels (s : State) :
    (sampleDrives s).mtc.left = s.mtc.left ∧ (sampleDrives s).mtc.right = s.mtc.right := by
  simp [sampleDrives, advanceSetpoint_channels]

theorem sampleSteps_channels (s : State) :
    (sampleSteps s).mtc.left = s.mtc.left ∧ (sampleSteps s).mtc.right = s.mtc.right := by
  simp [sampleSteps, sampleDrives_channels, sampleTests_channels]

/-- A servo sample leaves in each channel record what its read makes of it (R129, R130). -/
theorem sample_channels (l r : EncoderRead) (s : State) :
    (sample l r s).mtc.left = s.mtc.left.take l ∧ (sample l r s).mtc.right = s.mtc.right.take r := by
  unfold sample
  dsimp only
  split
  · simp [readEncoders_channels]
  · simp [sampleSteps_channels, readEncoders_channels]

theorem sample_records (l r : EncoderRead) (s : State) : Records s (sample l r s) := by
  have kept := sample_inEvent l r s
  obtain ⟨hl, hr⟩ := sample_channels l r s
  exact {
    out := by simp
    working := by simp
    bays := by simp
    ages := fun h => by simpa [State.agesOk] using h
    rings := fun h => by simpa [State.ringsOk] using h
    conditions := fun h => by simpa [State.conditionsOk] using h
    failures := by rw [kept.failures]; exact id
    number := kept.number
    epoch := fun h => by simpa using h
    left := fun _ => by rw [hl]; exact take_invalidRun _ _
    right := fun _ => by rw [hr]; exact take_invalidRun _ _
    data := fun h => by simpa using h }

/-! ## The stage sample and the rings -/

/-- A ring holds at most the last 32 samples (R103). -/
theorem pushSample_length (ring : List Sample) (x : Sample) : (pushSample ring x).length ≤ 32 := by
  simp only [pushSample, List.length_drop]
  omega

theorem Records.ite {p : Prop} [Decidable p] {s t : State} (h : Records s t) :
    Records s (if p then t else s) := by
  split
  · exact h
  · exact .refl s

theorem writeRings_records (u d : BitVec 12) (s : State) : Records s (writeRings u d s) := by
  have written (xu xd : Sample) : Records s (s.setStm { s.stm with
      ringU := pushSample s.stm.ringU xu, ringD := pushSample s.stm.ringD xd }) :=
    { SameRecords.records (s := s) (t := s) (by simp [SameRecords]) id id with
      rings := fun _ => by simp [State.ringsOk, pushSample_length] }
  have counted (x : Sample) (t : State) : Records t (countSample x t) :=
    (countEvent_lineKept _ t).toRecords.ite
  exact (written _ _).trans <| (counted _ _).trans (counted _ _)

theorem surgeStep_records (s : State) : Records s (surgeStep s) := by
  have run : Records s (s.setStm { s.stm with surgeRun := s.stm.nextRun s.cfs.working }) :=
    ((setStm_inEvent s _).lineKept (by simp [SameRecords])).toRecords
  exact run.trans (raiseEpoch_lineKept _).toRecords.ite

theorem tidalStep_records (s : State) : Records s (tidalStep s) :=
  ((tidalStep_inEvent s).lineKept (by simp [SameRecords])).toRecords

theorem stageSample_records (u d : BitVec 12) (s : State) : Records s (stageSample u d s) := by
  unfold stageSample
  split
  · exact .refl s
  · exact (writeRings_records u d s).trans <|
      ((validityStep_inEvent _ _).lineKept (by simp [SameRecords])).toRecords.trans <|
      (surgeStep_records _).trans (tidalStep_records _)

/-! ## HOLD and SUPPLY_LOW -/

/-- The conditions as a proposition: HOLD is HOLD_IN, SUPPLY_LOW is held while the supply is not good, and the
good timer runs only with the supply good again. -/
theorem conditionsOk_iff (s : State) : s.conditionsOk = true ↔ s.fmn.hold = s.pins.holdIn ∧
    (s.pins.supplyGood = true ∨ s.fmn.supplyLow = true) ∧
    (s.fmn.good = none ∨ (s.pins.supplyGood = true ∧ s.fmn.supplyLow = true)) := by
  simp [State.conditionsOk, and_assoc]

/-- A change of FMN's conditions and the pins under which the rest of the records stand. -/
theorem Records.of_conditions {s t : State} (h : InEvent s t) (hcfs : t.cfs = s.cfs)
    (hptb : t.ptb = s.ptb) (hstm : t.stm = s.stm) (hlpt : t.lpt = s.lpt)
    (hleft : t.mtc.left = s.mtc.left) (hright : t.mtc.right = s.mtc.right)
    (hc : s.conditionsOk = true → t.conditionsOk = true) : Records s t where
  out := by rw [hcfs]
  working := by rw [hcfs]
  bays := by rw [hptb]
  ages x := by simpa [State.agesOk, hptb] using x
  rings x := by simpa [State.ringsOk, hstm] using x
  conditions := hc
  failures := by rw [h.failures]; exact id
  number := h.number
  epoch := by rw [hstm]; exact id
  left := by rw [hleft]; exact id
  right := by rw [hright]; exact id
  data := by rw [hlpt]; exact id

section
variable (s : State)

theorem takeHold_hold (s : State) : (takeHold s).fmn.hold = true := by simp [takeHold]

theorem takeSupplyLow_supplyLow (s : State) : (takeSupplyLow s).fmn.supplyLow = true := by
  simp [takeSupplyLow]

theorem holdTaken_records : Records s (takeHold (s.setPins { s.pins with holdIn := true })) := by
  refine .of_conditions ((setPins_inEvent s _).trans (takeHold_inEvent _)) (by simp) (by simp) (by simp)
    (by simp) (by simp) (by simp) fun h => ?_
  rw [conditionsOk_iff] at h ⊢
  simpa [takeHold_hold] using h.2

theorem holdReleased_records : Records s (testClaim (evalService (conditionEnds
    ((s.setPins { s.pins with holdIn := false }).setFmn { s.fmn with hold := false })))) := by
  refine .of_conditions ((setPins_inEvent s _).trans <| (setFmn_inEvent _ _).trans <|
    (conditionEnds_inEvent _).trans <| (evalService_inEvent _).trans (testClaim_inEvent _)) (by simp)
    (by simp) (by simp) (by simp) (by simp) (by simp) fun h => ?_
  rw [conditionsOk_iff] at h ⊢
  simpa using h.2

theorem supplyGoesLow_records :
    Records s (if s.fmn.supplyLow then (s.setPins { s.pins with supplyGood := false }).setFmn
        { s.fmn with good := none }
      else takeSupplyLow (s.setPins { s.pins with supplyGood := false })) := by
  split
  · next hlow =>
    refine .of_conditions ((setPins_inEvent s _).trans (setFmn_inEvent _ _)) rfl rfl rfl rfl rfl rfl
      fun h => ?_
    rw [conditionsOk_iff] at h ⊢
    exact ⟨h.1, .inr hlow, .inl rfl⟩
  · next hlow =>
    refine .of_conditions ((setPins_inEvent s _).trans (takeSupplyLow_inEvent _)) (by simp) (by simp)
      (by simp) (by simp) (by simp) (by simp) fun h => ?_
    obtain ⟨hhold, -, hgood⟩ := (conditionsOk_iff s).1 h
    have hnone : s.fmn.good = none := hgood.resolve_right fun x => hlow x.2
    rw [conditionsOk_iff]
    simp [takeSupplyLow_supplyLow, hhold, hnone]

theorem supplyGoesGood_records (hg : s.pins.supplyGood ≠ true) :
    Records s (if s.fmn.supplyLow then (s.setPins { s.pins with supplyGood := true }).setFmn
        { s.fmn with good := some 1000 }
      else s.setPins { s.pins with supplyGood := true }) := by
  split
  · next hlow =>
    refine .of_conditions ((setPins_inEvent s _).trans (setFmn_inEvent _ _)) rfl rfl rfl rfl rfl rfl
      fun h => ?_
    rw [conditionsOk_iff] at h ⊢
    exact ⟨h.1, .inl rfl, .inr ⟨rfl, hlow⟩⟩
  · next hlow =>
    refine .of_conditions (setPins_inEvent s _) rfl rfl rfl rfl rfl rfl fun h => ?_
    exact absurd (((conditionsOk_iff s).1 h).2.1.resolve_left hg) hlow

theorem goodTimer_records (hsome : s.fmn.good.isSome = true) : Records s (testClaim (conditionEnds
    (s.setFmn { s.fmn with good := none, supplyLow := false }))) := by
  refine .of_conditions ((setFmn_inEvent s _).trans <| (conditionEnds_inEvent _).trans
    (testClaim_inEvent _)) (by simp) (by simp) (by simp) (by simp) (by simp) (by simp) fun h => ?_
  obtain ⟨hhold, -, hgood⟩ := (conditionsOk_iff s).1 h
  have hsupply := hgood.resolve_left fun x => by simp [x] at hsome
  rw [conditionsOk_iff]
  simp [hhold, hsupply.1]

end

/-! ## The attempt -/

section
variable (s : State)

theorem attemptSuccess_records (a : Attempt) : Records s (lineOn (takeOwnFrame a.frame (sent a s))) := by
  obtain ⟨_, hfail, _⟩ := sentLif_line a s.lif
  have ended : Records s (s.setLif (sentLif a s.lif)) :=
    SameRecords.records (by simp [SameRecords]) (fun _ => by simp [hfail]) id
  have on (t : State) : Records t (lineOn t) := by
    have changed : Records t ((t.setLif { t.lif with line := .on }).setFmn { t.fmn with lineOff := false }) :=
      SameRecords.records (by simp [SameRecords]) id id
    unfold lineOn
    exact (changed.trans (testClaim_lineKept _).toRecords).ite
  exact ended.trans <| (countEvent_lineKept _ _).toRecords.trans <|
    (takeOwnFrame_lineKept _ _).toRecords.trans (on _)

theorem goOff_records : Records s (goOff s) := by
  have dropped : Records s (lineDropped s) := SameRecords.records (by simp [SameRecords, lineDropped]) id id
  exact dropped.trans ((claimLineOff_inEvent _).lineKept (by simp [SameRecords])).toRecords

theorem failAttempt_records : Records s (failAttempt s) := by
  have failed : Records s (s.setLif { s.lif with attempt := none, failures := min 16 (s.lif.failures + 1) }) :=
    SameRecords.records (by simp [SameRecords]) (fun _ => Nat.min_le_left _ _) id
  have off (t : State) (p : Prop) [Decidable p] : Records t (if p then goOff t else t) :=
    (goOff_records t).ite
  exact failed.trans <| (countEvent_lineKept _ _).toRecords.trans (off _ _)

theorem offTimer_records : Records s (restartRepeat ((listenStart (rejoining s)).setClu
    { s.clu with fresh := true, freshTaken := false })) := by
  have listened : (listenStart (rejoining s)).ptb.entries.map (fun e => e.bay) =
      s.ptb.entries.map fun e => e.bay := by
    simp only [listenStart_ptb, List.map_map, rejoining, startStatuses_frame, State.setLif_ptb]
    rfl
  have aged (h : s.agesOk = true) : (listenStart (rejoining s)).agesOk = true := by
    simpa [State.agesOk, listenStart_ptb, rejoining] using h
  have same : SameRecords s (restartRepeat (((listenStart (rejoining s)).setPtb s.ptb).setClu
      { s.clu with fresh := true, freshTaken := false })) := by
    simp [SameRecords, restartRepeat, rejoining]
  exact { same.records (fun _ => by simp [restartRepeat, rejoining]) id with
    bays := by simpa [restartRepeat] using listened
    ages := fun h => by simpa [restartRepeat, State.agesOk] using aged h }

end

end Sys2Proof.BayLine

namespace Sys2Proof.BayLine

open Sys2Proof Sys2Proof.Machine

/-! ## The host's commands and the records -/

section
variable {s t : State}

/-- A change that touches neither LIF nor CLU. -/
theorem SameRecords.records_of_eq (h : SameRecords s t) (hlif : t.lif = s.lif) (hclu : t.clu = s.clu) :
    Records s t := h.records (by rw [hlif]; exact id) (by rw [hclu]; exact id)

theorem InEvent.records (h : InEvent s t) (hr : SameRecords s t) : Records s t := (h.lineKept hr).toRecords

end

section
variable (s : State)

theorem answerCommand_records (code : Byte) (a : Answer) (clamped : Bool) :
    Records s (answerCommand code a clamped s) := by
  have data : (answerCommand code a clamped s).lpt.data = s.lpt.data := by
    unfold answerCommand
    dsimp only
    split <;> simp
  exact SameRecords.records_of_eq (by simp [SameRecords, data]) (by simp) (by simp)

theorem latchCommand_records (code b : Byte) : Records s (latchCommand code b s) :=
  SameRecords.records_of_eq (by simp [SameRecords, latchCommand]) rfl rfl

/-- A COMMAND write keeps what its owner keeps (R187). -/
theorem command_records {owner : State → Reply} (h : ∀ u, Records u (owner u).state) (code b : Byte) :
    Records s (command code b owner s) := by
  unfold command
  dsimp only
  split
  · exact (latchCommand_records s code b).trans (answerCommand_records _ _ _ _)
  · exact (latchCommand_records s code b).trans <| (h _).trans (answerCommand_records _ _ _ _)

theorem ownSetLocal_records : Records s (ownSetLocal s).state := by
  have taken (target : Nat) : Records s (setLocal target s) :=
    (setLocal_inEvent target s).records (by simp [SameRecords])
  unfold ownSetLocal
  split
  · exact .refl s
  · split
    · exact taken _
    · exact taken _

theorem reselect_records (s : State) : Records s (reselect s) :=
  (reselect_inEvent s).records (by simp [SameRecords])

theorem setOsl_records (x : Osl) : Records s (s.setOsl x) :=
  (setOsl_inEvent s x).records (by simp [SameRecords])

theorem ownWithdrawLocal_records : Records s (ownWithdrawLocal s).state := by
  unfold ownWithdrawLocal
  split
  · exact .refl s
  · exact (setOsl_records s _).trans (reselect_records _)

theorem ownIssue_records : Records s (ownIssue s).state := by
  unfold ownIssue
  dsimp only
  split
  · exact .refl s
  · split
    · exact .refl s
    · exact (queueOrder_lineKept _ s).toRecords

theorem ownSetFloor_records (floor : Nat) : Records s (ownSetFloor floor s).state := by
  unfold ownSetFloor
  split
  · exact .refl s
  · split
    · exact .refl s
    · exact (setOsl_records s _).trans (reselect_records _)

theorem ownRaise_records : Records s (ownRaise s).state := by
  unfold ownRaise
  split
  · exact .refl s
  · split
    · exact .refl s
    · exact (raiseEpoch_lineKept s).toRecords

theorem ownClear_records : Records s (ownClear s).state := by
  unfold ownClear
  split
  · exact .refl s
  · split
    · exact .refl s
    · split
      · exact .refl s
      · split
        · exact .refl s
        · split
          · exact .refl s
          · split
            · exact .refl s
            · exact (clearEpoch_lineKept s).toRecords

theorem ownDeclare_records (bay : Nat) : Records s (ownDeclare bay s).state := by
  have declared (x : Span) : Records s (testClaim (s.updateEntry bay (Entry.declare x))) :=
    ((updateEntry_lineKept s bay (Entry.declare x) (fun _ => rfl) fun _ h => h).trans
      (testClaim_lineKept _)).toRecords
  unfold ownDeclare
  dsimp only
  split
  · exact .refl s
  · split
    · exact .refl s
    · split
      · exact .refl s
      · split
        · exact .refl s
        · split
          · exact .refl s
          · exact declared _

theorem ownWithdraw_records (bay : Nat) : Records s (ownWithdraw bay s).state := by
  have withdrawn (x : Saved) : Records s (s.updateEntry bay (Entry.withdraw x)) :=
    (updateEntry_lineKept s bay (Entry.withdraw x) (fun _ => rfl) fun _ h => h).toRecords
  have unknown (t : State) (p : Prop) [Decidable p] :
      Records t (if p then setAttention .neighbourUnknown t else t) :=
    (setAttention_lineKept _ _).toRecords.ite
  unfold ownWithdraw
  split
  · exact .refl s
  · split
    · exact .refl s
    · split
      · exact .refl s
      · exact (withdrawn _).trans <| (unknown _ _).trans (testClaim_lineKept _).toRecords

theorem ownFaultReset_records : Records s (ownFaultReset s).state := by
  unfold ownFaultReset
  split
  · exact .refl s
  · split
    · exact .refl s
    · split
      · exact .refl s
      · exact (clearFaults_inEvent s).records (by simp [SameRecords])

theorem ownTrim_records (b : Byte) : Records s (ownTrim b s).state := by
  have begun (x : Trim) : Records s (beginTrim x s) :=
    (setMotion_inEvent _ s).records (by simp [SameRecords])
  unfold ownTrim
  dsimp only
  split
  · exact .refl s
  · split
    · exact .refl s
    · split
      · exact .refl s
      · split
        · exact .refl s
        · split
          · exact .refl s
          · split
            · split
              · exact .refl s
              · exact begun _
            · exact .refl s

theorem setAct_records (x : Act) : Records s (s.setAct x) :=
  SameRecords.records_of_eq (by simp [SameRecords]) rfl rfl

theorem ownSelect_records (n : Nat) : Records s (ownSelect n s).state := by
  unfold ownSelect
  split
  · exact .refl s
  · split
    · exact .refl s
    · exact setAct_records s _

theorem ownCounterReset_records (n : Nat) : Records s (ownCounterReset n s).state := by
  unfold ownCounterReset
  split
  · exact .refl s
  · split
    · exact setAct_records s _
    · exact setAct_records s _

theorem ownRelease_records : Records s (ownRelease s).state := by
  unfold ownRelease
  split
  · exact setAct_records s _
  · exact .refl s

theorem enterCommissioning_inEvent (b : Byte) : InEvent s (enterCommissioning b s) :=
  (setCfs_inEvent s _).trans <| (stopForCondition_inEvent _).trans (evalService_inEvent _)

theorem leaveCommissioning_inEvent : InEvent s (leaveCommissioning s) :=
  (setCfs_inEvent s _).trans <| (evalService_inEvent _).trans <| (conditionEnds_inEvent _).trans
    (testClaim_inEvent _)

theorem ownEnter_records (b : Byte) : Records s (ownEnter b s).state := by
  have entered : Records s (enterCommissioning b s) :=
    (enterCommissioning_inEvent s b).records (by simp [SameRecords])
  unfold ownEnter
  split
  · exact .refl s
  · split
    · exact .refl s
    · split
      · exact entered
      · split
        · exact .refl s
        · split
          · exact .refl s
          · exact entered

theorem ownWrite_records (b : Byte) : Records s (ownWrite b s).state := by
  have written (x : Option Words) (r : Report) :
      Records s (s.setCfs { s.cfs with image := x, imageReport := r }) :=
    SameRecords.records_of_eq (by simp [SameRecords]) rfl rfl
  unfold ownWrite
  split
  · exact .refl s
  · dsimp only
    split
    · exact .refl s
    · split
      · exact .refl s
      · exact written _ _

theorem ownStore_records : Records s (ownStore s).state := by
  unfold ownStore
  split
  · exact .refl s
  · dsimp only
    split
    · exact SameRecords.records_of_eq (by simp [SameRecords]) rfl rfl
    · exact SameRecords.records_of_eq (by simp [SameRecords]) rfl rfl

theorem ownLeave_records : Records s (ownLeave s).state := by
  unfold ownLeave
  split
  · exact (leaveCommissioning_inEvent s).records (by simp [SameRecords])
  · exact .refl s

theorem completeStore_records : Records s (completeStore s) := by
  have stored (x : Words) (y : Option Words) : Records s (s.setCfs { s.cfs with
      store := x, writeMark := false, image := y, storeBusy := false }) :=
    SameRecords.records_of_eq (by simp [SameRecords]) rfl rfl
  exact (stored _ _).trans (answerCommand_records _ _ _ _)

/-! ## The timers and the tables -/

theorem peerLapse_records (b : Nat) : Records s (chooseSources (shareReport (setAttention .peerLapse
    (countEvent .peerLapse (s.updateEntry b fun e => { e with presence := .lapsed }))))) :=
  ((updateEntry_lineKept s b (fun e => { e with presence := .lapsed }) (fun _ => rfl)
    fun _ h => h).trans <| (countEvent_lineKept _ _).trans <|
    (setAttention_lineKept _ _).trans <| (shareReport_lineKept _).trans (chooseSources_lineKept _)).toRecords

theorem startBackoff_records (s : State) : Records s (startBackoff s) :=
  SameRecords.records (by simp [SameRecords]) id id

theorem resolveClaim_records (o : ClaimOutcome) {s : State} (h : s.clu.state ≠ .still) :
    Records s (resolveClaim o s) := (resolveClaim_inEvent o h).records (by simp [SameRecords])

theorem setLif_records (s : State) (l : Lif) (h : s.lif.failures ≤ 16 → l.failures ≤ 16) :
    Records s (s.setLif l) := SameRecords.records (by simp [SameRecords]) h id

theorem setClu_records (s : State) (c : Clu) (h : s.clu.number < 256 → c.number < 256) :
    Records s (s.setClu c) := SameRecords.records (by simp [SameRecords]) id h

theorem orderRepeat_records (s : State) : ∃ t, execOrderRepeatTimer s = .next t ∧ Records s t := by
  have stopped (c : OrderContent) :
      Records s (queueOrder c (s.setLif { s.lif with repeatTimer := none })) :=
    (setLif_records s { s.lif with repeatTimer := none } id).trans (queueOrder_lineKept c _).toRecords
  have repeated (p : Prop) [Decidable p] (c : OrderContent) : Records s (if p then restartRepeat s
      else queueOrder c (s.setLif { s.lif with repeatTimer := none })) := by
    split
    · exact (restartRepeat_lineKept s).toRecords
    · exact stopped c
  refine ⟨_, rfl, .ite ?_⟩
  cases s.shu.order with
  | none => exact (restartRepeat_lineKept s).toRecords
  | some o => exact repeated _ _

theorem askingTimer_records (s : State) : ∃ t, execAskingTimer s = .next t ∧ Records s t := by
  refine ⟨_, rfl, ?_⟩
  split
  · next h =>
    simp only [Bool.and_eq_true, decide_eq_true_eq] at h
    have hs : s.clu.state ≠ .still := by simp [h.1]
    exact ((withdrawClaim_inEvent hs).records (by simp [SameRecords])).trans <|
      (resolveClaim_records _ (by simpa using hs)).trans (startBackoff_records _)
  · exact .refl s

theorem claimWindow_records (s : State) : ∃ t, execClaimWindow s = .next t ∧ Records s t := by
  refine ⟨_, rfl, ?_⟩
  split
  · next h =>
    simp only [Bool.and_eq_true, decide_eq_true_eq] at h
    have hs : s.clu.state ≠ .still := by simp [h.1]
    exact (resolveClaim_records _ hs).trans <| (countEvent_lineKept _ _).toRecords.trans
      (startBackoff_records _)
  · exact .refl s

theorem releaseTimer_records (s : State) : ∃ t, execReleaseTimer s = .next t ∧ Records s t := by
  refine ⟨_, rfl, ?_⟩
  dsimp only
  split
  · split
    · exact ((setMtc_inEvent s _).trans (leavePriming_inEvent _)).records (by simp [SameRecords])
    · exact (setMtc_inEvent s _).records (by simp [SameRecords])
    all_goals exact .refl s
  · exact .refl s

/-- The data words of a capture are sixteen (R185). -/
theorem dataWords_length (l : List Word) : (dataWords l).length = 16 := by
  simp [dataWords]

theorem capture_records (s : State) (x : Lpt) (h : x.data.length = 16) : Records s (s.setLpt x) :=
  { Records.refl s with data := fun _ => h }

theorem registerWrite_records (addr : BitVec 7) (w : Word) (s : State) :
    ∃ t, execRegisterWrite addr w s = .next t ∧ Records s t := by
  have operand (x : Lpt) (h : x.data = s.lpt.data) : Records s (s.setLpt x) :=
    (setLpt_inEvent s x).records (by simp [SameRecords, h])
  refine ⟨_, rfl, ?_⟩
  split
  · exact operand _ rfl
  · split
    · exact operand _ rfl
    · exact .refl s

theorem tableIndexWrite_records (w : Word) (s : State) :
    ∃ t, execTableIndexWrite w s = .next t ∧ Records s t := by
  refine ⟨_, rfl, capture_records s _ ?_⟩
  split
  · exact dataWords_length _
  · exact List.length_replicate

theorem dueStatusA_records (s : State) : Records s (dueStatusA s) :=
  (dueStatusA_inEvent s).records (by simp [SameRecords])

theorem dueStatusB_records (s : State) : Records s (dueStatusB s) :=
  SameRecords.records (by simp [SameRecords]) (by simp) (by simp)

theorem statusAPeriod_records (s : State) : ∃ t, execStatusAPeriod s = .next t ∧ Records s t := by
  refine ⟨_, rfl, ?_⟩
  cases s.lif.sinceStatusA with
  | none => exact .refl s
  | some n =>
    exact (setLif_records s { s.lif with sinceStatusA := some (max n (statusAPeriodOf s.mtc.motion)) } id).trans
      (dueStatusA_records _)

theorem statusBPeriod_records (s : State) : ∃ t, execStatusBPeriod s = .next t ∧ Records s t := by
  refine ⟨_, rfl, ?_⟩
  cases s.lif.sinceStatusB with
  | none => exact .refl s
  | some n =>
    exact (setLif_records s { s.lif with sinceStatusB := some (max n 1000) } id).trans
      (dueStatusB_records _)

theorem surgeIn_records (s : State) (level : Bool) :
    Records s (s.setPins { s.pins with surgeIn := level }) :=
  .of_conditions (setPins_inEvent s _) rfl rfl rfl rfl rfl rfl id

theorem surgeInActive_records (s : State) :
    Records s (if s.cfs.out then s.setPins { s.pins with surgeIn := true }
      else raiseEpoch (s.setPins { s.pins with surgeIn := true })) := by
  split
  · exact surgeIn_records s true
  · exact (surgeIn_records s true).trans (raiseEpoch_lineKept _).toRecords

theorem attemptBegun_records (s : State) : Records s (match s.chosenFrame with
    | some f => s.setLif { s.lif with attempt := some { frame := f, touched := false } }
    | none => s) := by
  split
  · exact setLif_records s _ id
  · exact .refl s

theorem success_records (s : State) : ∃ t, execAttemptSuccess s = .next t ∧ Records s t := by
  cases h : s.lif.attempt with
  | none => exact ⟨s, by simp [execAttemptSuccess, h], .refl s⟩
  | some a => exact ⟨_, execAttemptSuccess_eq h, attemptSuccess_records s a⟩

theorem offTimerExpiry_records (s : State) : ∃ t, execOffTimer s = .next t ∧ Records s t := by
  by_cases h : s.lif.line = .off ∧ s.lif.offTimer.isSome = true
  · exact ⟨_, execOffTimer_eq h.1 h.2, offTimer_records s⟩
  · refine ⟨s, ?_, .refl s⟩
    rw [execOffTimer, if_neg]
    simpa using h

end

/-! ## Every command but a reset -/

/-- The rows that reset the part (R198). -/
def isReset : Instr → Bool
  | .powerOnReset _ _ | .pinReset _ _ | .restart _ _ _ => true
  | _ => false

/-- A row that sets a test before its operation. -/
theorem Records.next_ite {p : Prop} [Decidable p] {s t : State} (h : p → Records s t) :
    ∃ u, (Host.Outcome.next (if p then t else s) : Host.Outcome State Fault Refusal) = .next u ∧
      Records s u := by
  refine ⟨_, rfl, ?_⟩
  split
  · next hp => exact h hp
  · exact .refl s

/-- A row whose operation is ruled out by a test. -/
theorem Records.next_unless {p : Prop} [Decidable p] {s t : State} (h : ¬ p → Records s t) :
    ∃ u, (Host.Outcome.next (if p then s else t) : Host.Outcome State Fault Refusal) = .next u ∧
      Records s u := by
  refine ⟨_, rfl, ?_⟩
  split
  · exact .refl s
  · next hp => exact h hp

theorem exec_records {c : Instr} (hc : isReset c = false) (s : State) :
    ∃ t, exec c s = .next t ∧ Records s t := by
  cases c with
  | powerOnReset l r => cases hc
  | pinReset l r => cases hc
  | restart b l r => cases hc
  | servoSample l r => exact ⟨_, rfl, sample_records l r s⟩
  | encoderFault h l r => exact Records.next_ite fun _ => sample_records l r s
  | stallWindowEnd h l r => exact Records.next_ite fun _ => sample_records l r s
  | settleCountFull l r => exact Records.next_ite fun _ => sample_records l r s
  | stageSample u d => exact ⟨_, rfl, stageSample_records u d s⟩
  | tidalStateChange u d => exact Records.next_ite fun _ => stageSample_records u d s
  | surgeRunComplete u d => exact Records.next_ite fun _ => stageSample_records u d s
  | surgeInActive => exact Records.next_unless fun _ => surgeInActive_records s
  | surgeInInactive => exact ⟨_, rfl, surgeIn_records s false⟩
  | holdTaken => exact Records.next_unless fun _ => holdTaken_records s
  | holdReleased => exact Records.next_ite fun _ => holdReleased_records s
  | supplyGoesLow => exact Records.next_ite fun _ => supplyGoesLow_records s
  | supplyGoesGood => exact Records.next_unless fun h => supplyGoesGood_records s h
  | goodTimer => exact Records.next_ite fun h => goodTimer_records s h
  | attemptBegin => exact Records.next_ite fun _ => attemptBegun_records s
  | attemptSuccess => exact success_records s
  | attemptLostContention winner => exact Records.next_ite fun _ =>
      (setLif_records s { s.lif with attempt := none } id).trans (receiveFrame_lineKept winner _).toRecords
  | attemptFailure => exact Records.next_ite fun _ => failAttempt_records s
  | lineOff => exact Records.next_ite fun _ => failAttempt_records s
  | offTimer => exact offTimerExpiry_records s
  | statusAPeriod => exact statusAPeriod_records s
  | statusBPeriod => exact statusBPeriod_records s
  | orderRepeatTimer => exact orderRepeat_records s
  | frameDiscarded f => exact Records.next_unless fun _ => (receiveFrame_lineKept f s).toRecords
  | statusAFrame bay data => exact ⟨_, rfl, (receiveFrame_lineKept _ s).toRecords⟩
  | statusBFrame bay data => exact ⟨_, rfl, (receiveFrame_lineKept _ s).toRecords⟩
  | surgeFrame bay data => exact ⟨_, rfl, (receiveFrame_lineKept _ s).toRecords⟩
  | verdictFrame bay data => exact ⟨_, rfl, (receiveFrame_lineKept _ s).toRecords⟩
  | claimFrame bay data => exact ⟨_, rfl, (receiveFrame_lineKept _ s).toRecords⟩
  | orderFrame bay data => exact ⟨_, rfl, (receiveFrame_lineKept _ s).toRecords⟩
  | listenTimer => exact Records.next_ite fun _ => (listenEnd_lineKept s).toRecords
  | peerLapse b => exact Records.next_ite fun _ => peerLapse_records s b
  | askingTimer => exact askingTimer_records s
  | claimWindow => exact claimWindow_records s
  | backoffTimer => exact Records.next_ite fun _ =>
      (setClu_records s { s.clu with backoff := none } id).trans (testClaim_lineKept _).toRecords
  | settleTimer => exact Records.next_ite fun _ => (settleNow_lineKept s).toRecords
  | pumpSettle => exact Records.next_ite fun _ => (setMtc_inEvent s _).records (by simp [SameRecords])
  | releaseTimer => exact releaseTimer_records s
  | settleTimeout => exact Records.next_ite fun _ => (enterHolding_inEvent s).records (by simp [SameRecords])
  | runOn => exact ⟨_, rfl, (runOnExpiry_inEvent s).records (by simp [SameRecords])⟩
  | trimLimitTimeout =>
    exact Records.next_ite fun _ => (enterFaultStop_inEvent s).records (by simp [SameRecords])
  | storeComplete => exact Records.next_ite fun _ => completeStore_records s
  | attnCauseWrite w => exact ⟨_, rfl, setAct_records s _⟩
  | attnMaskWrite w => exact ⟨_, rfl, setAct_records s _⟩
  | resetCauseWrite w => exact ⟨_, rfl, (setLpt_inEvent s _).records (by simp [SameRecords])⟩
  | tableSelectWrite w => exact ⟨_, rfl, capture_records s _ List.length_replicate⟩
  | tableIndexWrite w => exact tableIndexWrite_records w s
  | registerWrite addr w => exact registerWrite_records addr w s
  | setLocalOrder b => exact ⟨_, rfl, command_records s ownSetLocal_records _ _⟩
  | withdrawLocalOrder b => exact ⟨_, rfl, command_records s ownWithdrawLocal_records _ _⟩
  | issueWeirOrder b => exact ⟨_, rfl, command_records s ownIssue_records _ _⟩
  | raiseSurge b => exact ⟨_, rfl, command_records s ownRaise_records _ _⟩
  | clearSurge b => exact ⟨_, rfl, command_records s ownClear_records _ _⟩
  | setFloor b => exact ⟨_, rfl, command_records s (ownSetFloor_records · _) _ _⟩
  | declareBound b => exact ⟨_, rfl, command_records s (ownDeclare_records · _) _ _⟩
  | withdrawDeclaration b => exact ⟨_, rfl, command_records s (ownWithdraw_records · _) _ _⟩
  | faultReset b => exact ⟨_, rfl, command_records s ownFaultReset_records _ _⟩
  | trim b => exact ⟨_, rfl, command_records s (ownTrim_records · b) _ _⟩
  | counterSelect n => exact ⟨_, rfl, command_records s (ownSelect_records · _) _ _⟩
  | counterReset n => exact ⟨_, rfl, command_records s (ownCounterReset_records · _) _ _⟩
  | counterRelease n => exact ⟨_, rfl, command_records s ownRelease_records _ _⟩
  | freezeMode n => exact ⟨_, rfl, command_records s (setAct_records · _) _ _⟩
  | enterCommissioning b => exact ⟨_, rfl, command_records s (ownEnter_records · b) _ _⟩
  | commissionWrite b => exact ⟨_, rfl, command_records s (ownWrite_records · b) _ _⟩
  | commissionStore b => exact ⟨_, rfl, command_records s ownStore_records _ _⟩
  | leaveCommissioning b => exact ⟨_, rfl, command_records s ownLeave_records _ _⟩
  | unknownCommand code b =>
    exact Records.next_ite fun _ => command_records s (owner := refuse .refusedRange) (fun u => .refl u) _ _

end Sys2Proof.BayLine

namespace Sys2Proof.BayLine

open Sys2Proof Sys2Proof.Machine

/-! ## OUT is silent and still -/

/-- A station in OUT at rest: no frame and no attempt, no motion, no fault, no claim, no listen period (R18,
R165). -/
def Silent (s : State) : Prop :=
  s.cfs.out = true ∧ s.lif = lifReset ∧ s.mtc.motion = .stopped ∧ s.fmn.causes = noCauses ∧
    s.clu = cluReset ∧ s.ptb.listen = none ∧ s.osl.service = .out

/-- What `Silent` speaks of stands as it stood. -/
def Quiet (s t : State) : Prop :=
  t.cfs.out = s.cfs.out ∧ t.lif = s.lif ∧ t.mtc.motion = s.mtc.motion ∧ t.fmn.causes = s.fmn.causes ∧
    t.clu = s.clu ∧ t.ptb.listen = s.ptb.listen ∧ t.osl.service = s.osl.service

theorem isEmpty_iff (c : CauseSet) : c.isEmpty = true ↔ c = noCauses := by
  simp [CauseSet.isEmpty]

theorem outOk_iff (s : State) : s.outOk = true ↔ (s.cfs.out = true → Silent s) := by
  cases h : s.cfs.out <;> simp [State.outOk, Silent, h, isEmpty_iff, and_assoc]

section
variable {s t u : State}

theorem Quiet.refl (s : State) : Quiet s s := ⟨rfl, rfl, rfl, rfl, rfl, rfl, rfl⟩

theorem Quiet.of_eq (h : t = s) : Quiet s t := h ▸ .refl s

theorem Quiet.trans (h : Quiet s t) (k : Quiet t u) : Quiet s u := by
  obtain ⟨h1, h2, h3, h4, h5, h6, h7⟩ := h
  obtain ⟨k1, k2, k3, k4, k5, k6, k7⟩ := k
  exact ⟨k1.trans h1, k2.trans h2, k3.trans h3, k4.trans h4, k5.trans h5, k6.trans h6, k7.trans h7⟩

theorem Quiet.silent (h : Quiet s t) (hs : Silent s) : Silent t := by
  obtain ⟨out, lif, motion, causes, clu, listen, service⟩ := h
  simpa [Silent, out, lif, motion, causes, clu, listen, service] using hs

theorem Quiet.ite {p : Prop} [Decidable p] (h : Quiet s t) : Quiet s (if p then t else s) := by
  split
  · exact h
  · exact .refl s

end

/-! ### Operations that do nothing in OUT -/

section
variable {s : State} (h : s.cfs.out = true)
include h

theorem shareReport_of_out : shareReport s = s := by simp [shareReport, h]
theorem chooseSources_of_out : chooseSources s = s := by simp [chooseSources, h]
theorem targetReport_of_out : targetReport s = s := by simp [targetReport, h]
theorem surgeReport_of_out (k : Slot) : surgeReport k s = s := by simp [surgeReport, h]
theorem testClaim_of_out : testClaim s = s := by simp [testClaim, h]
theorem conditionEnds_of_out : conditionEnds s = s := by simp [conditionEnds, h]
theorem raiseTests_of_out : raiseTests s = s := by simp [raiseTests, h]
theorem takeOrder_of_out (b : Nat) (c : OrderContent) : takeOrder b c s = s := by simp [takeOrder, h]
theorem takeVerdict_of_out (b : Nat) (c : VerdictContent) : takeVerdict b c s = s := by
  simp [takeVerdict, h]
theorem isNeighbour_of_out (b : Nat) : s.isNeighbour b = false := by simp [State.isNeighbour, h]
theorem takeClaim_of_out (b : Nat) (c : ClaimContent) : takeClaim b c s = s := by
  simp [takeClaim, isNeighbour_of_out h]
theorem stageSample_of_out (u d : BitVec 12) : stageSample u d s = s := by simp [stageSample, h]
theorem isDuplicate_of_out (f : RawFrame) : s.isDuplicate f = false := by simp [State.isDuplicate, h]

end

/-! ### Operations that are quiet -/

section
variable {s : State}

theorem Silent.out (h : Silent s) : s.cfs.out = true := h.1

theorem Silent.clu (h : Silent s) : s.clu = cluReset := by
  obtain ⟨-, -, -, -, clu, -, -⟩ := h
  exact clu

theorem countEvent_quiet (e : CountedEvent) (s : State) : Quiet s (countEvent e s) := by simp [Quiet]

theorem setAttention_quiet (c : AttnCause) (s : State) : Quiet s (setAttention c s) := by simp [Quiet]

theorem updateEntry_quiet (b : Nat) (f : Entry → Entry) (s : State) : Quiet s (s.updateEntry b f) := by
  simp [Quiet, State.updateEntry]

theorem evalService_quiet (h : Silent s) : Quiet s (evalService s) := by
  obtain ⟨out, lif, motion, causes, clu, listen, service⟩ := h
  rw [evalService_of_out out service]
  exact .refl s

theorem reselect_quiet (h : Silent s) : Quiet s (reselect s) := by
  obtain ⟨out, lif, motion, causes, clu, listen, service⟩ := h
  unfold reselect captureRest
  dsimp only
  split
  · exact .refl s
  · rw [evalService_of_out, targetReport_of_out, surgeReport_of_out]
    · split <;> simp [Quiet]
    all_goals split <;> simp [out, service]

theorem endClosureRow_quiet (h : s.clu = cluReset) : Quiet s (endClosureRow s) := by
  simp [Quiet, endClosureRow, h, cluReset]

/-- In OUT a new epoch moves the SURGE slot and the selection, and begins no closure (R37, R118). -/
theorem changeEpoch_quiet (e : Nat) (h : Silent s) : Quiet s (changeEpoch e s) := by
  have moved (odd : Bool) (t : State) (ht : Silent t) : Quiet t (reselect (endClosureRow
      ((t.setClu { t.clu with surgeClosure := t.clu.surgeClosure || (odd && !t.cfs.out) }).setOsl
        { t.osl with surge := odd }))) := by
    have asked : Quiet t ((t.setClu { t.clu with
        surgeClosure := t.clu.surgeClosure || (odd && !t.cfs.out) }).setOsl { t.osl with surge := odd }) := by
      obtain ⟨out, -, -, -, clu, -, -⟩ := ht
      simp [Quiet, out, clu, cluReset]
    have ended := asked.trans (endClosureRow_quiet (asked.silent ht).clu)
    exact ended.trans (reselect_quiet (ended.silent ht))
  have marked : Quiet s (setAttention .surgeChange (s.setStm { s.stm with epoch := e })) := by
    simp [Quiet]
  unfold changeEpoch
  dsimp only
  split
  · exact .refl s
  · split
    · exact marked
    · have all := marked.trans (moved (e % 2 == 1) _ (marked.silent h))
      split
      · exact all
      · next hout => exact absurd (all.silent h).out hout

theorem lineAccepts_of_out (h : s.cfs.out = true) : s.lineAccepts = false := by
  simp [State.lineAccepts, h]

theorem adoptEpoch_quiet (e : Nat) (h : Silent s) : Quiet s (adoptEpoch e s) := by
  have changed := changeEpoch_quiet e h
  unfold adoptEpoch
  dsimp only
  rw [raiseTests_of_out (changed.silent h).out]
  split
  · exact .refl s
  · split
    · exact changed
    · exact changed

theorem settleNow_quiet (s : State) : Quiet s (settleNow s) := by simp [Quiet, settleNow]

theorem surgeFromPeer_quiet (e : Nat) (h : Silent s) : Quiet s (surgeFromPeer e s) := by
  have settled := settleNow_quiet s
  unfold surgeFromPeer
  split
  · exact (adoptEpoch_quiet e h).ite
  · exact settled.trans (adoptEpoch_quiet e (settled.silent h))

theorem takeStatusA_quiet (b : Nat) (c : StatusA) (h : Silent s) : Quiet s (takeStatusA b c s) := by
  obtain ⟨out, -, -, -, -, listen, -⟩ := h
  have opened (b opening : Nat) (t : State) (ht : t.cfs.out = true) : openingReport b opening t = t := by
    unfold openingReport
    rw [shareReport_of_out ht]
    split
    · rfl
    · simp
  unfold takeStatusA
  split
  · exact .refl s
  · simp only [isNeighbour_of_out out, Bool.false_and, Bool.false_eq_true, if_false]
    rw [shareReport_of_out (by exact out), ite_self, opened _ _ _ (by exact out), ite_self]
    exact updateEntry_quiet _ _ _

theorem takeStatusB_quiet (b : Nat) (c : StatusB) (h : Silent s) : Quiet s (takeStatusB b c s) := by
  unfold takeStatusB
  dsimp only
  split
  · exact .refl s
  · rw [if_pos h.out]
    exact updateEntry_quiet _ _ _

theorem heard_quiet (b : Nat) (h : s.cfs.out = true) : Quiet s (heard b s) := by
  unfold heard
  dsimp only
  split
  · exact .refl s
  · rw [if_pos h]
    exact updateEntry_quiet _ _ _

theorem deliver_quiet (b : Nat) (f : Frame) (h : Silent s) : Quiet s (deliver b f s) := by
  cases f with
  | surge e => exact surgeFromPeer_quiet e h
  | verdict c => exact .of_eq (takeVerdict_of_out h.out b c)
  | claim c => exact .of_eq (takeClaim_of_out h.out b c)
  | order c => exact .of_eq (takeOrder_of_out h.out b c)
  | statusA c => exact takeStatusA_quiet b c h
  | statusB c => exact takeStatusB_quiet b c h

theorem receiveFrame_quiet (f : RawFrame) (h : Silent s) : Quiet s (receiveFrame f s) := by
  have discarded : Quiet s (discardFrame s) := countEvent_quiet _ s
  have counted := countEvent_quiet .frameReceived s
  have listed := counted.trans (heard_quiet (rawSender f) (counted.silent h).out)
  unfold receiveFrame
  simp only [isDuplicate_of_out h.out, Bool.false_eq_true, if_false]
  split
  · exact discarded
  · split
    · exact discarded
    · exact listed.trans (deliver_quiet _ _ (listed.silent h))

/-! ### The host's commands -/

theorem setCfs_quiet (x : Cfs) (s : State) (h : x.out = s.cfs.out) : Quiet s (s.setCfs x) := by
  simp [Quiet, h]

theorem setAct_quiet (x : Act) (s : State) : Quiet s (s.setAct x) := by simp [Quiet]

theorem setLpt_quiet (x : Lpt) (s : State) : Quiet s (s.setLpt x) := by simp [Quiet]

theorem setPins_quiet (x : Pins) (s : State) : Quiet s (s.setPins x) := by simp [Quiet]

theorem setFmn_quiet (x : Fmn) (s : State) (h : x.causes = s.fmn.causes) : Quiet s (s.setFmn x) := by
  simp [Quiet, h]

theorem answerCommand_quiet (code : Byte) (a : Answer) (clamped : Bool) (s : State) :
    Quiet s (answerCommand code a clamped s) := by simp [Quiet]

theorem latchCommand_quiet (code b : Byte) (s : State) : Quiet s (latchCommand code b s) :=
  setLpt_quiet _ s

theorem command_quiet {owner : State → Reply} (hown : ∀ u, Silent u → Quiet u (owner u).state)
    (code b : Byte) (h : Silent s) : Quiet s (command code b owner s) := by
  have latched := latchCommand_quiet code b s
  unfold command
  dsimp only
  split
  · exact latched.trans (answerCommand_quiet _ _ _ _)
  · exact latched.trans <| (hown _ (latched.silent h)).trans (answerCommand_quiet _ _ _ _)

/-- A command whose owner refuses it in OUT. -/
theorem refusal_quiet {owner : State → Reply} (code b : Byte) (hs : Silent s)
    (h : ∀ u, u.cfs.out = true → owner u = refuse .refusedState u) : Quiet s (command code b owner s) := by
  refine command_quiet (fun u hu => ?_) code b hs
  rw [h u hu.out]
  exact .refl u

theorem ownSelect_quiet (n : Nat) (s : State) : Quiet s (ownSelect n s).state := by
  unfold ownSelect
  split
  · exact .refl s
  · split
    · exact .refl s
    · exact setAct_quiet _ s

theorem ownCounterReset_quiet (n : Nat) (s : State) : Quiet s (ownCounterReset n s).state := by
  unfold ownCounterReset
  split
  · exact .refl s
  · split
    · exact setAct_quiet _ s
    · exact setAct_quiet _ s

theorem ownRelease_quiet (s : State) : Quiet s (ownRelease s).state := by
  unfold ownRelease
  split
  · exact setAct_quiet _ s
  · exact .refl s

theorem enterCommissioning_quiet (b : Byte) (h : Silent s) : Quiet s (enterCommissioning b s) := by
  have loaded : Quiet s (s.setCfs { s.cfs with
      image := some (loadedImage b s), imageReport := enterReport b s }) := setCfs_quiet _ s rfl
  unfold enterCommissioning
  rw [stopForCondition_of_out (loaded.silent h).out]
  exact loaded.trans (evalService_quiet (loaded.silent h))

theorem leaveCommissioning_quiet (h : Silent s) : Quiet s (leaveCommissioning s) := by
  have dropped : Quiet s (s.setCfs { s.cfs with image := none }) := setCfs_quiet _ s rfl
  have all := dropped.trans (evalService_quiet (dropped.silent h))
  unfold leaveCommissioning
  rw [conditionEnds_of_out (all.silent h).out, testClaim_of_out (all.silent h).out]
  exact all

theorem ownEnter_quiet (b : Byte) (h : Silent s) : Quiet s (ownEnter b s).state := by
  unfold ownEnter
  split
  · exact .refl s
  · split
    · exact .refl s
    · rw [if_pos h.out]
      exact enterCommissioning_quiet b h

theorem ownWrite_quiet (b : Byte) (s : State) : Quiet s (ownWrite b s).state := by
  unfold ownWrite
  split
  · exact .refl s
  · dsimp only
    split
    · exact .refl s
    · split
      · exact .refl s
      · exact setCfs_quiet _ s rfl

theorem ownStore_quiet (s : State) : Quiet s (ownStore s).state := by
  unfold ownStore
  split
  · exact .refl s
  · dsimp only
    split
    · exact setCfs_quiet _ s rfl
    · exact setCfs_quiet _ s rfl

theorem ownLeave_quiet (h : Silent s) : Quiet s (ownLeave s).state := by
  unfold ownLeave
  split
  · exact leaveCommissioning_quiet h
  · exact .refl s

theorem completeStore_quiet (s : State) : Quiet s (completeStore s) :=
  (setCfs_quiet _ s rfl).trans (answerCommand_quiet _ _ _ _)

/-! ### The sample and the conditions -/

theorem reportIf_of_out (p : Bool) (c : Cause) (h : s.cfs.out = true) : reportIf p c s = s := by
  simp [reportIf, reportFault, h]

theorem takeHold_quiet (h : Silent s) : Quiet s (takeHold s) := by
  have held : Quiet s (s.setFmn { s.fmn with hold := true }) := setFmn_quiet _ s rfl
  unfold takeHold
  rw [stopForCondition_of_out (held.silent h).out]
  exact held.trans (evalService_quiet (held.silent h))

theorem takeSupplyLow_quiet (h : Silent s) : Quiet s (takeSupplyLow s) := by
  have taken : Quiet s (s.setFmn { s.fmn with supplyLow := true }) := setFmn_quiet _ s rfl
  unfold takeSupplyLow
  rw [stopForCondition_of_out (taken.silent h).out]
  exact taken

/-- In OUT a sample reads the encoders and no more (R131). -/
theorem sample_quiet (l r : EncoderRead) (h : Silent s) : Quiet s (sample l r s) := by
  have counted (c : Channel) (t : State) : Quiet t (countRead c t) := (countEvent_quiet _ t).ite
  have read : Quiet s (s.setMtc { s.mtc with left := s.mtc.left.take l, right := s.mtc.right.take r }) := by
    simp [Quiet]
  have all := read.trans <| (counted (s.mtc.left.take l) _).trans (counted (s.mtc.right.take r) _)
  have out := (all.silent h).out
  unfold sample readEncoders
  dsimp only
  rw [if_pos h.out, reportIf_of_out _ _ out, reportIf_of_out _ _ out]
  exact all.trans (setAct_quiet _ _)

end

/-! ### Every command but a reset -/

/-- A row whose test fails. -/
theorem Quiet.next_of_not {p : Prop} [Decidable p] {s t : State} (h : ¬ p) :
    ∃ u, (Host.Outcome.next (if p then t else s) : Host.Outcome State Fault Refusal) = .next u ∧
      Quiet s u := ⟨s, by rw [if_neg h], .refl s⟩

theorem Quiet.next_ite {p : Prop} [Decidable p] {s t : State} (h : Quiet s t) :
    ∃ u, (Host.Outcome.next (if p then t else s) : Host.Outcome State Fault Refusal) = .next u ∧
      Quiet s u := ⟨_, rfl, h.ite⟩

theorem Quiet.next_unless {p : Prop} [Decidable p] {s t : State} (h : Quiet s t) :
    ∃ u, (Host.Outcome.next (if p then s else t) : Host.Outcome State Fault Refusal) = .next u ∧
      Quiet s u := by
  refine ⟨_, rfl, ?_⟩
  split
  · exact .refl s
  · exact h

theorem supplyGoesGood_quiet (s : State) : Quiet s
    (if s.fmn.supplyLow then (s.setPins { s.pins with supplyGood := true }).setFmn
        { s.fmn with good := some 1000 }
      else s.setPins { s.pins with supplyGood := true }) := by
  have good := setPins_quiet { s.pins with supplyGood := true } s
  split
  · exact good.trans (setFmn_quiet _ _ rfl)
  · exact good

theorem registerWrite_quiet (addr : BitVec 7) (w : Word) (s : State) :
    ∃ t, execRegisterWrite addr w s = .next t ∧ Quiet s t := by
  refine ⟨_, rfl, ?_⟩
  split
  · exact setLpt_quiet _ s
  · split
    · exact setLpt_quiet _ s
    · exact .refl s

theorem tableIndexWrite_quiet (w : Word) (s : State) :
    ∃ t, execTableIndexWrite w s = .next t ∧ Quiet s t :=
  ⟨_, rfl, setLpt_quiet _ s⟩

section
variable {s : State} (h : Silent s)
include h

theorem stageSample_quiet (u d : BitVec 12) : Quiet s (stageSample u d s) :=
  .of_eq (stageSample_of_out h.out u d)

theorem runOnExpiry_quiet : Quiet s (runOnExpiry s) := by
  obtain ⟨-, -, motion, -⟩ := h
  exact .of_eq (by simp [runOnExpiry, motion])

theorem surgeInActive_quiet : Quiet s (if s.cfs.out then s.setPins { s.pins with surgeIn := true }
    else raiseEpoch (s.setPins { s.pins with surgeIn := true })) := by
  rw [if_pos h.out]
  exact setPins_quiet _ s

theorem holdReleased_quiet : Quiet s (testClaim (evalService (conditionEnds
    ((s.setPins { s.pins with holdIn := false }).setFmn { s.fmn with hold := false })))) := by
  have released := (setPins_quiet { s.pins with holdIn := false } s).trans
    (setFmn_quiet { s.fmn with hold := false } _ rfl)
  have all := released.trans (evalService_quiet (released.silent h))
  rw [conditionEnds_of_out (released.silent h).out, testClaim_of_out (all.silent h).out]
  exact all

theorem supplyGoesLow_quiet : Quiet s
    (if s.fmn.supplyLow then (s.setPins { s.pins with supplyGood := false }).setFmn
        { s.fmn with good := none }
      else takeSupplyLow (s.setPins { s.pins with supplyGood := false })) := by
  have low := setPins_quiet { s.pins with supplyGood := false } s
  split
  · exact low.trans (setFmn_quiet _ _ rfl)
  · exact low.trans (takeSupplyLow_quiet (low.silent h))

theorem goodTimer_quiet : Quiet s (testClaim (conditionEnds
    (s.setFmn { s.fmn with good := none, supplyLow := false }))) := by
  have ended : Quiet s (s.setFmn { s.fmn with good := none, supplyLow := false }) := setFmn_quiet _ s rfl
  have out := (ended.silent h).out
  rw [conditionEnds_of_out out, testClaim_of_out out]
  exact ended

theorem peerLapse_quiet (b : Nat) : Quiet s (chooseSources (shareReport (setAttention .peerLapse
    (countEvent .peerLapse (s.updateEntry b fun e => { e with presence := .lapsed }))))) := by
  have lapsed := (updateEntry_quiet b (fun e => { e with presence := .lapsed }) s).trans <|
    (countEvent_quiet .peerLapse _).trans (setAttention_quiet .peerLapse _)
  have out := (lapsed.silent h).out
  rw [shareReport_of_out out, chooseSources_of_out out]
  exact lapsed

/-- The timers that run in OUT are the settle timer and the good timer alone (R18). -/
theorem exec_quiet {c : Instr} (hc : isReset c = false) : ∃ t, exec c s = .next t ∧ Quiet s t := by
  have hs := h
  obtain ⟨out, lif, motion, causes, clu, listen, service⟩ := h
  cases c with
  | powerOnReset l r => cases hc
  | pinReset l r => cases hc
  | restart b l r => cases hc
  | servoSample l r => exact ⟨_, rfl, sample_quiet l r hs⟩
  | encoderFault h l r => exact Quiet.next_ite (sample_quiet l r hs)
  | stallWindowEnd h l r => exact Quiet.next_ite (sample_quiet l r hs)
  | settleCountFull l r => exact Quiet.next_ite (sample_quiet l r hs)
  | stageSample u d => exact ⟨_, rfl, stageSample_quiet hs u d⟩
  | tidalStateChange u d => exact Quiet.next_ite (stageSample_quiet hs u d)
  | surgeRunComplete u d => exact Quiet.next_ite (stageSample_quiet hs u d)
  | surgeInActive => exact Quiet.next_unless (surgeInActive_quiet hs)
  | surgeInInactive => exact ⟨_, rfl, setPins_quiet _ s⟩
  | holdTaken =>
    exact Quiet.next_unless ((setPins_quiet _ s).trans (takeHold_quiet ((setPins_quiet _ s).silent hs)))
  | holdReleased => exact Quiet.next_ite (holdReleased_quiet hs)
  | supplyGoesLow => exact Quiet.next_ite (supplyGoesLow_quiet hs)
  | supplyGoesGood => exact Quiet.next_unless (supplyGoesGood_quiet s)
  | goodTimer => exact Quiet.next_ite (goodTimer_quiet hs)
  | attemptBegin => exact Quiet.next_of_not (by simp [lineAccepts_of_out out])
  | attemptSuccess => exact ⟨s, by simp [exec, execAttemptSuccess, lif, lifReset], .refl s⟩
  | attemptLostContention winner => exact Quiet.next_of_not (by simp [lif, lifReset])
  | attemptFailure => exact Quiet.next_of_not (by simp [lif, lifReset])
  | lineOff => exact Quiet.next_of_not (by simp [lif, lifReset])
  | offTimer => exact Quiet.next_of_not (by simp [lif, lifReset])
  | statusAPeriod => exact ⟨s, by simp [exec, execStatusAPeriod, lif, lifReset], .refl s⟩
  | statusBPeriod => exact ⟨s, by simp [exec, execStatusBPeriod, lif, lifReset], .refl s⟩
  | orderRepeatTimer => exact Quiet.next_of_not (by simp [lif, lifReset])
  | frameDiscarded f => exact Quiet.next_unless (receiveFrame_quiet f hs)
  | statusAFrame bay data => exact ⟨_, rfl, receiveFrame_quiet _ hs⟩
  | statusBFrame bay data => exact ⟨_, rfl, receiveFrame_quiet _ hs⟩
  | surgeFrame bay data => exact ⟨_, rfl, receiveFrame_quiet _ hs⟩
  | verdictFrame bay data => exact ⟨_, rfl, receiveFrame_quiet _ hs⟩
  | claimFrame bay data => exact ⟨_, rfl, receiveFrame_quiet _ hs⟩
  | orderFrame bay data => exact ⟨_, rfl, receiveFrame_quiet _ hs⟩
  | listenTimer => exact Quiet.next_of_not (by simp [listen])
  | peerLapse b => exact Quiet.next_ite (peerLapse_quiet hs b)
  | askingTimer => exact Quiet.next_of_not (by simp [clu, cluReset])
  | claimWindow => exact Quiet.next_of_not (by simp [clu, cluReset])
  | backoffTimer => exact Quiet.next_of_not (by simp [clu, cluReset])
  | settleTimer => exact Quiet.next_ite (settleNow_quiet s)
  | pumpSettle => exact Quiet.next_of_not (by simp [motion])
  | releaseTimer => exact ⟨s, by simp [exec, execReleaseTimer, motion], .refl s⟩
  | settleTimeout => exact Quiet.next_of_not (by simp [motion])
  | runOn => exact ⟨_, rfl, runOnExpiry_quiet hs⟩
  | trimLimitTimeout => exact Quiet.next_of_not (by simp [motion])
  | storeComplete => exact Quiet.next_ite (completeStore_quiet s)
  | attnCauseWrite w => exact ⟨_, rfl, setAct_quiet _ s⟩
  | attnMaskWrite w => exact ⟨_, rfl, setAct_quiet _ s⟩
  | resetCauseWrite w => exact ⟨_, rfl, setLpt_quiet _ s⟩
  | tableSelectWrite w => exact ⟨_, rfl, setLpt_quiet _ s⟩
  | tableIndexWrite w => exact tableIndexWrite_quiet w s
  | registerWrite addr w => exact registerWrite_quiet addr w s
  | setLocalOrder b => exact ⟨_, rfl, refusal_quiet _ _ hs fun u hu => by simp [ownSetLocal, hu]⟩
  | withdrawLocalOrder b => exact ⟨_, rfl, refusal_quiet _ _ hs fun u hu => by simp [ownWithdrawLocal, hu]⟩
  | issueWeirOrder b => exact ⟨_, rfl, refusal_quiet _ _ hs fun u hu => by simp [ownIssue, hu]⟩
  | raiseSurge b => exact ⟨_, rfl, refusal_quiet _ _ hs fun u hu => by simp [ownRaise, hu]⟩
  | clearSurge b => exact ⟨_, rfl, refusal_quiet _ _ hs fun u hu => by simp [ownClear, hu]⟩
  | setFloor b => exact ⟨_, rfl, refusal_quiet _ _ hs fun u hu => by simp [ownSetFloor, hu]⟩
  | declareBound b => exact ⟨_, rfl, refusal_quiet _ _ hs fun u hu => by simp [ownDeclare, hu]⟩
  | withdrawDeclaration b => exact ⟨_, rfl, refusal_quiet _ _ hs fun u hu => by simp [ownWithdraw, hu]⟩
  | faultReset b => exact ⟨_, rfl, refusal_quiet _ _ hs fun u hu => by simp [ownFaultReset, hu]⟩
  | trim b => exact ⟨_, rfl, refusal_quiet _ _ hs fun u hu => by simp [ownTrim, hu]⟩
  | counterSelect n => exact ⟨_, rfl, command_quiet (fun u _ => ownSelect_quiet _ u) _ _ hs⟩
  | counterReset n => exact ⟨_, rfl, command_quiet (fun u _ => ownCounterReset_quiet _ u) _ _ hs⟩
  | counterRelease n => exact ⟨_, rfl, command_quiet (fun u _ => ownRelease_quiet u) _ _ hs⟩
  | freezeMode n => exact ⟨_, rfl, command_quiet (fun u _ => setAct_quiet _ u) _ _ hs⟩
  | enterCommissioning b => exact ⟨_, rfl, command_quiet (fun u hu => ownEnter_quiet b hu) _ _ hs⟩
  | commissionWrite b => exact ⟨_, rfl, command_quiet (fun u _ => ownWrite_quiet b u) _ _ hs⟩
  | commissionStore b => exact ⟨_, rfl, command_quiet (fun u _ => ownStore_quiet u) _ _ hs⟩
  | leaveCommissioning b => exact ⟨_, rfl, command_quiet (fun u hu => ownLeave_quiet hu) _ _ hs⟩
  | unknownCommand code b =>
    exact Quiet.next_ite (command_quiet (owner := refuse .refusedRange) (fun u _ => .refl u) _ _ hs)

end

end Sys2Proof.BayLine

namespace Sys2Proof.BayLine

open Sys2Proof Sys2Proof.Machine

/-! ## A reset and the records -/

/-- HOLD taken at the start, if HOLD_IN is active (R181). -/
def heldAtStart (s : State) : State := if s.pins.holdIn then takeHold s else s

theorem startConditions_eq (s : State) : startConditions s =
    if s.pins.supplyGood then heldAtStart s else takeSupplyLow (heldAtStart s) := by
  have pins : (heldAtStart s).pins = s.pins := by
    unfold heldAtStart
    split <;> simp
  rw [← pins]
  rfl

theorem heldAtStart_fmn (s : State) :
    (heldAtStart s).fmn = { s.fmn with hold := s.pins.holdIn || s.fmn.hold } := by
  unfold heldAtStart
  split
  · next h => simp [takeHold, h]
  · next h => simp [h]

theorem heldAtStart_inEvent (s : State) : InEvent s (heldAtStart s) := by
  unfold heldAtStart
  split
  · exact takeHold_inEvent s
  · exact .refl s

/-- FMN as it takes its conditions at the start: HOLD by HOLD_IN, SUPPLY_LOW by the sense (R181). -/
theorem startConditions_fmn (s : State) : (startConditions s).fmn = { s.fmn with
    hold := s.pins.holdIn || s.fmn.hold, supplyLow := !s.pins.supplyGood || s.fmn.supplyLow } := by
  rw [startConditions_eq]
  split
  · next h => simp [h, heldAtStart_fmn]
  · next h => simp [h, takeSupplyLow, heldAtStart_fmn]

theorem startConditions_inEvent (s : State) : InEvent s (startConditions s) := by
  rw [startConditions_eq]
  split
  · exact heldAtStart_inEvent s
  · exact (heldAtStart_inEvent s).trans (takeSupplyLow_inEvent _)

theorem listenStart_records (s : State) : Records s (listenStart s) := by
  have listening : Records s (s.setPtb { entries := s.ptb.entries.map fun e => { e with mark := false },
                                         listen := some s.peerTimeout }) :=
    { Records.refl s with
      bays := by simp
      ages := fun h => by simpa [State.agesOk] using h }
  exact listening.trans (evalService_lineKept _).toRecords

theorem startStage_records (s : State) : Records s (startStage s) := by
  have started : Records s (s.setStm { s.stm with settle := some s.peerTimeout }) :=
    (setStm_inEvent s _).records (by simp [SameRecords])
  exact started.trans (raiseEpoch_lineKept _).toRecords.ite

theorem startStatuses_records (s : State) : Records s (startStatuses s) :=
  (dueStatusA_records s).trans <| (dueStatusB_records _).trans (setLif_records _ _ id)

/-- What holds in every state that the records speak of. -/
def Bounded (s : State) : Prop :=
  s.tableOk = true ∧ s.agesOk = true ∧ s.ringsOk = true ∧ s.conditionsOk = true ∧ s.widthsOk = true

theorem widthsOk_iff (s : State) : s.widthsOk = true ↔ s.lif.failures ≤ 16 ∧ s.clu.number < 256 ∧
    s.stm.epoch < 16 ∧ s.mtc.left.invalidRun ≤ 65535 ∧ s.mtc.right.invalidRun ≤ 65535 ∧
    s.lpt.data.length = 16 := by
  simp [State.widthsOk]

section
variable {s t : State} (h : Records s t)
include h

theorem Records.tableOk : t.tableOk = s.tableOk := by
  simp [State.tableOk, State.firstBay, State.lastBay, h.bays, h.out, h.working]

theorem Records.widthsOk (hs : s.widthsOk = true) : t.widthsOk = true := by
  obtain ⟨failures, number, epoch, left, right, data⟩ := (widthsOk_iff s).1 hs
  exact (widthsOk_iff t).2 ⟨h.failures failures, h.number number, h.epoch epoch, h.left left, h.right right,
    h.data data⟩

theorem Records.bounded (hs : Bounded s) : Bounded t := by
  obtain ⟨table, ages, rings, conditions, widths⟩ := hs
  exact ⟨h.tableOk ▸ table, h.ages ages, h.rings rings, h.conditions conditions, h.widthsOk widths⟩

end

/-- The table after a reset, in OUT or not (R18, R19). -/
theorem tableOk_of_reset {s : State} (h : s.ptb.entries =
    entriesReset (tableBays s.cfs).1 (tableBays s.cfs).2) : s.tableOk = true := by
  have bays : tableBays s.cfs = (s.firstBay, s.lastBay) := by
    unfold tableBays State.firstBay State.lastBay
    split <;> rfl
  simp [State.tableOk, h, bays, entriesReset, entryReset]

theorem agesOk_of_reset {s : State} {a b : Nat} (h : s.ptb.entries = entriesReset a b) :
    s.agesOk = true := by
  simp [State.agesOk, h, entriesReset, entryReset]

section
variable (k : ResetKind) (s : State)

theorem startedOut_bounded : Bounded (startedOut k s) := by
  refine ⟨tableOk_of_reset rfl, agesOk_of_reset rfl, rfl, ?_, rfl⟩
  rw [conditionsOk_iff]
  exact ⟨rfl, by cases hg : s.pins.supplyGood <;> simp [startedOut, hg], .inl rfl⟩

theorem startedOut_silent (h : (blocksReset k s).cfs.out = true) : Silent (startedOut k s) :=
  ⟨h, rfl, rfl, rfl, rfl, rfl, by simp [startedOut, blocksReset_osl, h, oslReset]⟩

theorem startConditions_bounded : Bounded (startConditions (blocksReset k s)) := by
  have kept := startConditions_inEvent (blocksReset k s)
  refine ⟨tableOk_of_reset (by simp [blocksReset_ptb]),
    agesOk_of_reset (congrArg Ptb.entries (startConditions_frame _).1), ?_, ?_, ?_⟩
  · simp [State.ringsOk, stmReset]
  · rw [conditionsOk_iff]
    simp [startConditions_fmn, fmnReset]
  · rw [widthsOk_iff, kept.failures]
    simp [lifReset, cluReset, stmReset, mtcReset, channelReset, lptReset]

theorem reset_bounded (l r : EncoderRead) : Bounded (reset k l r s) ∧ (reset k l r s).outOk = true := by
  cases h : (blocksReset k s).cfs.out with
  | true =>
    rw [reset_of_out h]
    exact ⟨startedOut_bounded k s, (outOk_iff _).2 fun _ => startedOut_silent k s h⟩
  | false =>
    have out : (reset k l r s).cfs.out = false := by rw [reset_cfs, h]
    have kept : Records (startConditions (blocksReset k s)) (startPassed l r (blocksReset k s)) :=
      (listenStart_records _).trans <| (startStage_records _).trans <| (sample_records l r _).trans
        (startStatuses_records _)
    refine ⟨?_, (outOk_iff _).2 fun hout => by simp [out] at hout⟩
    rw [reset_of_passed h]
    exact kept.bounded (startConditions_bounded k s)

end

/-! ## One millisecond and the records -/

theorem tick_records (s : State) : Records s (tick s) := by
  have bay (e : Entry) : (Entry.tick e).bay = e.bay := by
    unfold Entry.tick
    split <;> rfl
  have age (e : Entry) (h : e.age ≤ 65535) : (Entry.tick e).age ≤ 65535 := by
    unfold Entry.tick
    split
    · exact h
    · exact Nat.min_le_left _ _
  exact { Records.refl s with
    bays := by simp [tick, advanceClocks, bay]
    ages := fun h => by
      simp only [State.agesOk, List.all_eq_true, decide_eq_true_eq] at h
      simp only [State.agesOk, tick, advanceClocks, List.all_eq_true, decide_eq_true_eq, State.setPending_ptb,
        State.setFmn_ptb, State.setMtc_ptb, State.setStm_ptb, State.setClu_ptb, State.setPtb_ptb,
        List.forall_mem_map]
      exact fun e he => age e (h e he)
    conditions := fun h => by
      rw [conditionsOk_iff] at h ⊢
      simpa [tick, advanceClocks, tickTimer] using h }

theorem tick_quiet {s : State} (h : Silent s) : Quiet s (tick s) := by
  obtain ⟨-, lif, -, -, clu, listen, -⟩ := h
  simp [Quiet, tick, advanceClocks, lif, lifReset, clu, cluReset, listen, tickTimer]

/-! ## The statement -/

theorem setPending_records (s : State) (q : List Instr) : Records s (s.setPending q) :=
  { Records.refl s with }

theorem restart_cases (b : Byte) (l r : EncoderRead) (s : State) :
    exec (.restart b l r) s = .next (reset .restart l r s) ∨
      exec (.restart b l r) s = .next (answerCommand 0x1F .refusedBusy false (latchCommand 0x1F b s)) := by
  cases h : s.cfs.storeBusy with
  | true => exact .inr (by simp [exec, execRestart, h])
  | false => exact .inl (by simp [exec, execRestart, h])

/-- A command keeps the records, and silence in OUT, or is a reset and makes them anew. -/
theorem exec_keeps (c : Instr) (s : State) : ∃ t, exec c s = .next t ∧
    (Records s t ∧ (Silent s → Silent t) ∨ Bounded t ∧ t.outOk = true) := by
  cases hc : isReset c with
  | false =>
    obtain ⟨t, ht, kept⟩ := exec_records hc s
    refine ⟨t, ht, .inl ⟨kept, fun hs => ?_⟩⟩
    obtain ⟨u, hu, quiet⟩ := exec_quiet hs hc
    rw [ht] at hu
    cases hu
    exact quiet.silent hs
  | true =>
    cases c with
    | powerOnReset l r => exact ⟨_, rfl, .inr (reset_bounded _ s l r)⟩
    | pinReset l r => exact ⟨_, rfl, .inr (reset_bounded _ s l r)⟩
    | restart b l r =>
      rcases restart_cases b l r s with h | h
      · exact ⟨_, h, .inr (reset_bounded _ s l r)⟩
      · have answered : Quiet s (answerCommand 0x1F .refusedBusy false (latchCommand 0x1F b s)) :=
          (latchCommand_quiet _ _ _).trans (answerCommand_quiet _ _ _ _)
        exact ⟨_, h, .inl ⟨(latchCommand_records _ _ _).trans (answerCommand_records _ _ _ _),
          answered.silent⟩⟩
    | _ => cases hc

/-- A step runs a command on the state with the rest of the queue, or lets a millisecond pass. -/
theorem step_keeps {s t : State} (h : step s = .next t) :
    Records s t ∧ (Silent s → Silent t) ∨ Bounded t ∧ t.outOk = true := by
  cases hp : s.pending with
  | nil =>
    obtain rfl : tick s = t := by simpa [step, hp] using h
    exact .inl ⟨tick_records s, fun hs => (tick_quiet hs).silent hs⟩
  | cons c rest =>
    obtain ⟨u, hu, kept⟩ := exec_keeps c (s.setPending rest)
    obtain rfl : u = t := by simpa [step, hp, hu] using h
    exact kept.imp_left (And.imp_left (setPending_records s rest).trans)

/-- Settles O41: every step but a reset keeps the records and the silence of OUT, and a reset makes them
anew. -/
theorem everyStepKeepsTheRecords : Obligations.EveryStepKeepsTheRecords := by
  intro s t h
  rcases step_keeps h with ⟨kept, silent⟩ | ⟨⟨table, ages, rings, conditions, widths⟩, out⟩
  · refine ⟨kept.tableOk ▸ id, kept.ages, kept.rings, kept.conditions, fun hs => ?_, kept.widthsOk⟩
    rw [outOk_iff] at hs ⊢
    exact fun hout => silent (hs (kept.out ▸ hout))
  · exact ⟨fun _ => table, fun _ => ages, fun _ => rings, fun _ => conditions, fun _ => out,
      fun _ => widths⟩

end Sys2Proof.BayLine

namespace Sys2Proof.BayLine

open Sys2Proof Sys2Proof.Machine

/-! ## The service state and the fault record of a start -/

/-- While the station starts: the service state is the one of R95, and the fault line, ATTN and the record tell
of a latched fault and of nothing else (R164, R167, R180). `r` is the record that the reset left. -/
structure Told (r : Option FaultRecord) (s : State) : Prop where
  out : s.cfs.out = false
  service : s.osl.service = s.serviceNow
  unlatched : s.fmn.causes = noCauses → s.fmn.faultLine = false ∧ s.fmn.record = r
  latched : s.fmn.causes ≠ noCauses → s.fmn.faultLine = true ∧ s.act.causes &&& 0x001 = 0x001 ∧
    ∃ x, s.fmn.record = some x ∧ x.recorded = s.fmn.causes

section
variable {r : Option FaultRecord} {s t : State}

theorem Told.of_act (h : Told r s) (hcfs : t.cfs = s.cfs) (hfmn : t.fmn = s.fmn)
    (hservice : t.osl.service = t.serviceNow) (act : ActKept s.act t.act) : Told r t where
  out := hcfs ▸ h.out
  service := hservice
  unlatched hc := by
    rw [hfmn] at hc ⊢
    exact h.unlatched hc
  latched hc := by
    rw [hfmn] at hc ⊢
    obtain ⟨line, bit, record⟩ := h.latched hc
    exact ⟨line, act.keeps_fault bit, record⟩

/-- An operation that leaves the conditions and the selection as they are. -/
theorem Told.kept (h : Told r s) (k : InEvent s t) (hcfs : t.cfs = s.cfs) (hfmn : t.fmn = s.fmn)
    (hservice : t.osl.service = s.osl.service) (hselected : t.osl.selected = s.osl.selected) : Told r t := by
  refine h.of_act hcfs hfmn ?_ k.act
  rw [hservice, h.service]
  simp [State.serviceNow, State.faultLatched, State.commissioning, hcfs, hfmn, k.listen, hselected]

theorem firstFault_told (c : Cause) (h : Told r s) (hc : s.fmn.causes = noCauses) :
    Told r (firstFault c s) := by
  have out : (firstFault c s).cfs.out = false := by simpa [firstFault] using h.out
  have causes : (firstFault c s).fmn.causes ≠ noCauses := by
    rw [firstFault_fmn]
    exact add_ne_noCauses _ _
  exact { out
          service := by rw [firstFault_service c h.out, serviceNow_of_fault out causes]
          unlatched := fun hc => absurd hc causes
          latched := fun _ => by
            rw [firstFault_fmn]
            exact ⟨rfl, setAttention_fault _, _, rfl, by simp [State.faultPicture, hc]⟩ }

theorem secondFault_told (c : Cause) (h : Told r s) (hc : s.fmn.causes ≠ noCauses) :
    Told r (secondFault c s) := by
  have out : (secondFault c s).cfs.out = false := by simpa using h.out
  have causes : (secondFault c s).fmn.causes ≠ noCauses := by
    rw [secondFault_fmn]
    exact add_ne_noCauses _ _
  have service : (secondFault c s).osl = s.osl := by simp
  obtain ⟨line, -, x, record, recorded⟩ := h.latched hc
  exact { out
          service := by rw [service, h.service, serviceNow_of_fault h.out hc, serviceNow_of_fault out causes]
          unlatched := fun hc => absurd hc causes
          latched := fun _ => by
            rw [secondFault_fmn]
            exact ⟨line, secondFault_attention _ _, { x with recorded := x.recorded.add c },
              by simp [record], by simp [recorded]⟩ }

theorem reportFault_told (c : Cause) (h : Told r s) : Told r (reportFault c s) := by
  cases has : s.fmn.causes.has c with
  | true => rwa [reportFault_latched has]
  | false =>
    by_cases hc : s.fmn.causes = noCauses
    · rw [reportFault_first h.out hc]
      exact firstFault_told c h hc
    · rw [reportFault_second h.out hc has]
      exact secondFault_told c h hc

theorem reportIf_told (p : Bool) (c : Cause) (h : Told r s) : Told r (reportIf p c s) := by
  unfold reportIf
  split
  · exact reportFault_told c h
  · exact h

theorem reselect_told (h : Told r s) : Told r (reselect s) := by
  have same (t : State) (k : Slot) : (surgeReport k (targetReport (evalService t))).osl.service =
      (surgeReport k (targetReport (evalService t))).serviceNow := by
    simp [serviceNow_congr (s := evalService t) (t := surgeReport k (targetReport (evalService t)))]
  refine h.of_act (by simp) (by simp) ?_ (reselect_inEvent s).act
  unfold reselect
  dsimp only
  split
  · exact h.service
  · exact same _ _

/-! ### The servo sample -/

theorem readEncoders_told (x y : EncoderRead) (h : Told r s) : Told r (readEncoders x y s) := by
  have counted (c : Channel) {t : State} (ht : Told r t) : Told r (countRead c t) :=
    ht.kept (countRead_inEvent c t) (by simp) (by simp) (by simp) (by simp)
  exact reportIf_told _ _ (reportIf_told _ _ (counted _ (counted _
    (h.kept (setMtc_inEvent s _) rfl rfl rfl rfl))))

theorem sampleTests_told (h : Told r s) : Told r (sampleTests s) :=
  (reportIf_told _ .skewTrip (reportIf_told _ .overtravel h)).kept (setMtc_inEvent _ _) rfl rfl rfl rfl

theorem sampleDrives_told (h : Told r s) : Told r (sampleDrives s) := by
  have driven : Told r (computeDrives (advanceSetpoint s)) :=
    h.kept ((advanceSetpoint_inEvent s).trans (.of_eq (by simp) (by simp) (by simp) (by simp [ActKept.refl])))
      (by simp) (by simp) (by simp) (by simp)
  exact reportIf_told _ _ (reportIf_told _ _ (driven.kept (setMtc_inEvent _ _) rfl rfl rfl rfl))

theorem sampleSteps_told (h : Told r s) : Told r (sampleSteps s) := by
  have driven := sampleDrives_told (sampleTests_told h)
  have settled (b : Bool) {t : State} (ht : Told r t) : Told r (settleAndTrim b t) :=
    ht.kept (settleAndTrim_inEvent b t) (by simp) (by simp) (by simp) (by simp)
  have handed {t : State} (ht : Told r t) : Told r (handOver t) :=
    ht.kept (handOverSamples_inEvent _ t) (by simp) (by simp) (by simp) (by simp)
  have left {t : State} (ht : Told r t) : Told r (leaveFaultStop t) :=
    ht.kept (leaveFaultStop_inEvent t) (by simp) (by simp) (by simp) (by simp)
  exact left (handed (settled _ driven))

theorem awaitRest_told (h : Told r s) : Told r (awaitRest s) := by
  unfold awaitRest
  split
  · exact h.kept (captureRest_inEvent s) rfl rfl rfl rfl
  · exact h

theorem sample_told (x y : EncoderRead) (h : Told r s) : Told r (sample x y s) := by
  have stroked (before : Option Nat) {t : State} (ht : Told r t) : Told r (firstStroke before t) :=
    ht.kept (firstStroke_inEvent before t) (by simp) (by simp) (by simp) (by simp)
  have tested {t : State} (ht : Told r t) : Told r (openingTest t) :=
    ht.kept (openingTest_inEvent t) (by simp) (by simp) (by simp) (by simp)
  unfold sample
  dsimp only
  rw [h.out, if_neg (by simp)]
  exact tested (stroked _ (awaitRest_told (sampleSteps_told (readEncoders_told x y h))))

/-! ### The epoch at the start -/

theorem changeEpoch_told (e : Nat) (h : Told r s) : Told r (changeEpoch e s) := by
  have marked : Told r (setAttention .surgeChange (s.setStm { s.stm with epoch := e })) :=
    h.kept ((setStm_inEvent s _).trans (setAttention_inEvent _ _)) (by simp) (by simp) (by simp) (by simp)
  have moved (c : Clu) (odd : Bool) {t : State} (ht : Told r t) :
      Told r (reselect (endClosureRow ((t.setClu c).setOsl { t.osl with surge := odd }))) := by
    refine reselect_told (ht.of_act (by simp) (by simp) ?_ (.refl _))
    simpa [State.serviceNow, State.faultLatched, State.commissioning] using ht.service
  have abandoned {t : State} (ht : Told r t) : Told r (surgeAbandon t) :=
    ht.kept (surgeAbandon_inEvent t) (by simp) (by simp) (by simp) (by simp)
  have tested {t : State} (ht : Told r t) : Told r (endClosureRow (testClaim t)) :=
    ht.kept ((testClaim_inEvent t).trans (endClosureRow_inEvent _)) (by simp) (by simp) (by simp) (by simp)
  unfold changeEpoch
  dsimp only
  split
  · exact h
  · split
    · exact marked
    · split
      · exact moved _ _ marked
      · split
        · exact abandoned (moved _ _ marked)
        · exact tested (moved _ _ marked)

theorem startStage_told (h : Told r s) : Told r (startStage s) := by
  have timed : Told r (s.setStm { s.stm with settle := some s.peerTimeout }) :=
    h.kept (setStm_inEvent s _) rfl rfl rfl rfl
  have raised {t : State} (ht : Told r t) : Told r (raiseEpoch t) := by
    unfold raiseEpoch
    split
    · exact ht
    · exact (changeEpoch_told _ ht).of_act (by simp) (by simp)
        (by simpa [State.serviceNow, State.faultLatched, State.commissioning] using
          (changeEpoch_told _ ht).service) (.refl _)
  unfold startStage
  dsimp only
  split
  · exact raised timed
  · exact timed

end

end Sys2Proof.BayLine

namespace Sys2Proof.BayLine

open Sys2Proof Sys2Proof.Machine

/-! ## LIF and CLU of a start -/

/-- LIF and CLU while the station starts: a SURGE queued at most, with a STATUS-A perhaps due, and the claim
as the reset left it (R18, R64). -/
structure StartLine (surge : Option Nat) (s : State) : Prop where
  lif : LifKept { lifReset with surgeSlot := surge } s.lif
  claimSlot : s.lif.claimSlot = none
  clu : ∃ x y, s.clu = { cluReset with lastTest := x, surgeClosure := y }

section
variable {surge : Option Nat} {s t : State}

/-- In the listen period no claim is made (R41). -/
theorem StartLine.inEvent (h : StartLine surge s) (k : InEvent s t) (hl : s.ptb.listen.isSome = true) :
    StartLine surge t := by
  obtain ⟨lif, claimSlot, x, y, clu⟩ := h
  obtain ⟨slot, x', y', clu'⟩ := k.still hl (by rw [clu]; rfl)
  exact ⟨lif.trans k.lif, slot.trans claimSlot, x', y', by rw [clu', clu]⟩

theorem StartLine.of_clu (h : StartLine surge s) (lif : LifKept s.lif t.lif)
    (claimSlot : t.lif.claimSlot = s.lif.claimSlot) (clu : t.clu = s.clu) : StartLine surge t :=
  ⟨h.lif.trans lif, claimSlot.trans h.claimSlot, clu ▸ h.clu⟩

theorem evalService_line (h : StartLine surge s) : StartLine surge (evalService s) := by
  refine h.of_clu (evalService_inEvent s).lif ?_ (by simp)
  unfold evalService
  split
  · rfl
  · exact dueStatusA_claimSlot _

theorem enterFaultStop_claimSlot (s : State) : (enterFaultStop s).lif.claimSlot = s.lif.claimSlot := by
  unfold enterFaultStop setMotion statusOnLeavingRest
  split
  · exact dueStatusA_claimSlot _
  · rfl

theorem abandonClaim_of_still (h : s.clu.state = .still) : abandonClaim s = s := by
  simp [abandonClaim, h]

/-- HOLD and SUPPLY_LOW stop the gate; a STILL claim stays as it is (R55, R176). -/
theorem stopForCondition_line (h : StartLine surge s) : StartLine surge (stopForCondition s) := by
  obtain ⟨x, y, clu⟩ := h.clu
  have still : (enterFaultStop s).clu.state = .still := by simp [clu, cluReset]
  unfold stopForCondition
  split
  · exact h
  · rw [abandonClaim_of_still still]
    exact h.of_clu (enterFaultStop_inEvent s).lif (enterFaultStop_claimSlot s) (by simp)

theorem startConditions_line (h : StartLine surge s) : StartLine surge (startConditions s) := by
  have held {t : State} (ht : StartLine surge t) : StartLine surge (takeHold t) :=
    evalService_line (stopForCondition_line (ht.of_clu (.refl _) rfl rfl))
  have low {t : State} (ht : StartLine surge t) : StartLine surge (takeSupplyLow t) :=
    stopForCondition_line (ht.of_clu (.refl _) rfl rfl)
  have holding : StartLine surge (heldAtStart s) := by
    unfold heldAtStart
    split
    · exact held h
    · exact h
  rw [startConditions_eq]
  split
  · exact holding
  · exact low holding

theorem listenStart_line (h : StartLine surge s) : StartLine surge (listenStart s) :=
  evalService_line (h.of_clu (t := s.setPtb _) (.refl _) rfl rfl)

/-- An active SURGE_IN raises the epoch of the start from 0 to 1 and queues it (R115). -/
theorem startStage_eq (hout : s.cfs.out = false) (hepoch : s.stm.epoch = 0) : startStage s =
    if s.pins.surgeIn then queueSurge 1 (changeEpoch 1 (s.setStm { s.stm with settle := some s.peerTimeout }))
    else s.setStm { s.stm with settle := some s.peerTimeout } := by
  simp [startStage, raiseEpoch, State.epochOdd, hout, hepoch]

theorem startStage_line (h : StartLine none s) (hl : s.ptb.listen.isSome = true) (hout : s.cfs.out = false)
    (hepoch : s.stm.epoch = 0) : StartLine (if s.pins.surgeIn then some 1 else none) (startStage s) := by
  have timed := setStm_inEvent s { s.stm with settle := some s.peerTimeout }
  have accepts {t : State} (ht : StartLine none t) (hcfs : t.cfs = s.cfs) : t.lineAccepts = true := by
    obtain ⟨⟨⟨_, _, _, lif⟩, -⟩, -, -⟩ := ht
    simp [State.lineAccepts, hcfs, hout, lif, lifReset]
  have queued {t : State} (ht : StartLine none t) (ha : t.lineAccepts = true) :
      StartLine (some 1) (queueSurge 1 t) := by
    obtain ⟨⟨⟨c, b, a, lif⟩, attempt⟩, claimSlot, clu⟩ := ht
    have slots : (queueSurge 1 t).lif =
        { t.lif with surgeSlot := some 1, attempt := touch .surge t.lif.attempt } := by
      simp [queueSurge, ha]
    refine ⟨⟨⟨c, b, touch .surge a, by rw [slots, lif]⟩, fun _ => ?_⟩, ?_, clu⟩
    · rw [slots]
      exact touch_none _ (attempt rfl)
    · rw [slots]
      exact claimSlot
  have changed := h.inEvent (timed.trans (changeEpoch_inEvent 1 _)) hl
  rw [startStage_eq hout hepoch]
  split
  · exact queued changed (accepts changed (by simp))
  · exact h.inEvent timed hl

theorem startStage_stm (hout : s.cfs.out = false) (hstm : s.stm = stmReset) : (startStage s).stm =
    { stmReset with settle := some s.peerTimeout, epoch := if s.pins.surgeIn then 1 else 0 } := by
  rw [startStage_eq hout (by rw [hstm]; rfl)]
  split
  · simp [changeEpoch_stm, hstm]
  · simp [hstm, stmReset]

theorem startStage_act (hout : s.cfs.out = false) (hepoch : s.stm.epoch = 0) :
    ActKept s.act (startStage s).act := by
  rw [startStage_eq hout hepoch]
  split
  · exact (changeEpoch_inEvent 1 (s.setStm { s.stm with settle := some s.peerTimeout })).act
  · exact .refl _

/-- What the start leaves of LIF: both statuses due, both timers at 0, the SURGE of an
active SURGE_IN (R18). -/
theorem startStatuses_line (h : StartLine surge s) (hout : s.cfs.out = false) :
    (startStatuses s).lif = { lifReset with
      statusASlot := true, statusBSlot := true, sinceStatusA := some 0, sinceStatusB := some 0,
      surgeSlot := surge } := by
  obtain ⟨⟨⟨c, b, a, lif⟩, ha⟩, claimSlot, -⟩ := h
  have noClaim : c = none := by simpa [lif] using claimSlot
  have noAttempt : a = none := by simpa [lif] using ha rfl
  have accepts : s.lineAccepts = true := by simp [State.lineAccepts, hout, lif, lifReset]
  rw [startStatuses_eq accepts]
  simp [lif, noClaim, noAttempt, lifReset, touch]

end

/-! ## A start whose check passed -/

/-- A mask that masks every cause releases ATTN (R208). -/
theorem attnOf_masked (c : BitVec 10) : attnOf c 0x3FF = false := by
  simp [attnOf]

section
variable (k : ResetKind) (l r : EncoderRead) (s : State)

/-- The station as its listen period starts, after a reset of kind `k` (R26). -/
def listeningAfter : State := listenStart (startConditions (blocksReset k s))

/-- The station with the stage part started and the first servo sample taken (R121, R131). -/
def sampledAfter : State := sample l r (startStage (listeningAfter k s))

theorem startPassed_eq : startPassed l r (blocksReset k s) = startStatuses (sampledAfter k l r s) := rfl

theorem listeningAfter_ptb : (listeningAfter k s).ptb =
    { entries := (blocksReset k s).ptb.entries
      listen := some (listeningAfter k s).peerTimeout } := by
  have timeout : (listeningAfter k s).peerTimeout = (startConditions (blocksReset k s)).peerTimeout := by
    simp [State.peerTimeout, listeningAfter]
  rw [timeout, listeningAfter, listenStart_ptb]
  simp [blocksReset_ptb, entriesReset, entryReset]

theorem listeningAfter_stm : (listeningAfter k s).stm = stmReset := by simp [listeningAfter]

theorem listeningAfter_fmn : (listeningAfter k s).fmn = { fmnReset (recordAfter k s.fmn.record) with
    hold := s.pins.holdIn, supplyLow := !s.pins.supplyGood } := by
  simp [listeningAfter, startConditions_fmn, fmnReset]

theorem listeningAfter_pins : (listeningAfter k s).pins = s.pins := by simp [listeningAfter]

theorem sampledAfter_ptb : (sampledAfter k l r s).ptb = (listeningAfter k s).ptb := by simp [sampledAfter]

variable (out : (blocksReset k s).cfs.out = false)
include out

theorem listeningAfter_out : (listeningAfter k s).cfs.out = false := by simpa [listeningAfter] using out

theorem sampledAfter_line :
    StartLine (if s.pins.surgeIn then some 1 else none) (sampledAfter k l r s) := by
  have line : StartLine none (listeningAfter k s) :=
    listenStart_line (startConditions_line ⟨.refl _, rfl, _, _, rfl⟩)
  have listening : (listeningAfter k s).ptb.listen.isSome = true := by rw [listeningAfter_ptb]; rfl
  have staged := startStage_line line listening (listeningAfter_out k s out) (by rw [listeningAfter_stm]; rfl)
  rw [← listeningAfter_pins k]
  exact staged.inEvent (sample_inEvent l r _) (by simpa using listening)

theorem sampledAfter_stm : (sampledAfter k l r s).stm = { stmReset with
    settle := some (listeningAfter k s).peerTimeout, epoch := if s.pins.surgeIn then 1 else 0 } := by
  have sampled : (sampledAfter k l r s).stm = (startStage (listeningAfter k s)).stm := by simp [sampledAfter]
  rw [sampled, startStage_stm (listeningAfter_out k s out) (listeningAfter_stm k s), listeningAfter_pins]

theorem sampledAfter_told : Told (recordAfter k s.fmn.record) (sampledAfter k l r s) := by
  refine sample_told l r (startStage_told ⟨listeningAfter_out k s out, ?_, fun _ => ?_, fun h => ?_⟩)
  · simp [listeningAfter, listenStart]
  · rw [listeningAfter_fmn]
    exact ⟨rfl, rfl⟩
  · rw [listeningAfter_fmn] at h
    exact absurd rfl h

theorem sampledAfter_act : ActKept (actAfter k s.act) (sampledAfter k l r s).act := by
  have act : (listeningAfter k s).act = actAfter k s.act := by simp [listeningAfter]
  rw [← act]
  exact (startStage_act (listeningAfter_out k s out) (by rw [listeningAfter_stm]; rfl)).trans
    (sample_inEvent l r _).act

end

/-! ## The statement -/

/-- ACT after a power-on or pin reset: nothing is selected, so nothing counts (R208). -/
theorem act_of_ne {k : ResetKind} {a b : Act} (hk : k ≠ .restart) (h : ActKept (actAfter k a) b) :
    b.counters = actReset.counters ∧ b.freezeOnFull = false ∧ b.frozen = false := by
  rw [actAfter_of_ne hk] at h
  have none : unselected actReset.counters := (unselected_iff _).2 ⟨rfl, rfl, rfl, rfl⟩
  exact ⟨h.counters_of_unselected none, h.freezeOnFull, h.unselected none⟩

/-- ACT after a RESTART: every counter as selected, and a frozen one as it was (R208). -/
theorem act_of_restart {a b : Act} (h : ActKept (actAfter .restart a) b) :
    b.freezeOnFull = a.freezeOnFull ∧ (a.frozen = true → b.frozen = true) ∧
      ∀ n c, a.counters.get n = some c → ∃ d, b.counters.get n = some d ∧
        d.selected = c.selected ∧ d.threshold = c.threshold ∧ d.invert = c.invert ∧ d.edge = c.edge ∧
        (a.frozen = true → d.value = c.value ∧ d.half = c.half ∧ d.full = c.full) := by
  refine ⟨h.freezeOnFull, h.frozen, fun n c hc => ?_⟩
  have hlast : (actAfter .restart a).counters.get n = some { c with last := false } := by
    rw [actAfter_restart_counters, hc]
    rfl
  obtain ⟨d, hd, selected, threshold, invert, edge, frozen, -⟩ := h.counter hlast
  exact ⟨d, hd, selected, threshold, invert, edge, frozen⟩

/-- Settles O37: the blocks at reset, then the conditions, the listen period, the stage part, the first servo
sample and the two statuses. -/
theorem passedCheckStartsListening : Obligations.PassedCheckStartsListening := by
  intro s l r b c hc hb hpass
  obtain ⟨k, hrun, hk⟩ := exec_reset hc hb
  have cfs : (blocksReset k s).cfs = cfsAfter s.cfs.store s.cfs.writeMark := by
    rw [blocksReset_cfs, cutStore_idle hb]
  have out : (blocksReset k s).cfs.out = false := by simp [cfs, cfsAfter, hpass]
  have line := sampledAfter_line k l r s out
  have told := sampledAfter_told k l r s out
  have act := sampledAfter_act k l r s out
  have timeout : (listeningAfter k s).peerTimeout = Param.peerTimeout s.cfs.store := by
    simp [State.peerTimeout, listeningAfter, cfs, cfsAfter, hpass]
  obtain ⟨x, y, clu⟩ := line.clu
  obtain ⟨left, right⟩ := sample_channels l r (startStage (listeningAfter k s))
  obtain ⟨-, mask, attn⟩ := actAfter_attention k s.act
  have mask' : (sampledAfter k l r s).act.mask = 0x3FF := act.mask.trans mask
  refine ⟨_, hrun, ?_⟩
  rw [reset_of_passed out, startPassed_eq]
  simp only [startStatuses_frame]
  refine ⟨?_, ?_, startStatuses_line line told.out, ?_, ?_, ?_, ?_, ?_, ?_, ?_, ?_, ?_, ?_, ?_, ?_, ?_, ?_,
    ?_, mask', ?_, fun h => ?_, told.latched, fun h => act_of_ne (mt hk.2 h) act, fun h => ?_, ?_, ?_⟩
  · simp [sampledAfter, listeningAfter, cfs, cfsAfter, hpass]
  · rw [sampledAfter_ptb, listeningAfter_ptb, timeout, blocksReset_ptb]
    simp [tableBays, cfs, cfsAfter, hpass]
  · rw [clu]; rfl
  · rw [clu]; rfl
  · rw [clu]; rfl
  · rw [clu]; rfl
  · rw [clu]; rfl
  · rw [clu]; rfl
  · simp [sampledAfter, listeningAfter]
  · rw [sampledAfter_stm k l r s out, timeout]
  · rw [sampledAfter, left]
    simp [listeningAfter, mtcReset]
  · rw [sampledAfter, right]
    simp [listeningAfter, mtcReset]
  · exact told.service.trans (serviceNow_congr (by simp) (by simp) (by simp) (by simp)).symm
  · simp [sampledAfter, listeningAfter_fmn]
  · simp [sampledAfter, listeningAfter_fmn]
  · simp [sampledAfter, listeningAfter_fmn, fmnReset]
  · simp [sampledAfter, listeningAfter_fmn, fmnReset]
  · rw [act.attn (by rw [attn, mask, attnOf_masked]), mask', attnOf_masked]
  · obtain ⟨line, record⟩ := told.unlatched h
    refine ⟨line, fun hc => ?_, fun hc => ?_⟩
    · rw [record, recordAfter_of_ne (mt hk.2 hc)]
    · rw [record, hk.1 hc]
      rfl
  · exact act_of_restart (hk.1 h ▸ act)
  · simp [sampledAfter, listeningAfter, lptReset]
  · simp [sampledAfter, listeningAfter]

end Sys2Proof.BayLine


namespace Sys2Proof.PeerTable

open Sys2Proof Sys2Proof.Machine Sys2Proof.BayLine

/-! ## One millisecond (log 3) -/

theorem tick_bay (e : Entry) : e.tick.bay = e.bay := by
  unfold Entry.tick
  split <;> rfl

/-- Every entry is read back one millisecond older (R21). -/
theorem tick_entry (s : State) (b : Nat) : (tick s).entry b = (s.entry b).map Entry.tick :=
  entry_map (s := s) tick_bay (tick s).ptb rfl b

/-- A timer that ends in this millisecond puts its command into the queue. -/
theorem mem_dueIf {p : Bool} (i : Instr) (h : p = true) : i ∈ dueIf p i := by
  simp [dueIf, h]

/-- RUN_ON joins the queue in its last millisecond (R149). -/
theorem runOn_mem_expiries {s : State} (h : s.mtc.runOn = some 1) : Instr.runOn ∈ s.expiries := by
  have due : Instr.runOn ∈ dueIf (fires s.mtc.runOn) .runOn := mem_dueIf _ (by simp [fires, h])
  simp [State.expiries, due]

/-- Settles O3: on an empty queue the step is the passing of one millisecond. -/
theorem idleStepLetsOneMillisecondPass : Obligations.IdleStepLetsOneMillisecondPass := by
  intro s hq
  refine ⟨tick s, by simp [step, hq], fun b e he => ?_, rfl, rfl, fun hrun => ?_, rfl, rfl, rfl, rfl,
    rfl, rfl⟩
  · rw [tick_entry, he, Option.map_some, Entry.tick]
    split <;> rfl
  · exact List.mem_append_right _ (runOn_mem_expiries hrun)

end Sys2Proof.PeerTable

namespace Sys2Proof.PeerTable

open Sys2Proof Sys2Proof.Machine Sys2Proof.BayLine

/-! ## Reading the table -/

section
variable {s t : State} {b k : Nat} {e : Entry}

/-- An entry rests on the list of entries alone. -/
theorem entry_of_entries (h : t.ptb.entries = s.ptb.entries) (k : Nat) : t.entry k = s.entry k := by
  rw [State.entry, State.entry, h]

/-- A table in which the entry of b alone is changed: what is read back at b and elsewhere. -/
theorem entry_of_updateEntry {f : Entry → Entry} (hf : ∀ e, (f e).bay = e.bay)
    (h : t.ptb.entries = (s.updateEntry b f).ptb.entries) (he : s.entry b = some e) :
    t.entry b = some (f e) ∧ ∀ k, k ≠ b → t.entry k = s.entry k := by
  refine ⟨?_, fun k hk => ?_⟩
  · rw [entry_of_entries h, entry_updateEntry_own hf he]
  · rw [entry_of_entries h, entry_updateEntry s b k f hf, if_neg hk]

/-- Changes of the same bay's entry, in different states with the same table, leave the same table. -/
theorem updateEntry_congr (h : t.ptb = s.ptb) (b : Nat) (f : Entry → Entry) :
    (t.updateEntry b f).ptb = (s.updateEntry b f).ptb := by
  simp [State.updateEntry, h]

/-! ## Attention causes -/

/-- Causes that are set stay set at every report (R206). -/
theorem causes_kept {a b : Act} {m : BitVec 10} (h : ActKept a b) (hm : a.causes &&& m = m) :
    b.causes &&& m = m := by
  rw [← h.causes, BitVec.and_or_distrib_right, hm]
  ext i
  simp only [BitVec.getElem_or, BitVec.getElem_and]
  grind

/-- An attention cause that becomes set is set (R206). -/
theorem setAttention_sets (c : AttnCause) (s : State) :
    (setAttention c s).act.causes &&& c.mask = c.mask := by
  rw [setAttention_causes]
  ext i
  simp only [BitVec.getElem_or, BitVec.getElem_and]
  grind

/-! ## The lapse of a peer (R21) -/

/-- An age below PEER_TIMEOUT: the expiry does not happen. -/
theorem execPeerLapse_of_young (he : s.entry b = some e) (h : e.age < s.peerTimeout) :
    execPeerLapse b s = .next s := by
  have young : s.ageReached b = false := by simp [State.ageReached, he, h]
  simp [execPeerLapse, young]

/-- The entry of b lapsed, with the count and the attention cause. -/
def lapsed (b : Nat) (s : State) : State :=
  setAttention .peerLapse (countEvent .peerLapse
    (s.updateEntry b fun e => { e with presence := .lapsed }))

theorem lapsed_ptb (b : Nat) (s : State) :
    (lapsed b s).ptb = (s.updateEntry b fun e => { e with presence := .lapsed }).ptb := by
  simp [lapsed]

/-- A LIVE entry of another bay that is old enough lapses, and SHU and STM are told. -/
theorem execPeerLapse_of_due (he : s.entry b = some e) (hlive : e.presence = .live)
    (hother : s.cfs.out = true ∨ b ≠ s.own) (hage : s.peerTimeout ≤ e.age) :
    execPeerLapse b s = .next (chooseSources (shareReport (lapsed b s))) := by
  have may : s.mayLapse b = true := by simpa [State.mayLapse, he, hlive] using hother
  have reached : s.ageReached b = true := by simpa [State.ageReached, he] using hage
  simp only [execPeerLapse, may, reached, Bool.and_self, if_true]
  rfl

/-- PEER_LAPSE on such an entry: its presence, the report, and what stays (R21). -/
theorem peerLapse_lapses (he : s.entry b = some e) (hlive : e.presence = .live)
    (hother : s.cfs.out = true ∨ b ≠ s.own) (hage : s.peerTimeout ≤ e.age) :
    ∃ t, exec (.peerLapse b) s = .next t ∧
      t.entry b = some { e with presence := .lapsed } ∧
      (∀ k, k ≠ b → t.entry k = s.entry k) ∧ t.act.causes &&& 0x010 = 0x010 ∧
      t.ptb.listen = s.ptb.listen ∧ t.cfs = s.cfs ∧ t.lpt = s.lpt ∧ t.pins = s.pins := by
  refine ⟨_, execPeerLapse_of_due he hlive hother hage, ?_⟩
  obtain ⟨own, others⟩ := entry_of_updateEntry (t := chooseSources (shareReport (lapsed b s)))
    (f := fun e => { e with presence := .lapsed }) (fun _ => rfl) (by simp [lapsed_ptb]) he
  refine ⟨own, others, ?_, ?_⟩
  · have told : InEvent (lapsed b s) (chooseSources (shareReport (lapsed b s))) :=
      (shareReport_inEvent _).trans (chooseSources_inEvent _)
    exact causes_kept told.act (setAttention_sets .peerLapse _)
  · simp [lapsed]

/-! ## The end of the listen period (R27, R28) -/

/-- The listen period ends, and no entry changes, its mark included (log 47). -/
theorem listenEnd_ptb (s : State) : (listenEnd s).ptb = { s.ptb with listen := none } := by
  simp [listenEnd]

/-- After the listen period the service state is the one of R95. -/
theorem listenEnd_service (s : State) : (listenEnd s).osl.service = (listenEnd s).serviceNow := by
  have now : (listenEnd s).serviceNow = (s.setPtb { s.ptb with listen := none }).serviceNow :=
    serviceNow_congr (by simp) (by simp) (by simp [listenEnd_ptb]) (by simp [listenEnd])
  rw [now]
  simp [listenEnd]

/-- While a neighbour is UNKNOWN no claim is made (R28, R41). -/
theorem testClaim_state_of_unknown (h : s.anyUnknown = true) :
    (testClaim s).clu.state = s.clu.state := by
  have blocked : s.claimConditions = false := by simp [State.claimConditions, h]
  unfold testClaim
  split
  · rfl
  · simp [blocked]

/-- A neighbour without a bound is UNKNOWN once no listen period runs (R28). -/
theorem anyUnknown_of_unbounded (hl : s.ptb.listen = none) (h : ∃ e, e ∈ s.neighbours ∧ e.bound = none) :
    s.anyUnknown = true := by
  obtain ⟨e, he, hb⟩ := h
  simp only [State.anyUnknown, hl, Option.isNone_none, Bool.true_and, List.any_eq_true]
  exact ⟨e, he, by simp [hb]⟩

/-- Who is a neighbour rests on the configuration (R37). -/
theorem isNeighbour_congr (h : t.cfs = s.cfs) (b : Nat) : t.isNeighbour b = s.isNeighbour b := by
  unfold State.isNeighbour State.own State.firstBay State.lastBay
  rw [h]

/-- The neighbour entries rest on the configuration and the entries. -/
theorem neighbours_congr (hcfs : t.cfs = s.cfs) (h : t.ptb.entries = s.ptb.entries) :
    t.neighbours = s.neighbours := by
  simp only [State.neighbours, isNeighbour_congr hcfs, h]

/-- The end of the listen period with a neighbour UNKNOWN: it is reported, and CLU makes no claim. -/
theorem testClaim_reportUnknown (h : s.anyUnknown = true) :
    (testClaim (reportUnknown s)).act.causes &&& 0x020 = 0x020 ∧
      (testClaim (reportUnknown s)).clu.state = s.clu.state := by
  have reported : reportUnknown s = setAttention .neighbourUnknown s := by simp [reportUnknown, h]
  have unknown : (setAttention .neighbourUnknown s).anyUnknown = true := h
  rw [reported]
  exact ⟨causes_kept (testClaim_inEvent _).act (setAttention_sets .neighbourUnknown s),
    testClaim_state_of_unknown unknown⟩

/-- A neighbour without a bound at the end of the listen period (R27, R28). -/
theorem listenEnd_of_unbounded (h : ∃ e, e ∈ s.neighbours ∧ e.bound = none) :
    (listenEnd s).act.causes &&& 0x020 = 0x020 ∧ (listenEnd s).clu.state = s.clu.state := by
  have same : (evalService (s.setPtb { s.ptb with listen := none })).neighbours = s.neighbours :=
    neighbours_congr (by simp) (by simp)
  obtain ⟨reported, state⟩ := testClaim_reportUnknown
    (s := evalService (s.setPtb { s.ptb with listen := none }))
    (anyUnknown_of_unbounded (by simp) (by rwa [same]))
  exact ⟨reported, state.trans (by simp)⟩

end

/-- Settles O21: the two clauses of the lapse, then the end of the listen period. -/
theorem peersLapseAndTheListenPeriodEnds : Obligations.PeersLapseAndTheListenPeriodEnds := by
  intro s
  refine ⟨fun b e he hage => execPeerLapse_of_young he hage,
    fun b e he hlive hother hage => peerLapse_lapses he hlive hother hage, fun hl => ?_⟩
  refine ⟨listenEnd s, by simp [exec, execListenTimer, hl], by simp [listenEnd_ptb],
    by simp [listenEnd_ptb], listenEnd_service s, fun h => listenEnd_of_unbounded h, ?_⟩
  simp

end Sys2Proof.PeerTable


namespace Sys2Proof.PeerTable

open Sys2Proof Sys2Proof.Machine Sys2Proof.BayLine

section
variable {s t u : State} {b k : Nat} {e : Entry}

/-! ## A frame heard (R4, R20) -/

/-- The heard report writes the entry of its bay and no other part of the table (R20). -/
theorem heard_ptb (he : s.entry b = some e) :
    (heard b s).ptb = (s.updateEntry b Entry.heard).ptb := by
  simp only [heard, he]
  split
  · rfl
  · split <;> simp

/-- In OUT the heard report tells no other block (R37). -/
theorem heard_of_out (hout : s.cfs.out = true) (he : s.entry b = some e) :
    heard b s = s.updateEntry b Entry.heard := by
  simp [heard, he, hout]

/-- The state in which the owner of a frame of bay b takes it: LIF has counted it, PTB has heard b. -/
def received (b : Nat) (s : State) : State := heard b (countEvent .frameReceived s)

theorem received_ptb (he : s.entry b = some e) :
    (received b s).ptb = (s.updateEntry b Entry.heard).ptb := by
  have same : (countEvent .frameReceived s).ptb = s.ptb := by simp
  have here : (countEvent .frameReceived s).entry b = some e := by rw [entry_congr same, he]
  rw [received, heard_ptb here, updateEntry_congr same]

theorem received_entry (he : s.entry b = some e) :
    (received b s).entry b = some e.heard ∧ ∀ k, k ≠ b → (received b s).entry k = s.entry k :=
  entry_of_updateEntry (fun _ => rfl) (congrArg Ptb.entries (received_ptb he)) he

/-- A valid frame goes to its owner once its bay has been heard (R3, R4). -/
theorem receiveFrame_of_valid {f : RawFrame} {c : Frame} (hv : s.frameValid f = true)
    (hp : parseFrame s.firstBay s.lastBay f = some c) :
    receiveFrame f s = deliver (rawSender f) c (received (rawSender f) s) := by
  simp only [State.frameValid, Bool.and_eq_true, Bool.not_eq_true'] at hv
  obtain ⟨⟨hok, hdup⟩, -⟩ := hv
  simp [receiveFrame, hok, hdup, hp, received]

/-- A frame of another bay whose fields lie within R2, as it comes from the line. -/
theorem receiveFrame_encodeFrame {f : Frame} (hother : s.cfs.out = true ∨ s.own ≠ b)
    (hfirst : 1 ≤ s.firstBay) (hlast : s.lastBay ≤ 32) (hlo : s.firstBay ≤ b) (hhi : b ≤ s.lastBay)
    (hf : f.inRange s.firstBay s.lastBay = true) :
    receiveFrame (encodeFrame b f) s = deliver b f (received b s) := by
  obtain ⟨hok, sender, parsed, -⟩ :=
    framesDecodeFromTheirEncoding s.firstBay s.lastBay b f hfirst hlast hlo hhi hf
  have other : s.isDuplicate (encodeFrame b f) = false := by
    rcases hother with hout | hne
    · simp [State.isDuplicate, hout]
    · simp [State.isDuplicate, sender, Ne.symm hne]
  have valid : s.frameValid (encodeFrame b f) = true := by simp [State.frameValid, hok, other, parsed]
  rw [receiveFrame_of_valid valid parsed, sender]

/-- A status row of the table receives the frame that its bytes spell (R1, R4). -/
theorem exec_statusAFrame (bay : BitVec 6) (c : StatusA) (s : State) :
    exec (.statusAFrame bay (Frame.statusA c).payload) s =
      .next (receiveFrame (encodeFrame bay.toNat (.statusA c)) s) := rfl

theorem exec_statusBFrame (bay : BitVec 6) (c : StatusB) (s : State) :
    exec (.statusBFrame bay (Frame.statusB c).payload) s =
      .next (receiveFrame (encodeFrame bay.toNat (.statusB c)) s) := rfl

/-! ## What the owners write into the table -/

/-- An operation that leaves the table leaves it whether it is done or not. -/
theorem ptb_ite (p : Prop) [Decidable p] (h : t.ptb = s.ptb) : (if p then t else s).ptb = s.ptb := by
  split
  · exact h
  · rfl

/-- What a STATUS-A makes of its sender's entry (R23, R29, R35). -/
def statusAEntry (neighbour listening : Bool) (c : StatusA) (e : Entry) : Entry :=
  if neighbour then (e.writeStatusA c).writeNeighbourA listening c else e.writeStatusA c

/-- A STATUS-A leaves the bay number and what the heard report has written. -/
theorem statusAEntry_kept (neighbour listening : Bool) (c : StatusA) (e : Entry) :
    (statusAEntry neighbour listening c e).bay = e.bay ∧
    (statusAEntry neighbour listening c e).presence = e.presence ∧
    (statusAEntry neighbour listening c e).age = e.age ∧
    (statusAEntry neighbour listening c e).saved = e.saved := by
  unfold statusAEntry
  split <;> exact ⟨rfl, rfl, rfl, rfl⟩

/-- A STATUS-A writes the entry of its sender and no other; at most it ends the listen period (R23, R27). -/
theorem takeStatusA_entries (c : StatusA) (he : s.entry b = some e) :
    (takeStatusA b c s).ptb.entries =
      (s.updateEntry b (statusAEntry (s.isNeighbour b) s.ptb.listen.isSome c)).ptb.entries := by
  have ended (p : Prop) [Decidable p] (x : State) :
      (if p then listenEnd x else x).ptb.entries = x.ptb.entries := by
    split
    · rw [listenEnd_ptb]
    · rfl
  simp only [takeStatusA, he]
  rw [ended, ptb_ite _ (by simp), ptb_ite _ (by simp), ptb_ite _ (by simp)]
  rfl

/-- A STATUS-B writes the entry of its sender and no other (R24). -/
theorem takeStatusB_ptb (c : StatusB) (he : s.entry b = some e) :
    (takeStatusB b c s).ptb = (s.updateEntry b (Entry.writeStatusB c)).ptb := by
  simp only [takeStatusB, he]
  split
  · rfl
  · rw [ptb_ite _ (by simp), ptb_ite _ (by simp)]
    simp

/-! ## What every owner leaves of the heard report (R20) -/

/-- The same presence, age and declaration in bay b's entry. -/
def HeardKept (b : Nat) (s t : State) : Prop :=
  ∀ e, s.entry b = some e → ∃ e', t.entry b = some e' ∧ e'.presence = e.presence ∧ e'.age = e.age ∧
    e'.saved = e.saved

theorem HeardKept.of_ptb (h : t.ptb = s.ptb) : HeardKept b s t :=
  fun e he => ⟨e, by rw [entry_congr h, he], rfl, rfl, rfl⟩

theorem HeardKept.trans (h : HeardKept b s t) (k : HeardKept b t u) : HeardKept b s u := by
  intro e he
  obtain ⟨e1, h1, hp, ha, hs⟩ := h e he
  obtain ⟨e2, h2, kp, ka, ks⟩ := k e1 h1
  exact ⟨e2, h2, kp.trans hp, ka.trans ha, ks.trans hs⟩

/-- A change of the entry that writes none of the three, in a state with the table so changed. -/
theorem HeardKept.of_updateEntry {f : Entry → Entry}
    (hf : ∀ e, (f e).bay = e.bay ∧ (f e).presence = e.presence ∧ (f e).age = e.age ∧
      (f e).saved = e.saved)
    (h : t.ptb.entries = (s.updateEntry b f).ptb.entries) : HeardKept b s t := by
  intro e he
  obtain ⟨-, kept⟩ := hf e
  obtain ⟨here, -⟩ := entry_of_updateEntry (fun e => (hf e).1) h he
  exact ⟨f e, here, kept⟩

theorem takeStatusA_heardKept (c : StatusA) (he : s.entry b = some e) :
    HeardKept b s (takeStatusA b c s) :=
  .of_updateEntry (statusAEntry_kept _ _ c) (takeStatusA_entries c he)

theorem takeStatusB_heardKept (c : StatusB) (he : s.entry b = some e) :
    HeardKept b s (takeStatusB b c s) :=
  .of_updateEntry (f := Entry.writeStatusB c) (fun _ => ⟨rfl, rfl, rfl, rfl⟩)
    (congrArg Ptb.entries (takeStatusB_ptb c he))

/-- A bound written is the bound alone (R29). -/
theorem writeBound_heardKept (x : Span) (s : State) : HeardKept b s (writeBound b x s) := by
  refine .of_updateEntry (f := fun e => { e with bound := some x }) (fun _ => ⟨rfl, rfl, rfl, rfl⟩) ?_
  unfold writeBound
  dsimp only
  split
  · rfl
  · simp

/-- A judgment writes the last-judged record, and with CONSENT the bound (R61). -/
theorem judgeClaim_heardKept (c : ClaimContent) (s : State) : HeardKept b s (judgeClaim b c s) := by
  have judged (v : Verdict) : HeardKept b s
      (s.updateEntry b fun e => { e with judged := some { number := c.number, verdict := v } }) :=
    .of_updateEntry (f := fun e => { e with judged := some { number := c.number, verdict := v } })
      (fun _ => ⟨rfl, rfl, rfl, rfl⟩) rfl
  unfold judgeClaim
  dsimp only
  refine .trans ?_ (.of_ptb (queueVerdict_frame _ _).1)
  split
  · exact (judged _).trans (writeBound_heardKept _ _)
  · exact judged _

theorem takeClaim_heardKept (c : ClaimContent) (s : State) : HeardKept b s (takeClaim b c s) := by
  unfold takeClaim
  split
  · exact .of_ptb rfl
  · split
    · split
      · exact .of_ptb (by simp)
      · exact judgeClaim_heardKept c s
    · exact judgeClaim_heardKept c s

/-- Whatever its kind, a frame leaves its sender as the heard report has it. -/
theorem deliver_heardKept (f : Frame) (he : s.entry b = some e) : HeardKept b s (deliver b f s) := by
  cases f with
  | surge e => exact .of_ptb (surgeFromPeer_frame e s).1
  | verdict c => exact .of_ptb (takeVerdict_frame b c s).1
  | claim c => exact takeClaim_heardKept c s
  | order c => exact .of_ptb (takeOrder_frame b c s).1
  | statusA c => exact takeStatusA_heardKept c he
  | statusB c => exact takeStatusB_heardKept c he

end

/-- Settles O7: the heard report writes the three fields, and the frame's owner leaves them. -/
theorem validFramesMakeTheirSenderLive : Obligations.ValidFramesMakeTheirSenderLive := by
  intro f s e hv he
  obtain ⟨⟨hok, -⟩, hparsed⟩ : (kindAndBayOk s.firstBay s.lastBay f = true ∧ _) ∧
      (parseFrame s.firstBay s.lastBay f).isSome = true := by
    simpa only [State.frameValid, Bool.and_eq_true] using hv
  obtain ⟨h1, h6, -⟩ := of_decide_eq_true hok
  obtain ⟨c, hc⟩ := Option.isSome_iff_exists.1 hparsed
  obtain ⟨here, -⟩ := received_entry he
  obtain ⟨e', he', hp, ha, hs⟩ := deliver_heardKept c here e.heard here
  refine ⟨_, e', exec_instrOfFrame s h1 h6, ?_, hp, ha, hs, ?_⟩
  · rw [receiveFrame_of_valid hv hc, he']
  · simp

/-! ## STATUS-A of a neighbour (R23) -/

/-- Settles O8: the frame is received, and the table is read back entry by entry. -/
theorem statusAWritesTheNeighbourEntry : Obligations.StatusAWritesTheNeighbourEntry := by
  intro s bay c e hnb hown hfirst hlast hc he
  have range : s.firstBay ≤ bay.toNat ∧ bay.toNat ≤ s.lastBay := by
    simp only [State.isNeighbour, Bool.and_eq_true, decide_eq_true_eq] at hnb
    exact hnb.2
  have run : exec (.statusAFrame bay (Frame.statusA c).payload) s =
      .next (takeStatusA bay.toNat c (received bay.toNat s)) := by
    rw [exec_statusAFrame, receiveFrame_encodeFrame (.inr hown) hfirst hlast range.1 range.2 hc]
    rfl
  obtain ⟨here, elsewhere⟩ := received_entry he
  have neighbour : (received bay.toNat s).isNeighbour bay.toNat = true := by
    rw [isNeighbour_congr (s := s) (by simp [received]), hnb]
  have listening : (received bay.toNat s).ptb.listen = s.ptb.listen := by simp [received]
  have table := takeStatusA_entries c here
  rw [neighbour, listening] at table
  obtain ⟨own, others⟩ := entry_of_updateEntry (fun e => (statusAEntry_kept _ _ c e).1) table here
  exact ⟨_, statusAEntry true s.ptb.listen.isSome c e.heard, run, own, rfl, rfl, rfl, rfl, rfl, rfl, rfl,
    rfl, rfl, rfl, rfl, rfl, rfl, rfl, rfl, rfl, rfl, rfl,
    fun k hk => (others k hk).trans (elsewhere k hk)⟩

end Sys2Proof.PeerTable


namespace Sys2Proof.PeerTable

open Sys2Proof Sys2Proof.Machine Sys2Proof.BayLine

section
variable {s t : State} {b k : Nat} {e : Entry}

/-! ## The epoch of a STATUS-B (R120, R121) -/

/-- With no condition of its own to raise for, the station holds the epoch it adopts (R118). -/
theorem adoptEpoch_stm (n : Nat) (hpin : s.pins.surgeIn = false) (hstage : s.stageCondition = false) :
    (adoptEpoch n s).stm = { s.stm with epoch := n } := by
  by_cases hne : n = s.stm.epoch
  · simp [adoptEpoch, hne]
  · rw [adoptEpoch_of_quiet hpin hstage hne, changeEpoch_stm]

/-- The test of R120 for a settled station, or for a fresh sender. -/
theorem epochFromStatus_stm_of_known {n : Nat} {fresh : Bool} (hpin : s.pins.surgeIn = false)
    (hstage : s.stageCondition = false) (h : s.stm.settled = true ∨ fresh = true) :
    (epochFromStatus n fresh s).stm = { s.stm with
      epoch := if 1 ≤ (n + 16 - s.stm.epoch) % 16 ∧ (n + 16 - s.stm.epoch) % 16 ≤ 7 ∧
        (n % 2 = 1 ∨ fresh = false) then n else s.stm.epoch } := by
  have known : (s.stm.settled || fresh) = true := by simpa using h
  have test : (epochNewer n s.stm.epoch && (n % 2 == 1 || !fresh)) = true ↔
      1 ≤ (n + 16 - s.stm.epoch) % 16 ∧ (n + 16 - s.stm.epoch) % 16 ≤ 7 ∧
        (n % 2 = 1 ∨ fresh = false) := by
    simp [epochNewer, and_assoc]
  simp only [epochFromStatus, known, if_true, test]
  split
  · exact adoptEpoch_stm n hpin hstage
  · rfl

/-- An unsettled station takes the epoch of a sender that is not fresh, and is settled (R121). -/
theorem epochFromStatus_stm_of_unsettled (n : Nat) (hpin : s.pins.surgeIn = false)
    (hstage : s.stageCondition = false) (h : s.stm.settled = false) :
    (epochFromStatus n false s).stm = { s.stm with settled := true, settle := none, epoch := n } := by
  simp only [epochFromStatus, h, Bool.or_self, Bool.false_eq_true, if_false]
  exact adoptEpoch_stm (s := settleNow s) n hpin hstage

/-- What a STATUS-B makes of the epoch and its settling: the sources that follow change neither. -/
theorem takeStatusB_settling (c : StatusB) (hout : s.cfs.out = false) (he : s.entry b = some e) :
    (takeStatusB b c s).stm.settled =
        (epochFromStatus c.epoch e.fresh (s.updateEntry b (Entry.writeStatusB c))).stm.settled ∧
      (takeStatusB b c s).stm.settle =
        (epochFromStatus c.epoch e.fresh (s.updateEntry b (Entry.writeStatusB c))).stm.settle ∧
      (takeStatusB b c s).stm.epoch =
        (epochFromStatus c.epoch e.fresh (s.updateEntry b (Entry.writeStatusB c))).stm.epoch := by
  simp only [takeStatusB, he, hout, Bool.false_eq_true, if_false]
  split <;> split <;> simp

/-- In OUT a STATUS-B tells STM nothing (R37). -/
theorem takeStatusB_stm_of_out (c : StatusB) (hout : s.cfs.out = true) :
    (takeStatusB b c s).stm = s.stm := by
  unfold takeStatusB
  split
  · rfl
  · simp [hout]

theorem received_stm_of_out (hout : s.cfs.out = true) (he : s.entry b = some e) :
    (received b s).stm = s.stm := by
  have here : (countEvent .frameReceived s).entry b = some e := by
    rw [entry_congr (s := s) (by simp), he]
  rw [received, heard_of_out (by simpa using hout) here]
  simp

/-- The stage condition rests on the configuration, the D ring and the surge run (R114). -/
theorem stageCondition_congr (hcfs : t.cfs = s.cfs) (hring : t.stm.ringD = s.stm.ringD)
    (hrun : t.stm.surgeRun = s.stm.surgeRun) : t.stageCondition = s.stageCondition := by
  simp only [State.stageCondition, hcfs, hring, hrun]

/-- The epoch of a settled station, or with a fresh sender, after a STATUS-B (R120). -/
theorem takeStatusB_epoch_of_known (c : StatusB) (hout : s.cfs.out = false)
    (he : s.entry b = some e) (hpin : s.pins.surgeIn = false) (hstage : s.stageCondition = false)
    (h : s.stm.settled = true ∨ e.fresh = true) :
    (takeStatusB b c s).stm.settled = s.stm.settled ∧
      (takeStatusB b c s).stm.epoch = if 1 ≤ (c.epoch + 16 - s.stm.epoch) % 16 ∧
          (c.epoch + 16 - s.stm.epoch) % 16 ≤ 7 ∧ (c.epoch % 2 = 1 ∨ e.fresh = false)
        then c.epoch else s.stm.epoch := by
  obtain ⟨settled, -, epoch⟩ := takeStatusB_settling c hout he
  rw [settled, epoch,
    epochFromStatus_stm_of_known (s := s.updateEntry b (Entry.writeStatusB c)) hpin hstage h]
  exact ⟨rfl, rfl⟩

/-- An unsettled station after a STATUS-B of a sender that is not fresh (R121). -/
theorem takeStatusB_epoch_of_unsettled (c : StatusB) (hout : s.cfs.out = false)
    (he : s.entry b = some e) (hpin : s.pins.surgeIn = false) (hstage : s.stageCondition = false)
    (h : s.stm.settled = false) (hfresh : e.fresh = false) :
    (takeStatusB b c s).stm.settled = true ∧ (takeStatusB b c s).stm.settle = none ∧
      (takeStatusB b c s).stm.epoch = c.epoch := by
  obtain ⟨settled, settle, epoch⟩ := takeStatusB_settling c hout he
  rw [settled, settle, epoch, hfresh, epochFromStatus_stm_of_unsettled
    (s := s.updateEntry b (Entry.writeStatusB c)) c.epoch hpin hstage h]
  exact ⟨rfl, rfl, rfl⟩

end

/-- Settles O9: the frame is received, the table read back, and the epoch handed on as R120 and R121 have
it. -/
theorem statusBWritesTheEntry : Obligations.StatusBWritesTheEntry := by
  intro s bay c e hother hfirst hlast hlo hhi hc he
  obtain ⟨here, elsewhere⟩ := received_entry he
  have run : exec (.statusBFrame bay (Frame.statusB c).payload) s =
      .next (takeStatusB bay.toNat c (received bay.toNat s)) := by
    rw [exec_statusBFrame, receiveFrame_encodeFrame hother hfirst hlast hlo hhi hc]
    rfl
  obtain ⟨own, others⟩ := entry_of_updateEntry (f := Entry.writeStatusB c) (fun _ => rfl)
    (congrArg Ptb.entries (takeStatusB_ptb c here)) here
  refine ⟨_, run, own, fun k hk => (others k hk).trans (elsewhere k hk), fun hout => ?_,
    fun hout hpin hstage => ?_⟩
  · rw [takeStatusB_stm_of_out c (by simpa [received] using hout), received_stm_of_out hout he]
  · have hout' : (received bay.toNat s).cfs.out = false := by simpa [received] using hout
    have hpin' : (received bay.toNat s).pins.surgeIn = false := by simpa [received] using hpin
    have hstage' : (received bay.toNat s).stageCondition = false := by
      rw [stageCondition_congr (s := s) (by simp [received]) (by simp [received])
        (by simp [received]), hstage]
    have settled : (received bay.toNat s).stm.settled = s.stm.settled := by simp [received]
    have epoch : (received bay.toNat s).stm.epoch = s.stm.epoch := by simp [received]
    refine ⟨fun hknown => ?_, fun hunsettled hfresh => ?_⟩
    · rw [← settled, ← epoch]
      exact takeStatusB_epoch_of_known (e := e.heard) c hout' here hpin' hstage' (settled ▸ hknown)
    · exact takeStatusB_epoch_of_unsettled (e := e.heard) c hout' here hpin' hstage'
        (settled ▸ hunsettled) hfresh

end Sys2Proof.PeerTable

namespace Sys2Proof.PeerTable

open Sys2Proof Sys2Proof.Machine Sys2Proof.BayLine

/-! ## Declarations (R31, R32) -/

section
variable {s : State} {b : Byte} {e : Entry}

/-- The answer DONE as RESULT holds it (R187). -/
theorem answerCommand_done_lpt (code : Byte) (s : State) :
    (answerCommand code .done false s).lpt =
      { s.lpt with resultCode := code, clamped := false, answer := .done } := by
  simp [answerCommand]

/-- An owner that refuses leaves the state to the answer (R187). -/
theorem command_refused {code b : Byte} {owner : State → Reply} {a : Answer}
    (hidle : s.cfs.storeBusy = false)
    (h : owner (latchCommand code b s) = refuse a (latchCommand code b s)) :
    command code b owner s = answerCommand code a false (latchCommand code b s) := by
  rw [command_idle hidle, h]
  rfl

/-- An owner that is done leaves its state to the answer (R187). -/
theorem command_done {code b : Byte} {owner : State → Reply} {t : State}
    (hidle : s.cfs.storeBusy = false) (h : owner (latchCommand code b s) = done t) :
    command code b owner s = answerCommand code .done false t := by
  rw [command_idle hidle, h]
  rfl

/-! COMMAND holds the written word, and neither the table nor the operands change. -/

theorem isNeighbour_latchCommand (code b : Byte) (s : State) (k : Nat) :
    (latchCommand code b s).isNeighbour k = s.isNeighbour k :=
  isNeighbour_congr (by simp) k

theorem entry_latchCommand (code b : Byte) (s : State) (k : Nat) :
    (latchCommand code b s).entry k = s.entry k :=
  entry_congr (by simp) k

theorem op0_latchCommand (code b : Byte) (s : State) :
    (latchCommand code b s).op0 = s.lpt.operand0.toNat := by simp [State.op0]

theorem op1_latchCommand (code b : Byte) (s : State) :
    (latchCommand code b s).op1 = s.lpt.operand1.toNat := by simp [State.op1]

/-- A bay that is not a neighbour is refused RANGE. -/
theorem declareBound_of_stranger (hidle : s.cfs.storeBusy = false) (hout : s.cfs.out = false)
    (h : s.isNeighbour b.toNat = false) : exec (.declareBound b) s =
      .next (answerCommand 0x07 .refusedRange false (latchCommand 0x07 b s)) :=
  congrArg _ <| command_refused hidle <| by
    simp [ownDeclare, isNeighbour_latchCommand, hout, h]

theorem withdrawDeclaration_of_stranger (hidle : s.cfs.storeBusy = false) (hout : s.cfs.out = false)
    (h : s.isNeighbour b.toNat = false) : exec (.withdrawDeclaration b) s =
      .next (answerCommand 0x08 .refusedRange false (latchCommand 0x08 b s)) :=
  congrArg _ <| command_refused hidle <| by
    simp [ownWithdraw, isNeighbour_latchCommand, hout, h]

/-- A bad range is refused RANGE, whatever the bay. -/
theorem declareBound_of_badRange (hidle : s.cfs.storeBusy = false) (hout : s.cfs.out = false)
    (h : s.lpt.operand1.toNat < s.lpt.operand0.toNat ∨ 15000 < s.lpt.operand1.toNat) :
    exec (.declareBound b) s =
      .next (answerCommand 0x07 .refusedRange false (latchCommand 0x07 b s)) :=
  congrArg _ <| command_refused hidle <| by
    simp [ownDeclare, op0_latchCommand, op1_latchCommand, hout, h]

/-- The owner's answer to a declaration for a neighbour with a range in order. -/
theorem ownDeclare_of_neighbour (hout : s.cfs.out = false) (hnb : s.isNeighbour b.toNat = true)
    (he : s.entry b.toNat = some e) (hle : s.lpt.operand0.toNat ≤ s.lpt.operand1.toNat)
    (hmax : s.lpt.operand1.toNat ≤ 15000) :
    ownDeclare b.toNat (latchCommand 0x07 b s) =
      if e.presence = .live then refuse .refusedState (latchCommand 0x07 b s)
      else done (testClaim ((latchCommand 0x07 b s).updateEntry b.toNat
        (Entry.declare { lo := s.lpt.operand0.toNat, hi := s.lpt.operand1.toNat }))) := by
  have range : ¬ (s.lpt.operand1.toNat < s.lpt.operand0.toNat ∨ 15000 < s.lpt.operand1.toNat) := by
    omega
  simp [ownDeclare, isNeighbour_latchCommand, entry_latchCommand, op0_latchCommand, op1_latchCommand,
    hout, hnb, he, range]

/-- A declaration that is taken: the entry, the answer, and what stays. -/
theorem declareBound_done (hidle : s.cfs.storeBusy = false) (hout : s.cfs.out = false)
    (hnb : s.isNeighbour b.toNat = true)
    (he : s.entry b.toNat = some e) (hle : s.lpt.operand0.toNat ≤ s.lpt.operand1.toNat)
    (hmax : s.lpt.operand1.toNat ≤ 15000) (hlive : e.presence ≠ .live) :
    ∃ t, exec (.declareBound b) s = .next t ∧
      t.entry b.toNat = some (e.declare { lo := s.lpt.operand0.toNat, hi := s.lpt.operand1.toNat }) ∧
      (∀ k, k ≠ b.toNat → t.entry k = s.entry k) ∧ t.lpt.answer = .done ∧
      t.lpt.resultCode = 0x07 ∧ t.osl = s.osl ∧ t.mtc = s.mtc ∧ t.stm = s.stm := by
  have answer := ownDeclare_of_neighbour hout hnb he hle hmax
  rw [if_neg hlive] at answer
  refine ⟨_, congrArg Host.Outcome.next (command_done hidle answer), ?_⟩
  have table (x : Span) : (answerCommand 0x07 .done false (testClaim
      ((latchCommand 0x07 b s).updateEntry b.toNat (Entry.declare x)))).ptb =
      (s.updateEntry b.toNat (Entry.declare x)).ptb := by
    simpa using updateEntry_congr (by simp) b.toNat (Entry.declare x)
  obtain ⟨own, others⟩ := entry_of_updateEntry (f := Entry.declare _) (fun _ => rfl)
    (congrArg Ptb.entries (table _)) he
  refine ⟨own, others, ?_⟩
  simp [answerCommand_done_lpt]

/-- The state with the declaration of bay b withdrawn, an UNKNOWN neighbour reported (R28, R32). -/
def withdrawn (b : Nat) (x : Saved) (s : State) : State :=
  if s.ptb.listen.isNone && x.bound.isNone then
    setAttention .neighbourUnknown (s.updateEntry b (Entry.withdraw x))
  else s.updateEntry b (Entry.withdraw x)

/-- A neighbour without a declaration refuses the withdrawal. -/
theorem ownWithdraw_of_undeclared (hout : s.cfs.out = false) (hnb : s.isNeighbour b.toNat = true)
    (he : s.entry b.toNat = some e) (hx : e.saved = none) :
    ownWithdraw b.toNat (latchCommand 0x08 b s) = refuse .refusedState (latchCommand 0x08 b s) := by
  simp [ownWithdraw, isNeighbour_latchCommand, entry_latchCommand, hout, hnb, he, hx]

/-- A declared neighbour gets back what its declaration saved. -/
theorem ownWithdraw_of_declared {x : Saved} (hout : s.cfs.out = false)
    (hnb : s.isNeighbour b.toNat = true) (he : s.entry b.toNat = some e) (hx : e.saved = some x) :
    ownWithdraw b.toNat (latchCommand 0x08 b s) =
      done (testClaim (withdrawn b.toNat x (latchCommand 0x08 b s))) := by
  simp [ownWithdraw, isNeighbour_latchCommand, entry_latchCommand, hout, hnb, he, hx, withdrawn]

theorem withdrawn_ptb (k : Nat) (x : Saved) (s : State) :
    (withdrawn k x s).ptb = (s.updateEntry k (Entry.withdraw x)).ptb := by
  unfold withdrawn
  split <;> simp

/-- A withdrawal is a matter of PTB and of the attention causes. -/
theorem withdrawn_frame (k : Nat) (x : Saved) (s : State) :
    (withdrawn k x s).lpt = s.lpt ∧ (withdrawn k x s).osl = s.osl ∧
      (withdrawn k x s).mtc = s.mtc ∧ (withdrawn k x s).stm = s.stm := by
  unfold withdrawn
  split <;> simp

/-- A neighbour left without a bound outside a listen period is reported (R28). -/
theorem withdrawn_of_unbounded {k : Nat} {x : Saved} (hl : s.ptb.listen = none)
    (hx : x.bound = none) : (withdrawn k x s).act.causes &&& 0x020 = 0x020 := by
  simp only [withdrawn, hl, hx, Option.isNone_none, Bool.and_self, if_true]
  exact setAttention_sets .neighbourUnknown _

/-- The claim test and the answer leave the attention causes that are set (R206). -/
theorem answerCommand_testClaim_causes {m : BitVec 10} (code : Byte) (a : Answer)
    (h : s.act.causes &&& m = m) :
    (answerCommand code a false (testClaim s)).act.causes &&& m = m := by
  have tested : (testClaim s).act.causes &&& m = m := causes_kept (testClaim_inEvent s).act h
  unfold answerCommand
  dsimp only
  split
  · exact tested
  · exact causes_kept (setAttention_kept _ _) tested

/-- A withdrawal that is taken: the entry, the answer, the report, and what stays. -/
theorem withdrawDeclaration_done (hidle : s.cfs.storeBusy = false) (hout : s.cfs.out = false)
    (hnb : s.isNeighbour b.toNat = true) (he : s.entry b.toNat = some e) {x : Saved}
    (hx : e.saved = some x) :
    ∃ t, exec (.withdrawDeclaration b) s = .next t ∧
      t.entry b.toNat = some (e.withdraw x) ∧
      (∀ k, k ≠ b.toNat → t.entry k = s.entry k) ∧ t.lpt.answer = .done ∧
      t.lpt.resultCode = 0x08 ∧
      (s.ptb.listen = none → x.bound = none → t.act.causes &&& 0x020 = 0x020) ∧
      t.osl = s.osl ∧ t.mtc = s.mtc ∧ t.stm = s.stm := by
  refine ⟨_, congrArg Host.Outcome.next
    (command_done hidle (ownWithdraw_of_declared hout hnb he hx)), ?_⟩
  have table : (answerCommand 0x08 .done false
      (testClaim (withdrawn b.toNat x (latchCommand 0x08 b s)))).ptb =
      (s.updateEntry b.toNat (Entry.withdraw x)).ptb := by
    simpa [withdrawn_ptb] using updateEntry_congr (by simp) b.toNat (Entry.withdraw x)
  obtain ⟨own, others⟩ := entry_of_updateEntry (f := Entry.withdraw x) (fun _ => rfl)
    (congrArg Ptb.entries table) he
  refine ⟨own, others, ?_, ?_, fun hl hb => ?_, ?_⟩
  · simp [answerCommand_done_lpt]
  · simp [answerCommand_done_lpt]
  · exact answerCommand_testClaim_causes _ _ (withdrawn_of_unbounded (by simpa using hl) hb)
  · simp [withdrawn_frame]

end

/-- Settles O53: the refusals in the order of R31 and R32, then the declaration and the withdrawal. -/
theorem declarationsSaveAndRestore : Obligations.DeclarationsSaveAndRestore := by
  intro s b e hidle hout
  refine ⟨fun hnb => ⟨declareBound_of_stranger hidle hout hnb,
      withdrawDeclaration_of_stranger hidle hout hnb⟩,
    fun hbad => declareBound_of_badRange hidle hout hbad,
    fun hnb he hle hmax => ⟨fun hlive => ?_, declareBound_done hidle hout hnb he hle hmax⟩,
    fun hnb he => ⟨fun hsaved => ?_, fun x hx => withdrawDeclaration_done hidle hout hnb he hx⟩⟩
  · have answer := ownDeclare_of_neighbour hout hnb he hle hmax
    rw [if_pos hlive] at answer
    exact congrArg Host.Outcome.next (command_refused hidle answer)
  · exact congrArg Host.Outcome.next
      (command_refused hidle (ownWithdraw_of_undeclared hout hnb he hsaved))

end Sys2Proof.PeerTable

namespace Sys2Proof.Stagger

open Sys2Proof Sys2Proof.Machine Sys2Proof.BayLine

/-! ## What an operation keeps of the outputs (R139) -/

/-- What every operation keeps of the pump, the valve and the drives (R139, R160): that they follow the motion
state and phase, that the drives lie in their range, that HOLD_IN keeps them 0, and that a trim drives one hoist. -/
structure OutputsKept (s t : State) : Prop where
  outputs : s.outputsOk = true → t.outputsOk = true
  drives : s.drivesOk = true → t.drivesOk = true
  hold : s.holdDrivesOk = true → t.holdDrivesOk = true
  trim : s.outputsOk = true → s.trimDrivesOk = true → t.trimDrivesOk = true

/-- MTC's record with the same state, phase, outputs and trimmed hoist. -/
def SameOutputs (m n : Mtc) : Prop :=
  n.motion = m.motion ∧ n.phase = m.phase ∧ n.pump = m.pump ∧ n.valve = m.valve ∧
    n.driveL = m.driveL ∧ n.driveR = m.driveR ∧
    n.trim.map (fun t => t.hoist) = m.trim.map fun t => t.hoist

/-- MTC's record n stands in a state and phase entered from m, other than phase MOVE of a trim: its outputs are
those of R139, and a drive is the one of m where a loop runs. -/
def Entered (m n : Mtc) : Prop :=
  (n.pump, n.valve) = outputsOf n.motion n.phase ∧
    n.driveL = (if loopsRun n.motion n.phase then m.driveL else 0) ∧
    n.driveR = (if loopsRun n.motion n.phase then m.driveR else 0) ∧ n.trimMoves = false

theorem outputsOk_iff (s : State) : s.outputsOk = true ↔
    (s.mtc.pump, s.mtc.valve) = outputsOf s.mtc.motion s.mtc.phase ∧
      (loopsRun s.mtc.motion s.mtc.phase = false → s.mtc.driveL = 0 ∧ s.mtc.driveR = 0) := by
  cases h : loopsRun s.mtc.motion s.mtc.phase <;> simp [State.outputsOk, h]

theorem holdDrivesOk_iff (s : State) : s.holdDrivesOk = true ↔
    (s.pins.holdIn = true → s.mtc.driveL = 0 ∧ s.mtc.driveR = 0) := by
  cases h : s.pins.holdIn <;> simp [State.holdDrivesOk, h]

theorem drivesOk_iff (s : State) : s.drivesOk = true ↔
    s.mtc.driveL.natAbs ≤ 1000 ∧ s.mtc.driveR.natAbs ≤ 1000 := decide_eq_true_iff

/-- The trimmed hoist is h. -/
def trims (m : Mtc) (h : Hoist) : Prop := m.trim.map (fun t => t.hoist) = some h

theorem trimDrivesOk_iff (s : State) : s.trimDrivesOk = true ↔ (s.mtc.trimMoves = true →
    (s.mtc.driveL = 0 ∨ trims s.mtc .left) ∧ (s.mtc.driveR = 0 ∨ trims s.mtc .right)) := by
  have hoist (h : Hoist) : (s.mtc.trim.any fun t => t.hoist == h) = true ↔ trims s.mtc h := by
    cases ht : s.mtc.trim <;> simp [trims, ht]
  cases h : s.mtc.trimMoves <;> simp [State.trimDrivesOk, h, hoist]

section
variable {s t u : State}

theorem OutputsKept.refl (s : State) : OutputsKept s s := ⟨id, id, id, fun _ => id⟩

theorem OutputsKept.trans (h : OutputsKept s t) (k : OutputsKept t u) : OutputsKept s u where
  outputs x := k.outputs (h.outputs x)
  drives x := k.drives (h.drives x)
  hold x := k.hold (h.hold x)
  trim x y := k.trim (h.outputs x) (h.trim x y)

theorem OutputsKept.ite {p : Prop} [Decidable p] (h : OutputsKept s t) :
    OutputsKept s (if p then t else s) := by
  split
  · exact h
  · exact .refl s

theorem OutputsKept.of_same (hm : SameOutputs s.mtc t.mtc) (hp : t.pins.holdIn = s.pins.holdIn) :
    OutputsKept s t := by
  obtain ⟨motion, phase, pump, valve, driveL, driveR, trim⟩ := hm
  refine ⟨fun h => ?_, fun h => ?_, fun h => ?_, fun _ h => ?_⟩
  · rw [outputsOk_iff] at h ⊢
    rwa [motion, phase, pump, valve, driveL, driveR]
  · rw [drivesOk_iff] at h ⊢
    rwa [driveL, driveR]
  · rw [holdDrivesOk_iff] at h ⊢
    rwa [hp, driveL, driveR]
  · rw [trimDrivesOk_iff] at h ⊢
    simpa only [trims, Mtc.trimMoves, motion, phase, driveL, driveR, trim] using h

theorem OutputsKept.of_mtc (hm : t.mtc = s.mtc) (hp : t.pins.holdIn = s.pins.holdIn) : OutputsKept s t :=
  .of_same (by simp [SameOutputs, hm]) hp

/-- An entry takes the outputs of R139 and only takes drives away. -/
theorem OutputsKept.of_enter (hm : Entered s.mtc t.mtc) (hp : t.pins.holdIn = s.pins.holdIn) :
    OutputsKept s t := by
  obtain ⟨outputs, driveL, driveR, moves⟩ := hm
  refine ⟨fun _ => ?_, fun h => ?_, fun h => ?_, fun _ _ => ?_⟩
  · rw [outputsOk_iff]
    exact ⟨outputs, fun h => by simp [driveL, driveR, h]⟩
  · rw [drivesOk_iff] at h ⊢
    rw [driveL, driveR]
    split <;> simp [h]
  · rw [holdDrivesOk_iff] at h ⊢
    intro hin
    obtain ⟨left, right⟩ := h (hp ▸ hin)
    simp [driveL, driveR, left, right]
  · rw [trimDrivesOk_iff, moves]
    exact fun h => by cases h

theorem setMotion_outputs {m : Mtc} (h : Entered s.mtc m := by exact ⟨rfl, rfl, rfl, rfl⟩) : OutputsKept s (setMotion m s) :=
  .of_enter (by simpa using h) (by simp)

/-- A change of MTC's record apart from its outputs; the default proof reads the record field by field. -/
theorem setMtc_outputs {m : Mtc}
    (h : SameOutputs s.mtc m := by exact ⟨rfl, rfl, rfl, rfl, rfl, rfl, rfl⟩) : OutputsKept s (s.setMtc m) :=
  .of_same h rfl

end

/-! ## The entries to STOPPED, SETTLING and HOLDING -/

/-- MTC at its entry to STOPPED, before the tests that follow (R143, R158). -/
def atStopped (s : State) : State :=
  setMotion { s.mtc.enter .stopped none with
    trim := none, pumpSettle := none, release := none, settleTimeout := none, runOn := none,
    trimLimit := none } s

/-- MTC at its entry to SETTLING (R145). -/
def atSettling (s : State) : State :=
  setMotion { s.mtc.enter .settling none with
    v := 0, settleCount := 0, settleTimeout := some 5000, release := none } s

/-- MTC at its entry to HOLDING, the movement still to be ended (R148). -/
def atHolding (s : State) : State :=
  setMotion { s.mtc.enter .holding none with
    settleTimeout := none, release := none, runOn := some (Param.runOn s.cfs.working) } s

/-- The tests that follow an entry at rest: the row of R38, the closure test, the claim test. -/
def restTests (s : State) : State := testClaim (closureTest (endClosureRow s))

theorem enterSettling_eq (s : State) : enterSettling s =
    if s.mtc.stopKind = some .abandon then reportAbandon (atSettling s) else atSettling s := rfl

theorem enterHolding_eq (s : State) : enterHolding s =
    if Param.runOn s.cfs.working = 0 then runOnExpiry (restTests (endMovement (atHolding s)))
    else restTests (endMovement (atHolding s)) := rfl

/-! ## Movements and stops -/

section
variable (s : State)

theorem testClaim_outputs : OutputsKept s (testClaim s) := .of_mtc (by simp) (by simp)
theorem endClosureRow_outputs : OutputsKept s (endClosureRow s) := .of_mtc rfl rfl
theorem resolveClaim_outputs (o : ClaimOutcome) : OutputsKept s (resolveClaim o s) :=
  .of_mtc (by simp) (by simp)

/-- A start from rest enters PRIMING, where no loop runs (R140, R143). -/
theorem entered_startSequence (m n : Mtc) (w : Words) : Entered m (n.startSequence w) := by
  unfold Mtc.startSequence
  split <;> exact ⟨rfl, rfl, rfl, rfl⟩

theorem closureTest_outputs : OutputsKept s (closureTest s) := by
  unfold closureTest
  split
  · exact .refl s
  · dsimp only
    split
    · exact setMtc_outputs
    · exact setMotion_outputs (entered_startSequence _ _ _)

theorem enterFaultStop_outputs : OutputsKept s (enterFaultStop s) :=
  setMotion_outputs

theorem restTests_outputs : OutputsKept s (restTests s) :=
  (endClosureRow_outputs s).trans <| (closureTest_outputs _).trans (testClaim_outputs _)

theorem enterStopped_outputs : OutputsKept s (enterStopped s) :=
  (setMotion_outputs (s := s)).trans (restTests_outputs _)

theorem reportAbandon_outputs : OutputsKept s (reportAbandon s) := by
  unfold reportAbandon
  dsimp only
  have resolved : OutputsKept s (if s.clu.state = .granted then resolveClaim .abandoned s else s) :=
    (resolveClaim_outputs s .abandoned).ite
  refine resolved.trans ?_
  generalize (if s.clu.state = .granted then resolveClaim .abandoned s else s) = s1
  split
  · split
    · exact setMtc_outputs
    · exact setMotion_outputs
  · exact setMtc_outputs

theorem enterSettling_outputs : OutputsKept s (enterSettling s) := by
  have settling : OutputsKept s (atSettling s) := setMotion_outputs
  exact settling.trans (reportAbandon_outputs _).ite

theorem runOnExpiry_outputs : OutputsKept s (runOnExpiry s) := (enterStopped_outputs s).ite

theorem endMovement_outputs : OutputsKept s (endMovement s) := by
  unfold endMovement
  dsimp only
  split
  · exact setMtc_outputs
  · exact setMtc_outputs
  · have resolved (t : State) :
        OutputsKept t (if t.clu.state = .granted then resolveClaim .granted t else t) :=
      (resolveClaim_outputs t .granted).ite
    have counted (t : State) : OutputsKept t (countEvent .strideDone (dueStatusA t)) :=
      .of_mtc (by simp) (by simp)
    exact (setMtc_outputs (s := s)).trans <| (resolved _).trans (counted _)

theorem enterHolding_outputs : OutputsKept s (enterHolding s) := by
  have holding : OutputsKept s (atHolding s) := setMotion_outputs
  exact holding.trans <| (endMovement_outputs _).trans <| (restTests_outputs _).trans
    (runOnExpiry_outputs _).ite

theorem newGoal_outputs (q : Nat) : OutputsKept s (newGoal q s) := by
  unfold newGoal
  split
  · exact setMtc_outputs
  · exact .refl s

theorem targetStop_outputs : OutputsKept s (targetStop s) := by
  unfold targetStop
  dsimp only
  split
  · exact setMotion_outputs
  · exact setMtc_outputs
  all_goals exact .refl s

theorem abandonStop_outputs : OutputsKept s (abandonStop s) := by
  unfold abandonStop
  dsimp only
  split
  · exact setMotion_outputs
  · exact setMtc_outputs
  · exact setMtc_outputs
  · exact reportAbandon_outputs s
  all_goals exact .refl s

theorem handStride_outputs (limits : Span) (e : Nat) : OutputsKept s (handStride limits e s) :=
  setMotion_outputs (entered_startSequence _ _ _)

theorem surgeSelected_outputs : OutputsKept s (surgeSelected s) :=
  (setMtc_outputs (s := s)).trans (closureTest_outputs _)

theorem surgeDeselected_outputs : OutputsKept s (surgeDeselected s) := by
  unfold surgeDeselected
  dsimp only
  split
  · split
    case h_2 =>
      exact (setMtc_outputs (s := s)).trans (enterSettling_outputs _)
    all_goals exact setMtc_outputs
  · exact setMtc_outputs

theorem leavePriming_outputs : OutputsKept s (leavePriming s) := by
  unfold leavePriming
  dsimp only
  split
  · exact (setMtc_outputs (s := s)).trans (enterSettling_outputs _)
  · split
    · exact setMotion_outputs
    · split
      · split
        · exact (setMtc_outputs (s := s)).trans (enterHolding_outputs _)
        · exact setMotion_outputs
      · exact enterHolding_outputs s

/-! ## Selection and the surge epoch -/

theorem midStride_outputs (u : Nat) : OutputsKept s (midStride u s) := by
  unfold midStride
  dsimp only
  split <;> split
  · exact newGoal_outputs s _
  · exact targetStop_outputs s
  · exact newGoal_outputs s _
  · exact targetStop_outputs s

theorem targetReport_outputs : OutputsKept s (targetReport s) := by
  unfold targetReport
  split
  · exact .refl s
  · split
    · exact testClaim_outputs s
    · exact .refl s
    · exact .refl s
    · split
      · split
        · exact midStride_outputs s _
        · exact (targetStop_outputs s).ite
      · exact .refl s

theorem surgeReport_outputs (before : Slot) : OutputsKept s (surgeReport before s) := by
  unfold surgeReport
  split
  · exact .refl s
  · split
    · exact surgeSelected_outputs s
    · exact (surgeDeselected_outputs s).ite

theorem reselect_outputs : OutputsKept s (reselect s) := by
  have rest (t : State) (hm : t.mtc = s.mtc) (hp : t.pins = s.pins) :
      OutputsKept s (surgeReport s.osl.selected (targetReport (evalService t))) :=
    (OutputsKept.of_mtc (t := evalService t) (by simp [hm]) (by simp [hp])).trans <|
      (targetReport_outputs _).trans (surgeReport_outputs _ _)
  unfold reselect
  dsimp only
  split
  · exact .refl s
  · split
    · exact rest _ (by rfl) (by rfl)
    · exact rest _ (by rfl) (by rfl)

theorem surgeAbandon_outputs : OutputsKept s (surgeAbandon s) := by
  have resolved : OutputsKept s (resolveClaim .abandoned s) := resolveClaim_outputs s _
  unfold surgeAbandon
  split
  · exact .refl s
  · exact .of_mtc (by simp) (by simp)
  · exact resolved
  · split
    · exact abandonStop_outputs s
    · exact abandonStop_outputs s
    · exact abandonStop_outputs s
    · exact (setMtc_outputs (s := s)).trans (resolveClaim_outputs _ _)
    all_goals exact resolved

theorem changeEpoch_outputs (e : Nat) : OutputsKept s (changeEpoch e s) := by
  have moved (t : State) (hm : t.mtc = s.mtc) (hp : t.pins = s.pins) : OutputsKept s (reselect t) :=
    (OutputsKept.of_mtc hm (by rw [hp])).trans (reselect_outputs t)
  have tested (t : State) : OutputsKept t (endClosureRow (testClaim t)) :=
    (testClaim_outputs t).trans (endClosureRow_outputs _)
  unfold changeEpoch
  dsimp only
  split
  · exact .refl s
  · split
    · exact .of_mtc rfl rfl
    · split
      · exact moved _ (by rfl) (by rfl)
      · split
        · exact (moved _ (by rfl) (by rfl)).trans (surgeAbandon_outputs _)
        · exact (moved _ (by rfl) (by rfl)).trans (tested _)

/-! ## Faults and conditions -/

theorem firstFault_outputs (c : Cause) : OutputsKept s (firstFault c s) := by
  refine .of_enter ?_ (by simp [firstFault])
  rw [firstFault_mtc]
  exact ⟨rfl, rfl, rfl, rfl⟩

theorem secondFault_outputs (c : Cause) : OutputsKept s (secondFault c s) := by
  have pins : (secondFault c s).pins = s.pins := by simp
  by_cases h : s.mtc.motion = .trim
  · refine .of_enter ?_ (by rw [pins])
    rw [secondFault_mtc, if_pos h]
    exact ⟨rfl, rfl, rfl, rfl⟩
  · refine .of_mtc ?_ (by rw [pins])
    rw [secondFault_mtc, if_neg h]

theorem stopForCondition_outputs : OutputsKept s (stopForCondition s) := by
  have stopped : OutputsKept s (abandonClaim (enterFaultStop s)) :=
    (enterFaultStop_outputs s).trans (.of_mtc (by simp) (by simp))
  unfold stopForCondition
  split
  · exact .refl s
  · exact stopped

end

end Sys2Proof.Stagger

namespace Sys2Proof.Stagger

open Sys2Proof Sys2Proof.Machine Sys2Proof.BayLine

/-! ## A latched fault -/

/-- The FAULT line stands as the causes have it, and a latched cause keeps the claim STILL and MTC stopped (R56,
R156, R170, R178). -/
def FaultStopped (s : State) : Prop := s.faultLineOk = true ∧ s.faultMotionOk = true

theorem faultStopped_iff (s : State) : FaultStopped s ↔
    (s.fmn.faultLine = true ↔ s.fmn.causes ≠ noCauses) ∧
    (s.fmn.causes ≠ noCauses → s.clu.state = .still ∧ (s.mtc.motion = .faultStop ∨
      s.mtc.motion = .trim ∧ s.fmn.causes = onlySkewTrip)) := by
  have line : s.faultLineOk = true ↔ (s.fmn.faultLine = true ↔ s.fmn.causes ≠ noCauses) := by
    rw [State.faultLineOk, beq_iff_eq, Bool.eq_iff_iff, Bool.not_eq_true', ← Bool.not_eq_true, BayLine.isEmpty_iff]
  have motion : s.faultMotionOk = true ↔ (s.fmn.causes ≠ noCauses → s.clu.state = .still ∧
      (s.mtc.motion = .faultStop ∨ s.mtc.motion = .trim ∧ s.fmn.causes = onlySkewTrip)) := by
    by_cases h : s.fmn.causes = noCauses <;> simp [State.faultMotionOk, CauseSet.isEmpty, h]
  rw [FaultStopped, line, motion]

/-! ## What MTC serves -/

/-- What MTC serves in motion state m with movement v, the own claim in state c and a closure wanted or not, where
SURGE is selected or not and the epoch odd or not: the clauses of `State.movementOk` (R41, R48, R55, R143,
R144). -/
structure Serves (c : ClaimState) (m : Motion) (v : Option Movement) (wanted : Bool) (surge odd : Prop) :
    Prop where
  running : m = .running → v = some .stride ∧ c = .granted ∨ v = some .closure ∧ surge ∧ c ≠ .granted
  stopping : m = .stopping → v = some .stride ∧ c = .granted
  primingStride : m = .priming → v = some .stride → c = .granted
  primingClosure : m = .priming → v = some .closure → surge
  moving : c = .granted → m = .priming ∨ m = .running ∨ m = .stopping ∨ m = .settling
  granted : c = .granted → v = some .stride
  waiting : c = .asking ∨ c = .pending → m.atRest = true ∧ ¬ odd
  request : wanted = true → surge

/-- What MTC serves, read off a state. -/
def ServesUnder (surge odd : Prop) (s : State) : Prop :=
  Serves s.clu.state s.mtc.motion s.mtc.movement s.mtc.closureRequest surge odd

/-- SURGE is selected, outside OUT. -/
def SurgeServed (s : State) : Prop := s.osl.selected = .surge ∧ s.cfs.out = false

theorem movementOk_iff (s : State) :
    s.movementOk = true ↔ ServesUnder (SurgeServed s) (s.epochOdd = true) s := by
  unfold State.movementOk ServesUnder SurgeServed
  dsimp only
  generalize s.clu.state = c, s.mtc.motion = m, s.mtc.movement = v, s.mtc.closureRequest = q,
    s.epochOdd = odd, s.osl.selected = k, s.cfs.out = out
  simp only [Bool.and_eq_true, Bool.or_eq_true, Bool.not_eq_true', beq_iff_eq, beq_eq_false_iff_ne]
  constructor
  · intro h
    constructor <;> cases m <;> grind [Motion.atRest]
  · rintro ⟨running, stopping, primingStride, primingClosure, moving, granted, waiting, request⟩
    cases m <;> simp <;> grind [Motion.atRest]

/-- What MTC serves, with the slot of SURGE and the selection as STM's epoch has them, and no claim in OUT: the
part of the invariants of the statement that an event needs. -/
structure Served (s : State) : Prop where
  serves : ServesUnder (SurgeServed s) (s.epochOdd = true) s
  slot : s.osl.surge = s.epochOdd
  selected : s.osl.selected = .surge ↔ s.osl.surge = true
  out : s.cfs.out = true → s.clu.state = .still

/-- SURGE is chosen exactly while its slot is pending (R92). -/
theorem choose_surge_iff (o : Osl) (w : Words) : o.choose w = .surge ↔ o.surge = true := by
  have other (p : Prop) [Decidable p] {a b : Slot} (ha : a ≠ .surge) (hb : b ≠ .surge) :
      (if p then b else a) ≠ .surge := by
    split
    · exact hb
    · exact ha
  cases h : o.surge
  · simp only [Osl.choose, h, Bool.false_eq_true, if_false, iff_false]
    exact other _ (other _ (other _ (by decide) (by decide)) (by decide)) (by decide)
  · simp [Osl.choose, h]

section
variable {s t u : State}

theorem Served.odd (h : Served s) (hs : SurgeServed s) : s.epochOdd = true :=
  h.slot ▸ h.selected.1 hs.1

/-- What the other blocks bring to it: the selection, the slot of SURGE, the epoch, OUT. -/
def SameContext (s t : State) : Prop :=
  t.osl.selected = s.osl.selected ∧ t.osl.surge = s.osl.surge ∧ t.stm.epoch = s.stm.epoch ∧
    t.cfs.out = s.cfs.out

/-- In the same context only what MTC serves is to be looked at. -/
theorem Served.of_context (h : Served s) (k : SameContext s t)
    (serves : ServesUnder (SurgeServed s) (s.epochOdd = true) t)
    (still : s.cfs.out = true → s.clu.state = .still → t.clu.state = .still) : Served t := by
  obtain ⟨selected, slot, epoch, out⟩ := k
  have odd : t.epochOdd = s.epochOdd := by rw [State.epochOdd, State.epochOdd, epoch]
  have surge : SurgeServed t ↔ SurgeServed s := by rw [SurgeServed, SurgeServed, selected, out]
  refine ⟨?_, by rw [slot, odd, h.slot], by rw [selected, slot, h.selected], fun ho => ?_⟩
  · rw [odd, propext surge]
    exact serves
  · rw [out] at ho
    exact still ho (h.out ho)

/-! ## What every operation keeps -/

/-- A latched fault is kept with its line, and with the claim and the gate as they are stopped. -/
def FaultKept (s t : State) : Prop := FaultStopped s → FaultStopped t

/-- What the operations of an event keep: the outputs, the stop of a latched fault, and what MTC serves. -/
structure Steady (s t : State) : Prop extends OutputsKept s t where
  fault : FaultKept s t
  served : Served s → Served t

/-- Where no cause is latched FMN is all there is to look at. -/
theorem FaultKept.of_free (hf : t.fmn = s.fmn) (h : FaultStopped s → s.fmn.causes = noCauses) :
    FaultKept s t := by
  intro hs
  have none : t.fmn.causes = noCauses := by rw [hf, h hs]
  rw [faultStopped_iff] at hs ⊢
  exact ⟨by rw [hf]; exact hs.1, fun hc => absurd none hc⟩

/-- With a cause latched the claim is to stay STILL and the gate where it is. -/
theorem FaultKept.of_stopped (hf : t.fmn.causes = s.fmn.causes) (hl : t.fmn.faultLine = s.fmn.faultLine)
    (h : s.fmn.causes ≠ noCauses → s.clu.state = .still →
      (s.mtc.motion = .faultStop ∨ s.mtc.motion = .trim) →
      t.clu.state = .still ∧ t.mtc.motion = s.mtc.motion) : FaultKept s t := by
  intro hs
  rw [faultStopped_iff] at hs ⊢
  obtain ⟨line, stopped⟩ := hs
  rw [hf, hl]
  refine ⟨line, fun hc => ?_⟩
  obtain ⟨still, motion⟩ := stopped hc
  obtain ⟨still', motion'⟩ := h hc still (motion.imp_right And.left)
  exact ⟨still', motion' ▸ motion⟩

/-- A claim in progress, or a gate that is not stopped, says that no cause is latched. -/
theorem FaultStopped.free (h : FaultStopped s)
    (hs : s.clu.state ≠ .still ∨ s.mtc.motion ≠ .faultStop ∧ s.mtc.motion ≠ .trim) :
    s.fmn.causes = noCauses := by
  by_contra hc
  obtain ⟨still, motion⟩ := ((faultStopped_iff s).1 h).2 hc
  rcases hs with hs | ⟨hstop, htrim⟩
  · exact hs still
  · exact motion.elim hstop fun m => htrim m.1

theorem Steady.refl (s : State) : Steady s s := { OutputsKept.refl s with fault := id, served := id }

theorem Steady.trans (h : Steady s t) (k : Steady t u) : Steady s u :=
  { h.toOutputsKept.trans k.toOutputsKept with
    fault := fun x => k.fault (h.fault x)
    served := fun x => k.served (h.served x) }

theorem Steady.ite {p : Prop} [Decidable p] (h : Steady s t) : Steady s (if p then t else s) := by
  split
  · exact h
  · exact .refl s

/-- Neither the gate nor the claim is touched, nor what they are kept by. -/
def Untouched (s t : State) : Prop :=
  t.mtc = s.mtc ∧ t.fmn.causes = s.fmn.causes ∧ t.fmn.faultLine = s.fmn.faultLine ∧
    t.clu.state = s.clu.state ∧ SameContext s t ∧ t.pins.holdIn = s.pins.holdIn

theorem Untouched.steady (h : Untouched s t) : Steady s t := by
  obtain ⟨mtc, causes, line, claim, context, pin⟩ := h
  refine { OutputsKept.of_mtc mtc pin with
    fault := .of_stopped causes line fun _ still _ => ⟨claim ▸ still, by rw [mtc]⟩
    served := fun hs => hs.of_context context ?_ fun _ still => claim ▸ still }
  rw [ServesUnder, claim, mtc]
  exact hs.serves

/-- MTC's record with the same outputs, movement and request. -/
theorem Steady.of_setMtc {m : Mtc} (h : SameOutputs s.mtc m) (hv : m.movement = s.mtc.movement)
    (hq : m.closureRequest = s.mtc.closureRequest) : Steady s (s.setMtc m) := by
  have motion : m.motion = s.mtc.motion := h.1
  refine { setMtc_outputs h with
    fault := .of_stopped rfl rfl fun _ still _ => ⟨still, motion⟩
    served := fun hs => hs.of_context ⟨rfl, rfl, rfl, rfl⟩ ?_ fun _ => id }
  have serves := hs.serves
  rw [ServesUnder] at serves ⊢
  rwa [State.setMtc_mtc, motion, hv, hq]

end

end Sys2Proof.Stagger

namespace Sys2Proof.Stagger

open Sys2Proof Sys2Proof.Machine Sys2Proof.BayLine

/-! An entry writes the state and phase, and leaves what is served. -/

section
variable (m : Mtc) (st : Motion) (ph : Option Phase)

@[simp] theorem enter_motion : (m.enter st ph).motion = st := rfl
@[simp] theorem enter_phase : (m.enter st ph).phase = ph := rfl
@[simp] theorem enter_movement : (m.enter st ph).movement = m.movement := rfl
@[simp] theorem enter_closureRequest : (m.enter st ph).closureRequest = m.closureRequest := rfl

end

/-! ## How what MTC serves changes, case by case -/

theorem atRest_iff (m : Motion) : m.atRest = true ↔ m = .stopped ∨ m = .holding := by
  cases m <;> simp [Motion.atRest]

section
variable {c : ClaimState} {m : Motion} {v : Option Movement} {q : Bool} {surge odd : Prop}

/-- A claim is made at rest, under an even epoch (R41). -/
theorem Serves.ask (h : Serves .still m v q surge odd) (hm : m.atRest = true) (ho : ¬ odd) :
    Serves .asking m v q surge odd := by
  rw [atRest_iff] at hm
  cases h
  constructor <;> grind [Motion.atRest]

/-- A claim that is not granted is resolved. -/
theorem Serves.resolve (h : Serves c m v q surge odd) (hc : c ≠ .granted) : Serves .still m v q surge odd := by
  cases h
  constructor <;> grind

/-- A wanted closure begins from rest (R143). -/
theorem Serves.beginClosure (h : Serves c m v true surge odd) (hm : m.atRest = true) (ho : surge → odd) :
    Serves c .priming (some .closure) true surge odd := by
  rw [atRest_iff] at hm
  cases h
  constructor <;> grind

/-- The request is cleared. -/
theorem Serves.unwanted (h : Serves c m v q surge odd) : Serves c m v false surge odd :=
  { h with request := fun hq => by cases hq }

/-- With the claim STILL the gate may stand in any state that serves no movement, whatever the movement. -/
theorem Serves.idle {n : Motion} (hn : n ≠ .running ∧ n ≠ .stopping ∧ n ≠ .priming)
    (hq : q = true → surge) : Serves .still n v q surge odd := by
  constructor <;> grind

/-- MTC enters STOPPED from a state without a granted claim. -/
theorem Serves.stop (h : Serves c m v q surge odd) (hm : m = .holding ∨ m = .faultStop ∨ m = .trim) :
    Serves c .stopped v q surge odd := by
  cases h
  constructor <;> grind [Motion.atRest]

/-- PRIMING ends in RUNNING with the movement it was started for (R142). -/
theorem Serves.run (h : Serves c .priming v q surge odd) (hv : v.isSome = true) :
    Serves c .running v q surge odd := by
  obtain ⟨running, stopping, primingStride, primingClosure, moving, granted, waiting, request⟩ := h
  rcases v with _ | _ | _
  · cases hv
  all_goals constructor <;> grind [Motion.atRest]

/-- A closure goes on from where no movement is served (R142, R147). -/
theorem Serves.close (h : Serves c m none true surge odd) (hm : m.atRest = false) :
    Serves c .running (some .closure) true surge odd := by
  cases h
  constructor <;> grind

/-- The stride of a granted claim is stopped (R146, R147). -/
theorem Serves.brake (h : Serves .granted .running v q surge odd) : Serves .granted .stopping v q surge odd := by
  cases h
  constructor <;> grind

/-- Where no closure is served none needs SURGE, once none is wanted (R144). -/
theorem Serves.deselect (h : Serves c m v q surge odd)
    (hv : v = some .closure → m ≠ .running ∧ m ≠ .priming) : Serves c m v false False odd := by
  cases h
  constructor <;> grind

/-- A closure in PRIMING is dropped (R144). -/
theorem Serves.drop (h : Serves c .priming (some .closure) q surge odd) :
    Serves c .priming none false False odd := by
  cases h
  constructor <;> grind

/-- Selecting SURGE takes nothing away. -/
theorem Serves.mono {surge' : Prop} (h : Serves c m v q surge odd) (hs : surge → surge') :
    Serves c m v q surge' odd := by
  cases h
  constructor <;> grind

/-- A granted claim is resolved in PRIMING with its stride taken away (R55). -/
theorem Serves.dropStride (h : Serves .granted .priming v q surge odd) :
    Serves .still .priming none q surge odd := by
  cases h
  constructor <;> grind

/-- The epoch matters to a claim on its way alone (R41). -/
theorem Serves.any_odd (h : Serves c m v q surge odd) (hc : c = .still ∨ c = .granted) (odd' : Prop) :
    Serves c m v q surge odd' :=
  { h with waiting := fun hw => by rcases hc with rfl | rfl <;> rcases hw with hw | hw <;> cases hw }

/-- MTC enters SETTLING from a state out of rest (R145, R147). -/
theorem Serves.settle (h : Serves c m v q surge odd) (hm : m.atRest = false) :
    Serves c .settling v q surge odd := by
  cases h
  constructor <;> grind

end

/-! ## The claim test and the closure test -/

section
variable {s : State}

theorem claimConditions_facts (h : s.claimConditions = true) : s.cfs.out = false ∧
    s.mtc.motion.atRest = true ∧ s.epochOdd = false ∧ s.fmn.causes = noCauses := by
  simp only [State.claimConditions, Bool.and_eq_true, Bool.not_eq_true', State.faultLatched,
    Bool.not_eq_false', BayLine.isEmpty_iff] at h
  tauto

/-- Everything the claim test can do with the claim's state (R40, R41). -/
theorem testClaim_state (s : State) : (testClaim s).clu.state = s.clu.state ∨
    (s.clu.state = .still ∧ (testClaim s).clu.state = .asking ∧ s.claimConditions = true) := by
  unfold testClaim
  split
  · exact .inl rfl
  · next h =>
    simp only [Bool.or_eq_true, bne_iff_ne, not_or, not_not] at h
    dsimp only
    split
    · next hc =>
      split
      · exact .inr ⟨h.2, by simp [makeClaim], hc⟩
      · exact .inl rfl
    · exact .inl rfl

theorem testClaim_serves {surge : Prop} (h : ServesUnder surge (s.epochOdd = true) s) :
    ServesUnder surge (s.epochOdd = true) (testClaim s) := by
  rcases testClaim_state s with same | ⟨still, asking, conditions⟩
  · simpa [ServesUnder, same] using h
  · obtain ⟨-, rest, even, -⟩ := claimConditions_facts conditions
    rw [ServesUnder, still] at h
    simpa [ServesUnder, asking] using h.ask rest (by simp [even])

theorem testClaim_steady (s : State) : Steady s (testClaim s) := by
  refine { testClaim_outputs s with
    fault := .of_stopped (by simp) (by simp) fun hc still _ => ⟨?_, by simp⟩
    served := fun hs => hs.of_context (by simp [SameContext]) (testClaim_serves hs.serves)
      fun ho still => ?_ }
  · rcases testClaim_state s with same | ⟨-, -, conditions⟩
    · exact same.trans still
    · exact absurd (claimConditions_facts conditions).2.2.2 hc
  · rwa [testClaim_of_out ho]

/-- Everything the closure test can do: nothing, clear the request of a gate that is closed, or begin (R143). -/
theorem closureTest_cases (s : State) : closureTest s = s ∨
    closureTest s = s.setMtc { s.mtc with closureRequest := false } ∨
    (s.mtc.closureRequest = true ∧ s.mtc.motion.atRest = true ∧ (closureTest s).mtc.motion = .priming ∧
      (closureTest s).mtc.movement = some .closure ∧ (closureTest s).mtc.closureRequest = true) := by
  unfold closureTest
  split
  · exact .inl rfl
  · next g hg =>
    dsimp only
    split
    · exact .inr (.inl rfl)
    · refine .inr (.inr ?_)
      simp only [State.closureMayBegin, Bool.and_eq_true] at hg
      split at hg
      · next h =>
        refine ⟨by tauto, by tauto, ?_⟩
        unfold Mtc.startSequence
        split <;> simp <;> tauto
      · cases hg

theorem closureTest_serves {c : ClaimState} {surge odd : Prop} (ho : surge → odd)
    (h : Serves c s.mtc.motion s.mtc.movement s.mtc.closureRequest surge odd) :
    Serves c (closureTest s).mtc.motion (closureTest s).mtc.movement (closureTest s).mtc.closureRequest
      surge odd := by
  rcases closureTest_cases s with same | cleared | ⟨wanted, rest, motion, movement, wanted'⟩
  · rwa [same]
  · rw [cleared]
    exact h.unwanted
  · rw [motion, movement, wanted']
    exact (wanted ▸ h).beginClosure rest ho

theorem closureTest_steady (s : State) : Steady s (closureTest s) :=
  { closureTest_outputs s with
    fault := .of_stopped (by simp) (by simp) fun hc still _ => by
      rw [closureTest_of_fault hc]
      exact ⟨still, rfl⟩
    served := fun hs => hs.of_context (by simp [SameContext])
      (by simpa [ServesUnder] using closureTest_serves hs.odd hs.serves) (by simp) }

/-! ## Stops and entries -/

theorem endClosureRow_steady (s : State) : Steady s (endClosureRow s) :=
  Untouched.steady ⟨rfl, rfl, rfl, rfl, ⟨rfl, rfl, rfl, rfl⟩, rfl⟩

theorem restTests_steady (s : State) : Steady s (restTests s) :=
  (endClosureRow_steady s).trans <| (closureTest_steady _).trans (testClaim_steady _)

/-- MTC enters STOPPED with no claim granted (R143, R158). -/
theorem enterStopped_served (h : Served s)
    (hm : s.mtc.motion = .holding ∨ s.mtc.motion = .faultStop ∨ s.mtc.motion = .trim) :
    Served (enterStopped s) := by
  refine (restTests_steady (atStopped s)).served
    (h.of_context (by simp [SameContext, atStopped]) ?_ (by simp [atStopped]))
  have stopped := h.serves.stop hm
  simpa [ServesUnder, atStopped] using stopped

theorem runOnExpiry_steady (s : State) : Steady s (runOnExpiry s) := by
  by_cases h : s.mtc.motion = .holding ∧ s.mtc.runOn.isSome = true
  · have run : runOnExpiry s = enterStopped s := by simp [runOnExpiry, h]
    exact { runOnExpiry_outputs s with
      fault := .of_free (by simp) fun hs => hs.free (.inr (by simp [h]))
      served := fun hs => run ▸ enterStopped_served hs (.inl h.1) }
  · rw [show runOnExpiry s = s by simp [runOnExpiry]; tauto]
    exact .refl s

/-- A granted claim resolved, and any other left. -/
theorem resolveIfGranted_state (o : ClaimOutcome) (s : State) :
    (if s.clu.state = .granted then resolveClaim o s else s).clu.state =
      if s.clu.state = .granted then .still else s.clu.state := by
  split
  · exact (resolveClaim_state o s).1
  · rfl

theorem reportAbandon_state (s : State) : (reportAbandon s).clu.state =
    if s.clu.state = .granted then .still else s.clu.state := by
  unfold reportAbandon
  dsimp only
  rw [← resolveIfGranted_state .abandoned s]
  generalize (if s.clu.state = .granted then resolveClaim .abandoned s else s) = s1
  split
  · split <;> simp
  · rfl

/-- The report of an abandoning stop ends the movement, or turns into the closure that is wanted (R147). -/
theorem reportAbandon_mtc (s : State) :
    ((reportAbandon s).mtc.motion = s.mtc.motion ∧ (reportAbandon s).mtc.movement = none ∧
      ((reportAbandon s).mtc.closureRequest = true → s.mtc.closureRequest = true)) ∨
    (s.mtc.closureRequest = true ∧ (reportAbandon s).mtc.motion = .running ∧
      (reportAbandon s).mtc.movement = some .closure) := by
  have same : (if s.clu.state = .granted then resolveClaim .abandoned s else s).mtc = s.mtc := by
    split <;> simp
  unfold reportAbandon
  dsimp only
  rw [same]
  split
  · next h =>
    simp only [Bool.and_eq_true] at h
    split
    · exact .inl ⟨rfl, rfl, fun hq => by cases hq⟩
    · exact .inr ⟨h.1, by simp [Mtc.closureFromSetpoint], by simp [Mtc.closureFromSetpoint]⟩
  · exact .inl ⟨rfl, rfl, id⟩

theorem reportAbandon_serves {surge odd : Prop} (h : ServesUnder surge odd s)
    (hm : s.mtc.motion = .settling) : ServesUnder surge odd (reportAbandon s) := by
  rw [ServesUnder] at h ⊢
  rw [reportAbandon_state]
  obtain ⟨running, stopping, primingStride, primingClosure, moving, granted, waiting, request⟩ := h
  rcases reportAbandon_mtc s with ⟨motion, movement, wanted⟩ | ⟨wanted, motion, movement⟩
  · constructor <;> grind
  · constructor <;> grind [Motion.atRest]

theorem enterSettling_serves {surge odd : Prop} (h : ServesUnder surge odd s)
    (hm : s.mtc.motion.atRest = false) : ServesUnder surge odd (enterSettling s) := by
  have entered : ServesUnder surge odd (atSettling s) := by
    simpa [ServesUnder, atSettling] using h.settle hm
  rw [enterSettling_eq]
  split
  · exact reportAbandon_serves entered (by simp [atSettling])
  · exact entered

/-- With no closure wanted SETTLING is entered and stays (R147). -/
theorem enterSettling_of_unwanted (hq : s.mtc.closureRequest = false) :
    (enterSettling s).mtc.motion = .settling ∧ (enterSettling s).mtc.closureRequest = false := by
  have entered : (atSettling s).mtc.motion = .settling ∧ (atSettling s).mtc.closureRequest = false := by
    simp [atSettling, hq]
  rw [enterSettling_eq]
  split
  · rcases reportAbandon_mtc (atSettling s) with ⟨motion, -, wanted⟩ | ⟨wanted, -⟩
    · refine ⟨motion.trans entered.1, ?_⟩
      rw [← Bool.not_eq_true]
      exact fun h => by simp [entered.2] at wanted; simp [wanted] at h
    · simp [entered.2] at wanted
  · exact entered

/-- An entry to SETTLING makes no claim. -/
theorem enterSettling_still (h : s.clu.state = .still) : (enterSettling s).clu.state = .still := by
  rw [enterSettling_eq]
  split
  · simp [reportAbandon_state, atSettling, h]
  · simp [atSettling, h]

theorem endMovement_state (s : State) : (endMovement s).clu.state =
    if s.mtc.movement = some .stride ∧ s.clu.state = .granted then .still else s.clu.state := by
  unfold endMovement
  dsimp only
  split
  · next h => simp [h]
  · next h => simp [h]
  · next h => by_cases hc : s.clu.state = .granted <;> simp [h, hc, resolveClaim_state]

/-- The movement ends, in the motion state it has come to (R148). -/
theorem endMovement_mtc (s : State) : (endMovement s).mtc.motion = s.mtc.motion ∧
    (endMovement s).mtc.movement = none ∧
    ((endMovement s).mtc.closureRequest = true → s.mtc.closureRequest = true) := by
  unfold endMovement
  dsimp only
  split
  · simp
  · simp only [State.setMtc_mtc, Bool.and_eq_true, true_and]
    exact And.left
  · split <;> simp

/-- HOLDING is entered from SETTLING, or from PRIMING with nothing to serve; a stride's claim is resolved
(R142, R148). -/
theorem enterHolding_served (h : Served s) (hm : s.mtc.motion = .settling ∨
    s.mtc.motion = .priming ∧ s.mtc.movement = none) : Served (enterHolding s) := by
  have ended : Served (endMovement (atHolding s)) := by
    obtain ⟨motion, movement, wanted⟩ := endMovement_mtc (atHolding s)
    obtain ⟨-, -, -, -, -, granted, waiting, request⟩ := h.serves
    have still : (endMovement (atHolding s)).clu.state = .still := by
      rw [endMovement_state]
      simp only [atHolding, setMotion_frame, setMotion_mtc, enter_movement]
      rcases hm with hm | ⟨hm, -⟩ <;> cases hc : s.clu.state <;> simp_all [Motion.atRest]
    refine h.of_context (by simp [SameContext, atHolding]) ?_ fun _ _ => still
    rw [ServesUnder, still, motion, atHolding, setMotion_mtc]
    exact Serves.idle (by simp) fun hq => request (by simpa [atHolding] using wanted hq)
  rw [enterHolding_eq]
  split
  · exact (runOnExpiry_steady _).served ((restTests_steady _).served ended)
  · exact (restTests_steady _).served ended

theorem leavePriming_served (h : Served s) (hm : s.mtc.motion = .priming) : Served (leavePriming s) := by
  have rest : s.mtc.motion.atRest = false := by rw [hm]; rfl
  have serves := h.serves
  rw [ServesUnder] at serves
  unfold leavePriming
  dsimp only
  split
  · exact h.of_context (by simp [SameContext])
      (enterSettling_serves (s := s.setMtc { s.mtc with goal := s.mtc.setpoint }) h.serves rest)
      fun _ still => enterSettling_still still
  · split
    · next hv =>
      refine h.of_context (by simp [SameContext]) ?_ (by simp)
      simpa [ServesUnder] using (hm ▸ serves).run hv
    · next hv =>
      have none : s.mtc.movement = none := by simpa using hv
      split
      · next hq =>
        split
        · have unwanted : Served (s.setMtc { s.mtc with closureRequest := false }) :=
            h.of_context ⟨rfl, rfl, rfl, rfl⟩ serves.unwanted fun _ => id
          exact enterHolding_served unwanted (.inr ⟨hm, none⟩)
        · refine h.of_context (by simp [SameContext]) ?_ (by simp)
          rw [none, hq] at serves
          simpa [ServesUnder, Mtc.closureFromSetpoint, hq] using serves.close rest
      · exact enterHolding_served h (.inr ⟨hm, none⟩)

end

end Sys2Proof.Stagger

namespace Sys2Proof.Stagger

open Sys2Proof Sys2Proof.Machine Sys2Proof.BayLine

/-! ## Stops with a ramp -/

section
variable {s : State} {surge odd : Prop}

theorem newGoal_serves (q : Nat) (h : ServesUnder surge odd s) : ServesUnder surge odd (newGoal q s) := by
  unfold newGoal
  split <;> exact h

/-- A target stop takes a granted stride from RUNNING to STOPPING (R146). -/
theorem targetStop_serves (h : ServesUnder surge odd s) (hc : s.clu.state = .granted) :
    ServesUnder surge odd (targetStop s) := by
  rw [ServesUnder, hc] at h
  unfold targetStop
  dsimp only
  split
  · next hm => simpa [ServesUnder, hc] using (hm ▸ h).brake
  all_goals simpa [ServesUnder, hc] using h

/-- An abandoning stop of a granted stride: a ramp, or its report at once (R147). -/
theorem abandonStop_serves (h : ServesUnder surge odd s) (hc : s.clu.state = .granted) :
    ServesUnder surge odd (abandonStop s) := by
  have serves := h
  rw [ServesUnder, hc] at serves
  unfold abandonStop
  dsimp only
  split
  · next hm => simpa [ServesUnder, hc] using (hm ▸ serves).brake
  · exact h
  · exact h
  · next hm => exact reportAbandon_serves h hm
  all_goals exact h

theorem midStride_serves (u : Nat) (h : ServesUnder surge odd s) (hc : s.clu.state = .granted) :
    ServesUnder surge odd (midStride u s) := by
  unfold midStride
  dsimp only
  split <;> split
  · exact newGoal_serves _ h
  · exact targetStop_serves h hc
  · exact newGoal_serves _ h
  · exact targetStop_serves h hc

/-! ## Selection -/

theorem targetReport_serves (h : ServesUnder surge (s.epochOdd = true) s) :
    ServesUnder surge (s.epochOdd = true) (targetReport s) := by
  unfold targetReport
  split
  · exact h
  · split
    · exact testClaim_serves h
    · exact h
    · exact h
    · next hc =>
      split
      · split
        · exact midStride_serves _ h hc
        · split
          · exact targetStop_serves h hc
          · exact h
      · exact h

/-- SURGE has stopped being selected: a closure ends, and none is wanted (R99, R144). -/
theorem surgeDeselected_serves (h : ServesUnder surge odd s) :
    ServesUnder False odd (surgeDeselected s) := by
  unfold surgeDeselected
  dsimp only
  split
  · next hv =>
    have closure := h
    rw [ServesUnder, hv] at closure
    split
    · next hm => simpa [ServesUnder, hm] using (hm ▸ closure).drop
    · next hm =>
      have settling := enterSettling_serves (s := s.setMtc { s.mtc with
        closureRequest := false, goal := s.mtc.setpoint, v := 0 })
        h.unwanted (by rw [State.setMtc_mtc, hm]; rfl)
      obtain ⟨motion, wanted⟩ := enterSettling_of_unwanted (s := s.setMtc { s.mtc with
        closureRequest := false, goal := s.mtc.setpoint, v := 0 }) rfl
      rw [ServesUnder, wanted]
      exact settling.deselect fun _ => by simp [motion]
    all_goals next hm => exact h.deselect fun _ => by simp [hm]
  · next hv => exact h.deselect fun h => absurd h hv

/-- OSL's report in a state where SURGE is not selected: what rested on it is over (R99). -/
theorem surgeReport_serves {before : Slot} (h : ServesUnder surge odd s) (hk : s.osl.selected ≠ .surge)
    (hs : surge → before = .surge ∧ s.cfs.out = false) : ServesUnder False odd (surgeReport before s) := by
  unfold surgeReport
  split
  · next ho => exact h.mono fun x => by simp [(hs x).2] at ho
  · split
    · exact surgeDeselected_serves h
    · next hb => exact h.mono fun x => absurd (hs x).1 hb

/-- Nothing to do, or the new slot is handed on to CLU and MTC from a state in which OSL alone has changed
(R93, R97). -/
theorem reselect_cases (s : State) : (s.osl.choose s.levels = s.osl.selected ∧ reselect s = s) ∨
    ∃ x, reselect s = surgeReport s.osl.selected (targetReport x) ∧
      s.osl.choose s.levels ≠ s.osl.selected ∧ x.osl.selected = s.osl.choose s.levels ∧
      x.osl.surge = s.osl.surge ∧ x.mtc = s.mtc ∧ x.clu = s.clu ∧ x.fmn = s.fmn ∧ x.stm = s.stm ∧
      x.cfs = s.cfs := by
  unfold reselect
  dsimp only
  split
  · next h => exact .inl ⟨h, rfl⟩
  · next h =>
    split
    · next hk => exact .inr ⟨_, rfl, h, by simp [captureRest], by simp [captureRest], by simp⟩
    · exact .inr ⟨_, rfl, h, by simp, by simp, by simp⟩

/-- A re-selection with the slot of SURGE not pending, whatever was selected before. -/
theorem reselect_served_of_even (h : ServesUnder (SurgeServed s) (s.epochOdd = true) s)
    (slot : s.osl.surge = false) (even : s.epochOdd = false)
    (out : s.cfs.out = true → s.clu.state = .still) : Served (reselect s) := by
  have other : s.osl.choose s.levels ≠ .surge := by simp [choose_surge_iff, slot]
  rcases reselect_cases s with ⟨same, run⟩ | ⟨x, run, -, selected, surge, mtc, clu, fmn, stm, cfs⟩
  · rw [run]
    exact ⟨h, by rw [slot, even], by rw [← same]; simp [other, slot], out⟩
  · have odd : x.epochOdd = s.epochOdd := by rw [State.epochOdd, State.epochOdd, stm]
    have told : ServesUnder (SurgeServed s) (x.epochOdd = true) (targetReport x) :=
      targetReport_serves (by rw [ServesUnder, mtc, clu, odd]; exact h)
    have reported : ServesUnder False (x.epochOdd = true) (surgeReport s.osl.selected (targetReport x)) :=
      surgeReport_serves told (by simp [selected, other]) fun hs => by simp [hs.1, hs.2, cfs]
    rw [run]
    have now : (surgeReport s.osl.selected (targetReport x)).epochOdd = x.epochOdd := by
      simp [State.epochOdd]
    refine ⟨by rw [now]; exact reported.mono False.elim, by simp [now, odd, surge, slot, even],
      by simp [selected, other, surge, slot], fun ho => ?_⟩
    have hout : x.cfs.out = true := by simpa using ho
    rw [targetReport_of_out hout, surgeReport_of_out hout, clu]
    exact out (cfs ▸ hout)

/-- While SURGE is selected under an odd epoch CLU takes no target: neither the claim nor MTC changes (R41,
R97). -/
theorem targetReport_of_surge (hk : s.osl.selected = .surge) (ho : s.epochOdd = true) :
    (targetReport s).clu.state = s.clu.state ∧ (targetReport s).mtc = s.mtc := by
  unfold targetReport
  split
  · exact ⟨rfl, rfl⟩
  · split
    · rcases testClaim_state s with same | ⟨-, -, conditions⟩
      · exact ⟨same, by simp⟩
      · simp [(claimConditions_facts conditions).2.2.1] at ho
    · exact ⟨rfl, rfl⟩
    · exact ⟨rfl, rfl⟩
    · simp [hk, Slot.staged]

/-- What is served apart from a claim on its way, which the next report abandons (R55). -/
def ServesBut (s : State) : Prop :=
  Serves (if s.clu.state = .granted then .granted else .still) s.mtc.motion s.mtc.movement
    s.mtc.closureRequest True True

theorem ServesUnder.but (h : ServesUnder surge odd s) : ServesBut s := by
  unfold ServesBut
  split
  · next hc =>
    rw [ServesUnder, hc] at h
    exact (h.any_odd (.inr rfl) True).mono fun _ => trivial
  · next hc => exact ((h.resolve hc).any_odd (.inl rfl) True).mono fun _ => trivial

/-- SURGE becomes selected: MTC wants a closure, and begins it from rest (R99, R143). -/
theorem surgeSelected_serves (h : ServesBut s) : ServesBut (surgeSelected s) := by
  have wanted : Serves (if s.clu.state = .granted then .granted else .still) s.mtc.motion s.mtc.movement true
      True True := { h with request := fun _ => trivial }
  have closing := closureTest_serves (s := s.setMtc { s.mtc with closureRequest := true }) (fun _ => trivial) wanted
  simpa [ServesBut, surgeSelected] using closing

/-- A re-selection as SURGE becomes pending, outside OUT. -/
theorem reselect_serves_of_odd (h : ServesUnder surge odd s) (slot : s.osl.surge = true)
    (ho : s.epochOdd = true) (hk : s.osl.selected ≠ .surge) (out : s.cfs.out = false) :
    ServesBut (reselect s) := by
  have chosen : s.osl.choose s.levels = .surge := (choose_surge_iff _ _).2 slot
  rcases reselect_cases s with ⟨same, -⟩ | ⟨x, run, -, selected, -, mtc, clu, -, stm, cfs⟩
  · exact absurd (same ▸ chosen) hk
  · obtain ⟨state, served⟩ := targetReport_of_surge (s := x) (by rw [selected, chosen])
      (by rw [State.epochOdd, stm]; exact ho)
    have told : ServesBut (targetReport x) := by
      rw [ServesBut, state, served, clu, mtc]
      exact h.but
    have hx : x.osl.selected = .surge := selected.trans chosen
    have report : surgeReport s.osl.selected (targetReport x) = surgeSelected (targetReport x) := by
      simp [surgeReport, cfs, out, hx]
    rw [run, report]
    exact surgeSelected_serves told

/-- In OUT a re-selection tells neither CLU nor MTC (R101). -/
theorem reselect_of_out (out : s.cfs.out = true) :
    (reselect s).mtc = s.mtc ∧ (reselect s).clu = s.clu := by
  rcases reselect_cases s with ⟨-, run⟩ | ⟨x, run, -, -, -, mtc, clu, -, -, cfs⟩
  · simp [run]
  · rw [run, targetReport_of_out (cfs ▸ out), surgeReport_of_out (cfs ▸ out)]
    exact ⟨mtc, clu⟩

theorem reselect_selected (s : State) : (reselect s).osl.selected = s.osl.choose s.levels ∧
    (reselect s).osl.surge = s.osl.surge := by
  rcases reselect_cases s with ⟨same, run⟩ | ⟨x, run, -, selected, surge, -⟩
  · rw [run, same]
    exact ⟨rfl, rfl⟩
  · rw [run]
    simp [selected, surge]

/-! ### A latched fault in a re-selection -/

theorem targetReport_fault (s : State) : FaultKept s (targetReport s) := by
  by_cases hc : s.clu.state = .still
  · unfold targetReport
    split
    · exact id
    · rw [hc]
      exact (testClaim_steady s).fault
  · exact .of_free (by simp) fun hs => hs.free (.inl hc)

theorem surgeDeselected_fault (s : State) : FaultKept s (surgeDeselected s) := by
  refine .of_stopped (by simp) (by simp) fun _ still motion => ?_
  unfold surgeDeselected
  rcases motion with hm | hm <;> simp only [hm] <;> split <;> exact ⟨still, rfl⟩

theorem surgeReport_fault (before : Slot) (s : State) : FaultKept s (surgeReport before s) := by
  have selected : FaultKept s (surgeSelected s) := by
    have wanted : FaultKept s (s.setMtc { s.mtc with closureRequest := true }) :=
      .of_stopped rfl rfl fun _ still _ => ⟨still, rfl⟩
    exact fun hs => (closureTest_steady _).fault (wanted hs)
  unfold surgeReport
  split
  · exact id
  · split
    · exact selected
    · split
      · exact surgeDeselected_fault s
      · exact id

theorem reselect_fault (s : State) : FaultKept s (reselect s) := by
  rcases reselect_cases s with ⟨-, run⟩ | ⟨x, run, -, -, -, mtc, clu, fmn, -⟩
  · rw [run]
    exact id
  · have chosen : FaultKept s x :=
      .of_stopped (by rw [fmn]) (by rw [fmn]) fun _ still _ => ⟨by rw [clu, still], by rw [mtc]⟩
    rw [run]
    exact fun hs => surgeReport_fault _ _ (targetReport_fault _ (chosen hs))

/-- A re-selection under the epoch that STM holds (R93). -/
theorem reselect_steady (s : State) : Steady s (reselect s) :=
  { reselect_outputs s with
    fault := reselect_fault s
    served := fun h => by
      cases slot : s.osl.surge with
      | true =>
        have same : s.osl.choose s.levels = s.osl.selected := by
          rw [h.selected.2 slot, choose_surge_iff, slot]
        rcases reselect_cases s with ⟨-, run⟩ | ⟨x, -, other, -⟩
        · rwa [run]
        · exact absurd same other
      | false => exact reselect_served_of_even h.serves slot (by rw [← h.slot, slot]) h.out }

end

end Sys2Proof.Stagger

namespace Sys2Proof.Stagger

open Sys2Proof Sys2Proof.Machine Sys2Proof.BayLine

/-! ## A change of the surge epoch -/

section
variable {s : State} {odd : Prop}

/-- R55: the claim that SURGE found on its way is resolved ABANDONED, or its stride is stopped. -/
theorem surgeAbandon_serves (h : ServesBut s) : ServesUnder True odd (surgeAbandon s) := by
  unfold ServesBut at h
  have still (hc : s.clu.state ≠ .granted) : Serves .still s.mtc.motion s.mtc.movement
      s.mtc.closureRequest True odd := by
    rw [if_neg hc] at h
    exact h.any_odd (.inl rfl) odd
  unfold surgeAbandon
  split
  · next hc => simpa [ServesUnder, hc] using still (by simp [hc])
  · next hc => simpa [ServesUnder, resolveClaim_state] using still (by simp [hc])
  · next hc => simpa [ServesUnder, resolveClaim_state] using still (by simp [hc])
  · next hc =>
    rw [if_pos hc] at h
    have granted : ServesUnder True odd s := by
      rw [ServesUnder, hc]
      exact h.any_odd (.inr rfl) odd
    have moving := h.moving rfl
    split
    · exact abandonStop_serves granted hc
    · exact abandonStop_serves granted hc
    · exact abandonStop_serves granted hc
    · next hm =>
      have dropped := ((hm ▸ h).dropStride).any_odd (.inl rfl) odd
      simpa [ServesUnder, resolveClaim_state, hm] using dropped
    all_goals next hm => simp [hm] at moving

theorem surgeAbandon_fault (s : State) : FaultKept s (surgeAbandon s) := by
  by_cases hc : s.clu.state = .still
  · rw [show surgeAbandon s = s by simp [surgeAbandon, hc]]
    exact id
  · exact .of_free (by simp) fun hs => hs.free (.inl hc)

/-- STM has adopted the epoch, and OSL the slot of SURGE: the re-selection follows (R113, R114). -/
def epochAdopted (e : Nat) (s : State) : State :=
  let s1 := setAttention .surgeChange (s.setStm { s.stm with epoch := e })
  let s2 := s1.setClu { s1.clu with
    surgeClosure := s1.clu.surgeClosure || (e % 2 == 1 && !s1.cfs.out) }
  endClosureRow (s2.setOsl { s2.osl with surge := e % 2 == 1 })

/-- A change of the epoch: its value, with an adoption by CLU and OSL where the parity changes (R113). -/
theorem changeEpoch_eq (e : Nat) (s : State) : changeEpoch e s =
    if e = s.stm.epoch then s
    else if e % 2 = s.stm.epoch % 2 then setAttention .surgeChange (s.setStm { s.stm with epoch := e })
    else if (reselect (epochAdopted e s)).cfs.out then reselect (epochAdopted e s)
    else if (e % 2 == 1) = true then surgeAbandon (reselect (epochAdopted e s))
    else endClosureRow (testClaim (reselect (epochAdopted e s))) := rfl

section
variable (e : Nat) (s : State)

@[simp] theorem epochAdopted_frame : (epochAdopted e s).mtc = s.mtc ∧ (epochAdopted e s).fmn = s.fmn ∧
    (epochAdopted e s).clu.state = s.clu.state ∧ (epochAdopted e s).cfs = s.cfs ∧
    (epochAdopted e s).stm.epoch = e ∧ (epochAdopted e s).osl.surge = (e % 2 == 1) ∧
    (epochAdopted e s).osl.selected = s.osl.selected ∧ (epochAdopted e s).pins = s.pins := by
  simp [epochAdopted, endClosureRow]

theorem epochAdopted_odd : (epochAdopted e s).epochOdd = (e % 2 == 1) := by
  simp [State.epochOdd]

end

/-- The slot of SURGE becomes pending: outside OUT it is selected, and what SURGE found is abandoned. -/
theorem surgePending_served {e : Nat} (h : Served s) (even : s.epochOdd = false) (ho : e % 2 = 1)
    (out : s.cfs.out = false) : Served (surgeAbandon (reselect (epochAdopted e s))) := by
  obtain ⟨mtc, fmn, clu, cfs, epoch, slot, selected, -⟩ := epochAdopted_frame e s
  have odd := epochAdopted_odd e s
  rw [beq_iff_eq.2 ho] at slot odd
  have other : (epochAdopted e s).osl.selected ≠ .surge := by
    rw [selected, Ne, h.selected, h.slot, even]
    simp
  have adopted : ServesUnder (SurgeServed s) (s.epochOdd = true) (epochAdopted e s) := by
    rw [ServesUnder, mtc, clu]
    exact h.serves
  have told := reselect_serves_of_odd adopted slot odd other (by rw [cfs, out])
  obtain ⟨chosen, pending⟩ := reselect_selected (epochAdopted e s)
  rw [(choose_surge_iff _ _).2 slot] at chosen
  have odd' : (surgeAbandon (reselect (epochAdopted e s))).epochOdd = true := by
    simpa [State.epochOdd] using odd
  have surge : SurgeServed (surgeAbandon (reselect (epochAdopted e s))) := by
    simp [SurgeServed, chosen, out]
  exact {
    serves := Serves.mono (surgeAbandon_serves told) fun _ => surge
    slot := by simp [odd', ho]
    selected := by simp [chosen, ho]
    out := fun hout => by simp [out] at hout }

/-- In OUT the adoption of an epoch reaches neither CLU nor MTC (R101). -/
theorem epochAdopted_served_of_out {e : Nat} (h : Served s) (out : s.cfs.out = true) :
    Served (reselect (epochAdopted e s)) := by
  obtain ⟨mtc, -, clu, cfs, -, slot, -, -⟩ := epochAdopted_frame e s
  obtain ⟨mtc', clu'⟩ := reselect_of_out (s := epochAdopted e s) (by rw [cfs, out])
  obtain ⟨chosen, pending⟩ := reselect_selected (epochAdopted e s)
  have still : (reselect (epochAdopted e s)).clu.state = .still := by rw [clu', clu, h.out out]
  have serves := h.serves.any_odd (.inl (h.out out)) ((reselect (epochAdopted e s)).epochOdd = true)
  exact {
    serves := by
      rw [ServesUnder, still, mtc', mtc]
      exact (h.out out ▸ serves).mono fun hs => by simp [hs.2] at out
    slot := by
      rw [pending, slot, ← epochAdopted_odd e s]
      simp [State.epochOdd]
    selected := by rw [chosen, pending, choose_surge_iff]
    out := fun _ => still }

theorem epochAdopted_served_of_even {e : Nat} (h : Served s) (he : e % 2 = 0) :
    Served (endClosureRow (testClaim (reselect (epochAdopted e s)))) := by
  obtain ⟨mtc, -, clu, cfs, -, slot, selected, -⟩ := epochAdopted_frame e s
  have odd := epochAdopted_odd e s
  rw [beq_eq_false_iff_ne.2 (by omega)] at slot odd
  have surge : SurgeServed (epochAdopted e s) ↔ SurgeServed s := by
    rw [SurgeServed, SurgeServed, selected, cfs]
  refine (endClosureRow_steady _).served ((testClaim_steady _).served (reselect_served_of_even ?_ slot odd ?_))
  · rw [ServesUnder, clu, mtc, propext surge, odd]
    exact { h.serves with waiting := fun hc => ⟨(h.serves.waiting hc).1, by simp⟩ }
  · rw [cfs, clu]
    exact h.out

theorem epochAdopted_fault (e : Nat) (s : State) : FaultKept s (epochAdopted e s) := by
  obtain ⟨mtc, fmn, clu, -⟩ := epochAdopted_frame e s
  exact .of_stopped (by rw [fmn]) (by rw [fmn]) fun _ still _ => ⟨clu ▸ still, by rw [mtc]⟩

theorem changeEpoch_steady (e : Nat) (s : State) : Steady s (changeEpoch e s) := by
  have chosen : FaultKept s (reselect (epochAdopted e s)) := fun hs =>
    reselect_fault _ (epochAdopted_fault e s hs)
  have tested (t : State) : Steady t (endClosureRow (testClaim t)) :=
    (testClaim_steady t).trans (endClosureRow_steady _)
  refine { changeEpoch_outputs s e with fault := ?_, served := fun h => ?_ }
  · rw [changeEpoch_eq]
    split
    · exact id
    · split
      · exact .of_stopped (by simp) (by simp) fun _ still _ => ⟨still, rfl⟩
      · split
        · exact chosen
        · split
          · exact fun hs => surgeAbandon_fault _ (chosen hs)
          · exact fun hs => (tested _).fault (chosen hs)
  · rw [changeEpoch_eq]
    split
    · exact h
    · next he =>
      split
      · next parity =>
        exact ⟨by simpa [ServesUnder, SurgeServed, State.epochOdd, parity] using h.serves,
          by simpa [State.epochOdd, parity] using h.slot, by simpa using h.selected, by simpa using h.out⟩
      · next parity =>
        have cfs : (reselect (epochAdopted e s)).cfs = s.cfs := by simp
        rw [cfs]
        split
        · next out => exact epochAdopted_served_of_out h out
        · next out =>
          split
          · next ho =>
            have odd : e % 2 = 1 := by simpa using ho
            exact surgePending_served h (by simp [State.epochOdd]; omega) odd (by simpa using out)
          · next ho => exact epochAdopted_served_of_even h (by simp at ho; omega)

end

end Sys2Proof.Stagger

namespace Sys2Proof.Stagger

open Sys2Proof Sys2Proof.Machine Sys2Proof.BayLine

/-! ## Operations that reach neither the gate nor the claim -/

section
variable (s : State)

theorem setLif_steady (x : Lif) : Steady s (s.setLif x) :=
  Untouched.steady ⟨rfl, rfl, rfl, rfl, ⟨rfl, rfl, rfl, rfl⟩, rfl⟩
theorem setPtb_steady (x : Ptb) : Steady s (s.setPtb x) :=
  Untouched.steady ⟨rfl, rfl, rfl, rfl, ⟨rfl, rfl, rfl, rfl⟩, rfl⟩
theorem setShu_steady (x : Shu) : Steady s (s.setShu x) :=
  Untouched.steady ⟨rfl, rfl, rfl, rfl, ⟨rfl, rfl, rfl, rfl⟩, rfl⟩
theorem setLpt_steady (x : Lpt) : Steady s (s.setLpt x) :=
  Untouched.steady ⟨rfl, rfl, rfl, rfl, ⟨rfl, rfl, rfl, rfl⟩, rfl⟩
theorem setAct_steady (x : Act) : Steady s (s.setAct x) :=
  Untouched.steady ⟨rfl, rfl, rfl, rfl, ⟨rfl, rfl, rfl, rfl⟩, rfl⟩
theorem setPending_steady (q : List Instr) : Steady s (s.setPending q) :=
  Untouched.steady ⟨rfl, rfl, rfl, rfl, ⟨rfl, rfl, rfl, rfl⟩, rfl⟩

/-- Every word of OSL but the selection and the slot of SURGE. -/
theorem setOsl_steady {x : Osl} (hk : x.selected = s.osl.selected := by exact rfl)
    (hs : x.surge = s.osl.surge := by exact rfl) : Steady s (s.setOsl x) :=
  Untouched.steady ⟨rfl, rfl, rfl, rfl, ⟨hk, hs, rfl, rfl⟩, rfl⟩

theorem setStm_steady {x : Stm} (he : x.epoch = s.stm.epoch := by exact rfl) : Steady s (s.setStm x) :=
  Untouched.steady ⟨rfl, rfl, rfl, rfl, ⟨rfl, rfl, he, rfl⟩, rfl⟩

theorem setClu_steady {x : Clu} (hc : x.state = s.clu.state := by exact rfl) : Steady s (s.setClu x) :=
  Untouched.steady ⟨rfl, rfl, rfl, hc, ⟨rfl, rfl, rfl, rfl⟩, rfl⟩

theorem setFmn_steady {x : Fmn} (hc : x.causes = s.fmn.causes := by exact rfl)
    (hl : x.faultLine = s.fmn.faultLine := by exact rfl) : Steady s (s.setFmn x) :=
  Untouched.steady ⟨rfl, hc, hl, rfl, ⟨rfl, rfl, rfl, rfl⟩, rfl⟩

theorem setCfs_steady {x : Cfs} (ho : x.out = s.cfs.out := by exact rfl) : Steady s (s.setCfs x) :=
  Untouched.steady ⟨rfl, rfl, rfl, rfl, ⟨rfl, rfl, rfl, ho⟩, rfl⟩

theorem setPins_steady {x : Pins} (hp : x.holdIn = s.pins.holdIn := by exact rfl) : Steady s (s.setPins x) :=
  Untouched.steady ⟨rfl, rfl, rfl, rfl, ⟨rfl, rfl, rfl, rfl⟩, hp⟩

theorem updateEntry_steady (b : Nat) (f : Entry → Entry) : Steady s (s.updateEntry b f) :=
  setPtb_steady s _

theorem setAttention_steady (c : AttnCause) : Steady s (setAttention c s) := by
  simpa [setAttention] using setAct_steady s _
theorem countEvent_steady (e : CountedEvent) : Steady s (countEvent e s) := setAct_steady s _
theorem handOverSamples_steady (v : SampleValues) : Steady s (handOverSamples v s) := setAct_steady s _
theorem queueSurge_steady (e : Nat) : Steady s (queueSurge e s) := setLif_steady s _
theorem queueVerdict_steady (v : VerdictContent) : Steady s (queueVerdict v s) := setLif_steady s _
theorem queueOrder_steady (c : OrderContent) : Steady s (queueOrder c s) := setLif_steady s _
theorem dueStatusA_steady : Steady s (dueStatusA s) := setLif_steady s _
theorem dueStatusB_steady : Steady s (dueStatusB s) := setLif_steady s _

theorem startStatuses_steady : Steady s (startStatuses s) :=
  (dueStatusA_steady s).trans <| (dueStatusB_steady _).trans (setLif_steady _ _)

theorem restartRepeat_steady : Steady s (restartRepeat s) := setLif_steady s _
theorem withdrawClaim_steady : Steady s (withdrawClaim s) := setLif_steady s _
theorem startBackoff_steady : Steady s (startBackoff s) := setClu_steady s
theorem captureRest_steady : Steady s (captureRest s) := setOsl_steady s

theorem evalService_steady : Steady s (evalService s) :=
  Untouched.steady (by simp [Untouched, SameContext])

theorem chooseSources_steady : Steady s (chooseSources s) := by
  unfold chooseSources
  dsimp only
  split
  · exact .refl s
  · split
    · exact (setStm_steady s).trans (setAttention_steady _ _)
    · exact setStm_steady s

theorem settleNow_steady : Steady s (settleNow s) := setStm_steady s

theorem reportUnknown_steady : Steady s (reportUnknown s) := .ite (setAttention_steady s _)

theorem listenStart_steady : Steady s (listenStart s) := (setPtb_steady s _).trans (evalService_steady _)

theorem listenEnd_steady : Steady s (listenEnd s) :=
  (setPtb_steady s _).trans <| (evalService_steady _).trans <| (reportUnknown_steady _).trans
    (testClaim_steady _)

/-! ## Targets and shares -/

theorem targetReport_steady : Steady s (targetReport s) :=
  { targetReport_outputs s with
    fault := targetReport_fault s
    served := fun h => h.of_context (by simp [SameContext]) (targetReport_serves h.serves) fun ho still => by
      rwa [targetReport_of_out ho] }

theorem setTidalSlot_steady (b : Bool) : Steady s (setTidalSlot b s) := by
  unfold setTidalSlot
  split
  · exact .refl s
  · exact (setOsl_steady s).trans (reselect_steady _)

/-- A slot's new target is reported while the slot is selected (R98). -/
theorem setTarget_steady {x : Osl} {p : Prop} [Decidable p] (hk : x.selected = s.osl.selected)
    (hs : x.surge = s.osl.surge) : Steady s (if p then targetReport (s.setOsl x) else s.setOsl x) := by
  split
  · exact (setOsl_steady s hk hs).trans (targetReport_steady _)
  · exact setOsl_steady s hk hs

theorem handWeir_steady (share : Nat) : Steady s (handWeir share s) := by
  unfold handWeir
  dsimp only
  split
  · exact (setOsl_steady s).trans (reselect_steady _)
  · split
    · exact .refl s
    · exact setTarget_steady s rfl rfl

theorem setLocal_steady (target : Nat) : Steady s (setLocal target s) := by
  unfold setLocal
  dsimp only
  split
  · exact (setOsl_steady s).trans (reselect_steady _)
  · split
    · exact .refl s
    · exact setTarget_steady s rfl rfl

theorem runShares_steady (adoption : Bool) : Steady s (runShares adoption s) := by
  unfold runShares
  split
  · exact .refl s
  · dsimp only
    split
    · exact (setShu_steady s _).trans <| (setShu_steady _ _).trans (handWeir_steady _ _)
    · exact setShu_steady s _

theorem shareReport_steady : Steady s (shareReport s) := by
  unfold shareReport
  split
  · exact .refl s
  · exact runShares_steady s false

theorem openingReport_steady (b opening : Nat) : Steady s (openingReport b opening s) := by
  unfold openingReport
  split
  · exact .refl s
  · split
    · exact .refl s
    · exact (shareReport_steady s).ite

theorem weightReport_steady (b : Nat) : Steady s (weightReport b s) := by
  unfold weightReport
  split
  · exact .refl s
  · exact (shareReport_steady s).ite

theorem takeOrder_steady (b : Nat) (c : OrderContent) : Steady s (takeOrder b c s) := by
  unfold takeOrder
  split
  · exact .refl s
  · exact (setShu_steady s _).trans <| (setAttention_steady _ _).trans <| (restartRepeat_steady _).trans
      (runShares_steady _ true)

/-! ## The epoch -/

theorem raiseEpoch_steady : Steady s (raiseEpoch s) := by
  unfold raiseEpoch
  split
  · exact .refl s
  · exact (changeEpoch_steady _ s).trans (queueSurge_steady _ _)

theorem raiseTests_steady : Steady s (raiseTests s) := by
  unfold raiseTests
  dsimp only
  split
  · exact .refl s
  · exact (raiseEpoch_steady s).ite.trans (raiseEpoch_steady _).ite

theorem clearEpoch_steady : Steady s (clearEpoch s) :=
  .ite <| (changeEpoch_steady _ s).trans <| (queueSurge_steady _ _).trans (raiseTests_steady _)

theorem adoptEpoch_steady (e : Nat) : Steady s (adoptEpoch e s) := by
  unfold adoptEpoch
  split
  · exact .refl s
  · exact (changeEpoch_steady e s).trans (raiseTests_steady _).ite

theorem surgeFromPeer_steady (e : Nat) : Steady s (surgeFromPeer e s) := by
  unfold surgeFromPeer
  split
  · exact (adoptEpoch_steady s e).ite
  · exact (settleNow_steady s).trans (adoptEpoch_steady _ e)

theorem surgeFromSelf_steady (e : Nat) : Steady s (surgeFromSelf e s) := (adoptEpoch_steady s e).ite

theorem epochFromStatus_steady (e : Nat) (senderFresh : Bool) : Steady s (epochFromStatus e senderFresh s) := by
  unfold epochFromStatus
  split
  · exact (adoptEpoch_steady s e).ite
  · exact (settleNow_steady s).trans (adoptEpoch_steady _ e)

/-! ## Peers -/

theorem heard_steady (b : Nat) : Steady s (heard b s) := by
  unfold heard
  split
  · exact .refl s
  · have shared : Steady s (shareReport (s.updateEntry b Entry.heard)) :=
      (updateEntry_steady s b _).trans (shareReport_steady _)
    dsimp only
    split
    · exact updateEntry_steady s b _
    · split
      · exact shared
      · exact updateEntry_steady s b _
      · exact shared.trans (chooseSources_steady _)
      · exact shared.trans (chooseSources_steady _)

theorem takeStatusA_steady (b : Nat) (c : StatusA) : Steady s (takeStatusA b c s) := by
  unfold takeStatusA
  split
  · exact .refl s
  · exact (updateEntry_steady s b _).trans <| (shareReport_steady _).ite.trans <|
      (openingReport_steady _ _ _).ite.trans <| (testClaim_steady _).ite.trans (listenEnd_steady _).ite

theorem takeStatusB_steady (b : Nat) (c : StatusB) : Steady s (takeStatusB b c s) := by
  unfold takeStatusB
  split
  · exact .refl s
  · dsimp only
    split
    · exact updateEntry_steady s b _
    · exact (updateEntry_steady s b _).trans <| (epochFromStatus_steady _ _ _).trans <|
        (weightReport_steady _ _).ite.trans (chooseSources_steady _).ite

theorem writeBound_steady (b : Nat) (x : Span) : Steady s (writeBound b x s) := by
  unfold writeBound
  dsimp only
  split
  · exact updateEntry_steady s b _
  · exact (updateEntry_steady s b _).trans (testClaim_steady _)

theorem judgeClaim_steady (b : Nat) (c : ClaimContent) : Steady s (judgeClaim b c s) :=
  (updateEntry_steady s b _).trans <| (writeBound_steady _ _ _).ite.trans (queueVerdict_steady _ _)

theorem takeClaim_steady (b : Nat) (c : ClaimContent) : Steady s (takeClaim b c s) := by
  unfold takeClaim
  split
  · exact .refl s
  · split
    · split
      · exact queueVerdict_steady s _
      · exact judgeClaim_steady s b c
    · exact judgeClaim_steady s b c

theorem ownStatusA_steady (c : StatusA) : Steady s (ownStatusA c s) := by
  have taken : Steady s ((takeOwnStatusA c s).setLif { (takeOwnStatusA c s).lif with sinceStatusA := some 0 }) :=
    (updateEntry_steady s _ _).trans (setLif_steady _ _)
  unfold ownStatusA
  dsimp only
  split
  · exact taken.trans <| (setClu_steady _).trans (testClaim_steady _)
  · exact taken

theorem lineOn_steady : Steady s (lineOn s) :=
  .ite <| (setLif_steady s _).trans <| (setFmn_steady _).trans (testClaim_steady _)

end

end Sys2Proof.Stagger

namespace Sys2Proof.Stagger

open Sys2Proof Sys2Proof.Machine Sys2Proof.BayLine

/-! ## Stops of the gate -/

section
variable {s t : State} {m : Motion} {c : ClaimState} {v : Option Movement} {q : Bool} {surge odd : Prop}

/-- A trim ends in FAULT_STOP (R161). -/
theorem Serves.halt (h : Serves c .trim v q surge odd) : Serves c .faultStop none q surge odd := by
  cases h
  constructor <;> grind [Motion.atRest]

/-- A pending claim is granted and MTC takes its stride (R48, R140). -/
theorem Serves.grant (h : Serves .pending m v q surge odd) : Serves .granted .priming (some .stride) q surge odd := by
  cases h
  constructor <;> grind

/-- The station's own CLAIM has been sent (R44). -/
theorem Serves.pend (h : Serves .asking m v q surge odd) : Serves .pending m v q surge odd := by
  cases h
  constructor <;> grind

/-- MTC has stopped and the claim is STILL. -/
theorem Served.of_stop (h : Served s) (k : SameContext s t) (still : t.clu.state = .still)
    (motion : t.mtc.motion = .faultStop) (wanted : t.mtc.closureRequest = s.mtc.closureRequest) : Served t := by
  refine h.of_context k ?_ fun _ _ => still
  rw [ServesUnder, still, motion, wanted]
  exact .idle (by simp) h.serves.request

theorem FaultKept.of_stop (hc : t.fmn.causes = s.fmn.causes) (hl : t.fmn.faultLine = s.fmn.faultLine)
    (still : t.clu.state = .still) (motion : t.mtc.motion = .faultStop) : FaultKept s t := by
  intro hs
  rw [faultStopped_iff] at hs ⊢
  rw [hc, hl]
  exact ⟨hs.1, fun _ => ⟨still, .inl motion⟩⟩

/-- A claim that is not granted is resolved with no word to MTC (R50). -/
theorem resolveClaim_steady (o : ClaimOutcome) (hc : s.clu.state ≠ .granted) : Steady s (resolveClaim o s) := by
  obtain ⟨still, -⟩ := resolveClaim_state o s
  refine { resolveClaim_outputs s o with
    fault := .of_stopped (by simp) (by simp) fun _ _ _ => ⟨still, by simp⟩
    served := fun h => h.of_context (by simp [SameContext]) ?_ fun _ _ => still }
  simpa [ServesUnder, still] using h.serves.resolve hc

end

section
variable (s : State)

@[simp] theorem enterFaultStop_motion : (enterFaultStop s).mtc.motion = .faultStop := by
  simp [enterFaultStop, Mtc.faultStop]
@[simp] theorem enterFaultStop_closureRequest :
    (enterFaultStop s).mtc.closureRequest = s.mtc.closureRequest := by
  simp [enterFaultStop, Mtc.faultStop]
@[simp] theorem enterFaultStop_movement :
    (enterFaultStop s).mtc.movement = none := by
  simp [enterFaultStop, Mtc.faultStop]

/-- A trim ends, with its cause still latched (R161). -/
theorem endTrim_steady (hm : s.mtc.motion = .trim) : Steady s (endTrim s) :=
  { enterFaultStop_outputs s with
    fault := fun hs => by
      rw [faultStopped_iff] at hs ⊢
      simp only [endTrim, enterFaultStop_frame, enterFaultStop_motion]
      exact ⟨hs.1, fun hc => ⟨(hs.2 hc).1, .inl trivial⟩⟩
    served := fun h => h.of_context (by simp [endTrim, SameContext]) (by
      have serves := h.serves
      rw [ServesUnder, hm] at serves
      simpa [endTrim, ServesUnder] using serves.halt) fun _ still => by simpa [endTrim] using still }

theorem stopForCondition_steady : Steady s (stopForCondition s) := by
  refine { stopForCondition_outputs s with fault := ?_, served := fun h => ?_ }
  all_goals unfold stopForCondition
  · split
    · exact id
    · exact .of_stop (by simp) (by simp) (abandonClaim_state _) (by simp)
  · split
    · exact h
    · exact h.of_stop (by simp [SameContext]) (abandonClaim_state _) (by simp) (by simp)

theorem conditionEnds_steady : Steady s (conditionEnds s) := by
  unfold conditionEnds
  split
  · exact .refl s
  · exact closureTest_steady s

theorem takeHold_steady : Steady s (takeHold s) :=
  (setFmn_steady s).trans <| (stopForCondition_steady _).trans (evalService_steady _)

theorem takeSupplyLow_steady : Steady s (takeSupplyLow s) :=
  (setFmn_steady s).trans (stopForCondition_steady _)

/-! ## Faults -/

theorem firstFault_steady (c : Cause) : Steady s (firstFault c s) := by
  have fmn := firstFault_fmn c s
  have still := firstFault_state c s
  have motion : (firstFault c s).mtc.motion = .faultStop := by rw [firstFault_mtc]; rfl
  refine { firstFault_outputs s c with
    fault := fun _ => (faultStopped_iff _).2 ⟨?_, fun _ => ⟨still, .inl motion⟩⟩
    served := fun h => h.of_stop (by simp [SameContext, firstFault]) still motion (by rw [firstFault_mtc]; rfl) }
  rw [fmn]
  simp [add_ne_noCauses]

/-- A later fault finds the gate stopped, or ends its trim (R161, R168). -/
theorem secondFault_steady (c : Cause) (hc : s.fmn.causes ≠ noCauses) : Steady s (secondFault c s) := by
  have fmn := secondFault_fmn c s
  have clu : (secondFault c s).clu = s.clu := by simp
  have mtc := secondFault_mtc c s
  refine { secondFault_outputs s c with fault := fun hs => ?_, served := fun h => ?_ }
  · rw [faultStopped_iff] at hs ⊢
    obtain ⟨line, stopped⟩ := hs
    obtain ⟨still, motion⟩ := stopped hc
    refine ⟨?_, fun _ => ⟨clu ▸ still, .inl ?_⟩⟩
    · rw [fmn]
      simp [add_ne_noCauses, line.2 hc]
    · rw [mtc]
      split
      · rfl
      · next ht => exact motion.resolve_right fun m => ht m.1
  · refine h.of_context (by simp [SameContext]) ?_ fun _ => clu ▸ id
    have serves := h.serves
    rw [ServesUnder] at serves ⊢
    rw [clu, mtc]
    split
    · next ht => exact Serves.halt (v := s.mtc.movement) (ht ▸ serves)
    · exact serves

theorem reportFault_steady (c : Cause) : Steady s (reportFault c s) := by
  unfold reportFault
  split
  · exact .refl s
  · split
    · exact firstFault_steady s c
    · next h => exact secondFault_steady s c (by simpa [BayLine.isEmpty_iff] using h)

theorem reportIf_steady (p : Bool) (c : Cause) : Steady s (reportIf p c s) := .ite (reportFault_steady s c)

/-- The causes are cleared, and MTC leaves its stop (R173). -/
theorem clearFaults_steady : Steady s (clearFaults s) := by
  have rest (t : State) : Steady t (testClaim (evalService t)) :=
    (evalService_steady t).trans (testClaim_steady _)
  have cleared : OutputsKept s (s.setFmn { s.fmn with causes := noCauses, faultLine := false }) :=
    .of_mtc rfl rfl
  have context (h : Served s) : Served (s.setFmn { s.fmn with causes := noCauses, faultLine := false }) :=
    h.of_context ⟨rfl, rfl, rfl, rfl⟩ h.serves fun _ => id
  constructor
  · unfold clearFaults
    dsimp only
    split
    · exact cleared.trans <| (enterStopped_outputs _).trans (rest _).toOutputsKept
    · exact cleared.trans (rest _).toOutputsKept
  · intro _
    have fmn : (clearFaults s).fmn.causes = noCauses ∧ (clearFaults s).fmn.faultLine = false := by
      unfold clearFaults
      dsimp only
      split <;> simp
    rw [faultStopped_iff, fmn.1, fmn.2]
    simp
  · intro h
    unfold clearFaults
    dsimp only
    split
    · next hm =>
      simp only [Bool.or_eq_true, decide_eq_true_eq] at hm
      exact (rest _).served (enterStopped_served (context h) (.inr hm))
    · exact (rest _).served (context h)

/-! ## The own claim and the verdicts -/

@[simp] theorem startSequence_movement (w : Words) (m : Mtc) : (m.startSequence w).movement = m.movement := by
  unfold Mtc.startSequence
  split <;> rfl
@[simp] theorem startSequence_closureRequest (w : Words) (m : Mtc) :
    (m.startSequence w).closureRequest = m.closureRequest := by
  unfold Mtc.startSequence
  split <;> rfl
@[simp] theorem startSequence_motion (w : Words) (m : Mtc) : (m.startSequence w).motion = .priming := by
  unfold Mtc.startSequence
  split <;> rfl

/-- The claim stands granted, and its stride is to be handed on (R48). -/
def granting : State := countEvent .claimGranted (s.setClu { s.clu with state := .granted, window := none })

/-- A grant hands MTC a stride, or releases the claim at once (R48). -/
theorem grantClaim_cases :
    (∃ limits e, grantClaim s = handStride limits e (granting s)) ∨
      grantClaim s = resolveClaim .granted (granting s) := by
  unfold grantClaim
  dsimp only
  split
  · exact .inl ⟨_, _, rfl⟩
  · exact .inr rfl

theorem grantClaim_steady (hc : s.clu.state = .pending) : Steady s (grantClaim s) := by
  have counted : OutputsKept s (granting s) := .of_mtc (by simp [granting]) (by simp [granting])
  have serves (h : Served s) : Serves .pending s.mtc.motion s.mtc.movement s.mtc.closureRequest
      (SurgeServed s) (s.epochOdd = true) := hc ▸ h.serves
  have running (h : Served s) (ho : s.cfs.out = true) : False := by simp [h.out ho] at hc
  have free : FaultKept s (grantClaim s) := .of_free (by simp) fun hs => hs.free (.inl (by simp [hc]))
  rcases grantClaim_cases s with ⟨limits, e, run⟩ | run
  · refine { fault := free, toOutputsKept := run ▸ counted.trans (handStride_outputs _ _ _), served := fun h => ?_ }
    rw [run]
    refine h.of_context (by simp [SameContext, granting]) ?_ fun ho => (running h ho).elim
    simpa [ServesUnder, granting, handStride] using (serves h).grant
  · refine { fault := free, toOutputsKept := run ▸ counted.trans (resolveClaim_outputs _ _), served := fun h => ?_ }
    obtain ⟨still, -⟩ := resolveClaim_state .granted (granting s)
    rw [run]
    refine h.of_context (by simp [SameContext, granting]) ?_ fun ho => (running h ho).elim
    rw [ServesUnder, still]
    simpa [granting] using (serves h).resolve (by simp)

theorem demurClaim_steady (hc : s.clu.state = .pending) : Steady s (demurClaim s) :=
  (resolveClaim_steady _ (by simp [hc])).trans <| (countEvent_steady _ _).trans (startBackoff_steady _)

theorem applyVerdicts_steady (hc : s.clu.state = .pending) : Steady s (applyVerdicts s) := by
  unfold applyVerdicts
  split
  · exact demurClaim_steady s hc
  · exact .ite (grantClaim_steady s hc)

/-- An ASKING claim becomes PENDING (R44). -/
theorem pending_steady {x : Clu} (hc : s.clu.state = .asking) (hx : x.state = .pending) :
    Steady s (s.setClu x) :=
  { OutputsKept.of_mtc rfl rfl with
    fault := .of_free rfl fun hs => hs.free (.inl (by simp [hc]))
    served := fun h => h.of_context ⟨rfl, rfl, rfl, rfl⟩ (by
      have serves := h.serves
      rw [ServesUnder, hc] at serves
      simpa [ServesUnder, hx] using serves.pend) fun _ still => by simp [hc] at still }

theorem takeOwnClaim_steady (c : ClaimContent) : Steady s (takeOwnClaim c s) := by
  unfold takeOwnClaim
  split
  · next h =>
    simp only [Bool.and_eq_true, decide_eq_true_eq] at h
    exact (pending_steady s h.1 rfl).trans <| (countEvent_steady _ _).trans (applyVerdicts_steady _ (by simp))
  · exact .refl s

theorem recordVerdict_steady (b : Nat) (v : Verdict) : Steady s (recordVerdict b v s) := by
  unfold recordVerdict
  dsimp only
  split <;> exact setClu_steady s

theorem takeVerdict_steady (b : Nat) (c : VerdictContent) : Steady s (takeVerdict b c s) := by
  have state (v : Verdict) : (recordVerdict b v s).clu.state = s.clu.state := by
    unfold recordVerdict
    dsimp only
    split <;> rfl
  unfold takeVerdict
  split
  · exact .refl s
  · split
    · exact countEvent_steady s _
    · split
      · exact countEvent_steady s _
      · split
        · exact .refl s
        · next hc =>
          have pending : s.clu.state = .pending := by simpa using hc
          split
          · exact .refl s
          · split
            · exact .refl s
            · exact (recordVerdict_steady s b _).trans (applyVerdicts_steady _ ((state _).trans pending))

/-- R57: a granted stride is stopped, and any other claim resolved. -/
theorem claimLineOff_steady : Steady s (claimLineOff s) := by
  unfold claimLineOff
  split
  · exact .refl s
  · next hc => exact resolveClaim_steady _ (by simp [hc])
  · next hc => exact resolveClaim_steady _ (by simp [hc])
  · next hc =>
    exact { abandonStop_outputs s with
      fault := .of_free (by simp) fun hs => hs.free (.inl (by simp [hc]))
      served := fun h => h.of_context (by simp [SameContext]) (abandonStop_serves h.serves hc) fun _ still => by
        simp [hc] at still }

end

end Sys2Proof.Stagger

namespace Sys2Proof.Stagger

open Sys2Proof Sys2Proof.Machine Sys2Proof.BayLine

/-! ## The drives -/

section
variable (w : Words) (m : Mtc) (h : Hoist)

/-- A loop's drive lies within ±1000 (R150). -/
theorem loopDrive_le (e : Int) : (loopDrive w e).natAbs ≤ 1000 := by
  unfold loopDrive
  split
  · simp
  · have sign : e.sign.natAbs ≤ 1 := by rw [Int.natAbs_sign]; split <;> omega
    rw [Int.natAbs_mul, Int.natAbs_natCast]
    calc e.sign.natAbs * min 1000 _ ≤ 1 * 1000 := Nat.mul_le_mul sign (Nat.min_le_left _ _)
      _ = 1000 := rfl

theorem driveOf_le (e : Option Int) : (driveOf w e).natAbs ≤ 1000 := by
  cases e with
  | none => simp [driveOf]
  | some e => exact loopDrive_le w e

theorem trimDrive_le : (m.trimDrive w h).natAbs ≤ 1000 := by
  unfold Mtc.trimDrive
  split
  · simp
  · split
    · exact driveOf_le w _
    · simp

theorem driveFor_le : (m.driveFor w h).natAbs ≤ 1000 := by
  unfold Mtc.driveFor
  split
  · split
    · simp
    · exact driveOf_le w _
  · split
    · exact trimDrive_le w m h
    · simp

/-- Where no loop runs no hoist is driven (R139). -/
theorem driveFor_of_still (hl : loopsRun m.motion m.phase = false) : m.driveFor w h = 0 := by
  have both : m.motion.bothLoops = false := by
    cases hm : m.motion <;> simp [hm, loopsRun] at hl <;> rfl
  have moves : m.trimMoves = false := by
    rw [← Bool.not_eq_true, Mtc.trimMoves, Bool.and_eq_true, beq_iff_eq, beq_iff_eq]
    rintro ⟨motion, phase⟩
    simp [motion, phase, loopsRun] at hl
  simp [Mtc.driveFor, both, moves]

/-- A trim drives the hoist it trims alone (R160). -/
theorem driveFor_of_trim (hm : m.trimMoves = true) : m.driveFor w h = 0 ∨ trims m h := by
  have both : m.motion.bothLoops = false := by
    simp only [Mtc.trimMoves, Bool.and_eq_true, beq_iff_eq] at hm
    rw [hm.1]
    rfl
  cases ht : m.trim with
  | none => exact .inl (by simp [Mtc.driveFor, both, hm, Mtc.trimDrive, ht])
  | some t =>
    by_cases hh : t.hoist = h
    · exact .inr (by simp [trims, ht, hh])
    · exact .inl (by simp [Mtc.driveFor, both, hm, Mtc.trimDrive, ht, hh])

end

section
variable (s : State)

/-- Step 6 of R162: the drives are computed anew, each within its range. -/
theorem computeDrives_outputs : OutputsKept s (computeDrives s) where
  outputs h := by
    rw [outputsOk_iff] at h ⊢
    refine ⟨h.1, fun hl => ?_⟩
    have still (k : Hoist) := driveFor_of_still s.cfs.working s.mtc k hl
    simp [computeDrives, still]
  drives _ := by
    rw [drivesOk_iff]
    simp only [computeDrives, State.setMtc_mtc]
    constructor <;> split <;> simp [driveFor_le]
  hold _ := by
    rw [holdDrivesOk_iff]
    intro hp
    have pin : s.pins.holdIn = true := hp
    simp [computeDrives, pin]
  trim _ _ := by
    rw [trimDrivesOk_iff]
    intro hm
    have one (k : Hoist) (hd : Int) (h : hd = if s.pins.holdIn then 0 else s.mtc.driveFor s.cfs.working k) :
        hd = 0 ∨ trims s.mtc k := by
      rw [h]
      split
      · exact .inl rfl
      · exact driveFor_of_trim _ _ k hm
    exact ⟨one .left _ rfl, one .right _ rfl⟩

theorem computeDrives_steady : Steady s (computeDrives s) :=
  { computeDrives_outputs s with
    fault := .of_stopped rfl rfl fun _ still _ => ⟨still, rfl⟩
    served := fun h => h.of_context ⟨rfl, rfl, rfl, rfl⟩ h.serves fun _ => id }

/-! ## The steps of a servo sample -/

/-- A record with the same outputs, movement and request. -/
def SameService (m n : Mtc) : Prop :=
  SameOutputs m n ∧ n.movement = m.movement ∧ n.closureRequest = m.closureRequest

theorem setMtc_steady {m : Mtc}
    (h : SameService s.mtc m := by exact ⟨⟨rfl, rfl, rfl, rfl, rfl, rfl, rfl⟩, rfl, rfl⟩) : Steady s (s.setMtc m) :=
  .of_setMtc h.1 h.2.1 h.2.2

theorem SameService.refl (m : Mtc) : SameService m m := ⟨⟨rfl, rfl, rfl, rfl, rfl, rfl, rfl⟩, rfl, rfl⟩

theorem evalSkewHold_same (w : Words) (m : Mtc) : SameService m (m.evalSkewHold w) := by
  unfold Mtc.evalSkewHold
  split
  · exact .refl m
  · split
    · split
      · exact .refl m
      · exact .refl m
    · split
      · exact ⟨⟨rfl, rfl, rfl, rfl, rfl, rfl, rfl⟩, rfl, rfl⟩
      · exact .refl m

theorem advanceTrim_same (w : Words) (m : Mtc) : SameService m (m.advanceTrim w) := by
  unfold Mtc.advanceTrim
  split
  · exact .refl m
  · next t ht => exact ⟨⟨rfl, rfl, rfl, rfl, rfl, rfl, by simp [ht, Trim.advance]⟩, rfl, rfl⟩

theorem countRead_steady (c : Channel) : Steady s (countRead c s) := .ite (countEvent_steady s _)

theorem readEncoders_steady (l r : EncoderRead) : Steady s (readEncoders l r s) :=
  (setMtc_steady s).trans <| (countRead_steady _ _).trans <| (countRead_steady _ _).trans <|
    (reportIf_steady _ _ _).trans (reportIf_steady _ _ _)

theorem sampleTests_steady : Steady s (sampleTests s) :=
  (reportIf_steady s _ _).trans <| (reportIf_steady _ _ _).trans (setMtc_steady _ (evalSkewHold_same _ _))

/-- MTC enters SETTLING from RUNNING or STOPPING (R145). -/
theorem enterSettling_steady (hm : s.mtc.motion = .running ∨ s.mtc.motion = .stopping) :
    Steady s (enterSettling s) :=
  { enterSettling_outputs s with
    fault := .of_free (by simp) fun hs => hs.free (.inr (by rcases hm with hm | hm <;> simp [hm]))
    served := fun h => h.of_context (by simp [SameContext])
      (enterSettling_serves h.serves (by rcases hm with hm | hm <;> rw [hm] <;> rfl))
      fun _ still => enterSettling_still still }

theorem enterHolding_steady (hm : s.mtc.motion = .settling) : Steady s (enterHolding s) :=
  { enterHolding_outputs s with
    fault := .of_free (by simp) fun hs => hs.free (.inr (by simp [hm]))
    served := fun h => enterHolding_served h (.inl hm) }

theorem leavePriming_steady (hm : s.mtc.motion = .priming) : Steady s (leavePriming s) :=
  { leavePriming_outputs s with
    fault := .of_free (by simp) fun hs => hs.free (.inr (by simp [hm]))
    served := fun h => leavePriming_served h hm }

theorem advanceSetpoint_steady : Steady s (advanceSetpoint s) := by
  unfold advanceSetpoint
  dsimp only
  split
  · next hp =>
    simp only [Mtc.profileRuns, Bool.and_eq_true, Bool.or_eq_true, beq_iff_eq] at hp
    have advanced : Steady s (s.setMtc (s.mtc.advance s.cfs.working)) := setMtc_steady s
    split
    · exact advanced.trans (enterSettling_steady _ hp.1)
    · exact advanced
  · split
    · exact setMtc_steady s (advanceTrim_same _ _)
    · exact .refl s

theorem updateStalls_steady : Steady s (updateStalls s) :=
  (setMtc_steady s).trans <| (reportIf_steady _ _ _).trans (reportIf_steady _ _ _)

theorem sampleDrives_steady : Steady s (sampleDrives s) :=
  (advanceSetpoint_steady s).trans <| (computeDrives_steady _).trans (updateStalls_steady _)

theorem settleStep_steady (hm : s.mtc.motion = .settling) : Steady s (settleStep s) := by
  unfold settleStep
  dsimp only
  split
  · split
    · exact .refl s
    · split
      · exact (setMtc_steady s).trans (enterHolding_steady _ hm)
      · exact setMtc_steady s
  · exact setMtc_steady s

theorem settleAndTrim_steady (settling : Bool) : Steady s (settleAndTrim settling s) := by
  have settled : Steady s (if settling && s.mtc.motion == .settling then settleStep s else s) := by
    split
    · next h =>
      simp only [Bool.and_eq_true, beq_iff_eq] at h
      exact settleStep_steady s h.2
    · exact .refl s
  have ended (t : State) : Steady t (if t.trimEnds then endTrim t else t) := by
    split
    · next h =>
      simp only [State.trimEnds, Mtc.trimMoves, Bool.and_eq_true, beq_iff_eq] at h
      exact endTrim_steady t h.1.1
    · exact .refl t
  exact settled.trans (ended _)

theorem leaveFaultStop_steady : Steady s (leaveFaultStop s) := by
  unfold leaveFaultStop
  split
  · next h =>
    simp only [Bool.and_eq_true, decide_eq_true_eq, Bool.not_eq_true', State.faultLatched,
      Bool.not_eq_false', BayLine.isEmpty_iff] at h
    exact { enterStopped_outputs s with
      fault := .of_free (by simp) fun _ => h.2
      served := fun hs => enterStopped_served hs (.inr (.inl h.1)) }
  · exact .refl s

theorem sampleSteps_steady : Steady s (sampleSteps s) :=
  (sampleTests_steady s).trans <| (sampleDrives_steady _).trans <| (settleAndTrim_steady _ _).trans <|
    (handOverSamples_steady _ _).trans (leaveFaultStop_steady _)

theorem awaitRest_steady : Steady s (awaitRest s) := .ite (captureRest_steady s)

theorem firstStroke_steady (before : Option Nat) : Steady s (firstStroke before s) := .ite (closureTest_steady s)

theorem openingTest_steady : Steady s (openingTest s) := by
  unfold openingTest
  split
  · exact .refl s
  · exact testClaim_steady s

theorem sample_steady (l r : EncoderRead) : Steady s (sample l r s) := by
  unfold sample
  dsimp only
  split
  · exact (readEncoders_steady s l r).trans (handOverSamples_steady _ _)
  · exact (readEncoders_steady s l r).trans <| (sampleSteps_steady _).trans <| (awaitRest_steady _).trans <|
      (firstStroke_steady _ _).trans (openingTest_steady _)

/-! ## The stage sample -/

theorem writeRings_steady (u d : BitVec 12) : Steady s (writeRings u d s) := by
  have counted (x : Sample) (t : State) : Steady t (countSample x t) := .ite (countEvent_steady t _)
  exact (setStm_steady s).trans <| (counted _ _).trans (counted _ _)

theorem surgeStep_steady : Steady s (surgeStep s) :=
  (setStm_steady s (x := { s.stm with surgeRun := s.stm.nextRun s.cfs.working })).trans (raiseEpoch_steady _).ite

theorem changeTide_steady (t : Tidal) : Steady s (changeTide t s) :=
  (setStm_steady s).trans <| (setAttention_steady _ _).trans (setTidalSlot_steady _ _)

theorem tidalRules_steady (head : Int) : Steady s (tidalRules head s) := by
  unfold tidalRules
  dsimp only
  split
  · exact changeTide_steady s _
  · split
    · split
      · exact changeTide_steady s _
      · exact setStm_steady s
    · exact setStm_steady s

theorem stageSample_steady (u d : BitVec 12) : Steady s (stageSample u d s) := by
  have chosen (before : Stm) (t : State) : Steady t (validityStep before t) := .ite (chooseSources_steady t)
  have tide (t : State) : Steady t (tidalStep t) := by
    unfold tidalStep
    split
    · exact tidalRules_steady t _
    · exact .refl t
  unfold stageSample
  split
  · exact .refl s
  · exact (writeRings_steady s u d).trans <| (chosen _ _).trans <| (surgeStep_steady _).trans (tide _)

end

end Sys2Proof.Stagger

namespace Sys2Proof.Stagger

open Sys2Proof Sys2Proof.Machine Sys2Proof.BayLine

/-! ## Frames and attempts -/

section
variable (s : State)

theorem deliver_steady (b : Nat) (f : Frame) : Steady s (deliver b f s) := by
  cases f with
  | surge e => exact surgeFromPeer_steady s e
  | verdict c => exact takeVerdict_steady s b c
  | claim c => exact takeClaim_steady s b c
  | order c => exact takeOrder_steady s b c
  | statusA c => exact takeStatusA_steady s b c
  | statusB c => exact takeStatusB_steady s b c

theorem receiveFrame_steady (f : RawFrame) : Steady s (receiveFrame f s) := by
  unfold receiveFrame
  split
  · exact countEvent_steady s _
  · split
    · exact (reportFault_steady s _).trans (countEvent_steady _ _)
    · split
      · exact countEvent_steady s _
      · exact (countEvent_steady s _).trans <| (heard_steady _ _).trans (deliver_steady _ _ _)

theorem takeOwnFrame_steady (f : Frame) : Steady s (takeOwnFrame f s) := by
  cases f with
  | surge e => exact surgeFromSelf_steady s _
  | verdict c => exact countEvent_steady s _
  | claim c => exact takeOwnClaim_steady s c
  | order c => exact (takeOrder_steady s _ c).trans (restartRepeat_steady _)
  | statusA c => exact ownStatusA_steady s c
  | statusB c => exact (updateEntry_steady s _ _).trans (setLif_steady _ _)

theorem failAttempt_steady : Steady s (failAttempt s) := by
  have off (t : State) : Steady t (goOff t) :=
    (setLif_steady t _).trans <| (setFmn_steady _).trans (claimLineOff_steady _)
  exact (setLif_steady s _).trans <| (countEvent_steady _ _).trans (off _).ite

theorem attemptSuccess_steady : ∃ t, execAttemptSuccess s = .next t ∧ Steady s t := by
  refine ⟨_, rfl, ?_⟩
  split
  · exact .refl s
  · exact (setLif_steady s _).trans <| (countEvent_steady _ _).trans <| (takeOwnFrame_steady _ _).trans
      (lineOn_steady _)

theorem offTimer_steady : ∃ t, execOffTimer s = .next t ∧ Steady s t :=
  ⟨_, rfl, .ite <| (setLif_steady s _).trans <| (startStatuses_steady _).trans <|
    (listenStart_steady _).trans <| (setClu_steady _).trans (restartRepeat_steady _)⟩

theorem attemptBegin_steady : ∃ t, execAttemptBegin s = .next t ∧ Steady s t := by
  refine ⟨_, rfl, .ite ?_⟩
  split
  · exact setLif_steady s _
  · exact .refl s

theorem orderRepeat_steady : ∃ t, execOrderRepeatTimer s = .next t ∧ Steady s t := by
  have repeated (p : Prop) [Decidable p] (c : OrderContent) : Steady s (if p then restartRepeat s
      else queueOrder c (s.setLif { s.lif with repeatTimer := none })) := by
    split
    · exact restartRepeat_steady s
    · exact (setLif_steady s _).trans (queueOrder_steady _ _)
  refine ⟨_, rfl, .ite ?_⟩
  cases s.shu.order with
  | none => exact restartRepeat_steady s
  | some o => exact repeated _ _

theorem statusAPeriod_steady : ∃ t, execStatusAPeriod s = .next t ∧ Steady s t := by
  refine ⟨_, rfl, ?_⟩
  split
  · exact .refl s
  · exact (setLif_steady s _).trans (dueStatusA_steady _)

theorem statusBPeriod_steady : ∃ t, execStatusBPeriod s = .next t ∧ Steady s t := by
  refine ⟨_, rfl, ?_⟩
  split
  · exact .refl s
  · exact (setLif_steady s _).trans (dueStatusB_steady _)

/-! ## Timers -/

theorem askingTimer_steady : ∃ t, execAskingTimer s = .next t ∧ Steady s t := by
  refine ⟨_, rfl, ?_⟩
  split
  · next h =>
    simp only [Bool.and_eq_true, decide_eq_true_eq] at h
    exact (withdrawClaim_steady s).trans <| (resolveClaim_steady _ (by simp [h.1])).trans (startBackoff_steady _)
  · exact .refl s

theorem claimWindow_steady : ∃ t, execClaimWindow s = .next t ∧ Steady s t := by
  refine ⟨_, rfl, ?_⟩
  split
  · next h =>
    simp only [Bool.and_eq_true, decide_eq_true_eq] at h
    exact (resolveClaim_steady _ (by simp [h.1])).trans <| (countEvent_steady _ _).trans (startBackoff_steady _)
  · exact .refl s

/-- MTC's record as the holding valve is released, in PRIMING or a trim (R141, R160). -/
def releasing (m : Mtc) : Mtc :=
  { m.enter m.motion (some .release) with pumpSettle := none, release := some 200 }

theorem releasing_steady (hm : s.mtc.motion = .priming ∨ s.mtc.motion = .trim) :
    Steady s (s.setMtc (releasing s.mtc)) := by
  have entered : Entered s.mtc (releasing s.mtc) :=
    ⟨rfl, rfl, rfl, by rcases hm with hm | hm <;> simp [releasing, Mtc.trimMoves, hm]⟩
  have outputs : OutputsKept s (s.setMtc (releasing s.mtc)) := .of_enter entered rfl
  exact { outputs with
    fault := .of_stopped rfl rfl fun _ still _ => ⟨still, rfl⟩
    served := fun h => h.of_context ⟨rfl, rfl, rfl, rfl⟩ h.serves fun _ => id }

theorem pumpSettle_steady : ∃ t, execPumpSettle s = .next t ∧ Steady s t := by
  refine ⟨_, rfl, ?_⟩
  dsimp only
  split
  · next h =>
    simp only [Bool.and_eq_true, Bool.or_eq_true, decide_eq_true_eq] at h
    exact releasing_steady s h.2
  · exact .refl s

/-- MTC's record as phase MOVE of a trim begins (R160). -/
def trimMoving (m : Mtc) : Mtc :=
  { m.enter .trim (some .move) with
    release := none
    trim := m.trim.map fun t => { t with setpoint := some (256 * (t.start : Int)) } }

/-- Phase MOVE of a trim begins with the drives 0, or goes on with the drive of the trimmed hoist. -/
theorem trimMoving_outputs (hm : s.mtc.motion = .trim) : OutputsKept s (s.setMtc (trimMoving s.mtc)) where
  outputs _ := (outputsOk_iff _).2 ⟨rfl, fun hl => by simp [trimMoving, loopsRun] at hl⟩
  drives h := by
    rw [drivesOk_iff] at h ⊢
    exact h
  hold h := by
    rw [holdDrivesOk_iff] at h ⊢
    exact h
  trim ho ht := by
    rw [outputsOk_iff] at ho
    rw [trimDrivesOk_iff] at ht ⊢
    intro _
    have hoist (h : Hoist) : trims (trimMoving s.mtc) h ↔ trims s.mtc h := by
      cases hs : s.mtc.trim <;> simp [trims, trimMoving, hs]
    change (s.mtc.driveL = 0 ∨ trims (trimMoving s.mtc) .left) ∧ (s.mtc.driveR = 0 ∨ trims (trimMoving s.mtc) .right)
    rw [hoist, hoist]
    by_cases moves : s.mtc.trimMoves = true
    · exact ht moves
    · have still : loopsRun s.mtc.motion s.mtc.phase = false := by
        simp only [Mtc.trimMoves, hm, beq_self_eq_true, Bool.true_and, beq_iff_eq] at moves
        rw [hm]
        cases hp : s.mtc.phase with
        | none => rfl
        | some p => cases p <;> simp_all [loopsRun]
      obtain ⟨left, right⟩ := ho.2 still
      exact ⟨.inl left, .inl right⟩

theorem releaseTimer_steady : ∃ t, execReleaseTimer s = .next t ∧ Steady s t := by
  refine ⟨_, rfl, ?_⟩
  dsimp only
  split
  · split
    · next hm => exact (setMtc_steady s).trans (leavePriming_steady _ hm)
    · next hm =>
      exact { trimMoving_outputs s hm with
        fault := .of_stopped rfl rfl fun _ still _ => ⟨still, hm.symm⟩
        served := fun h => h.of_context ⟨rfl, rfl, rfl, rfl⟩ (by
          have serves := h.serves
          rwa [ServesUnder, hm] at serves) fun _ => id }
    all_goals exact .refl s
  · exact .refl s

theorem tick_steady : Steady s (tick s) := by
  unfold tick advanceClocks
  exact (setLif_steady s _).trans <| (setPtb_steady _ _).trans <| (setClu_steady _).trans <|
    (setStm_steady _).trans <| (setMtc_steady _).trans <| (setFmn_steady _).trans (setPending_steady _ _)

/-! ## The host's commands -/

theorem answerCommand_steady (code : Byte) (a : Answer) (clamped : Bool) :
    Steady s (answerCommand code a clamped s) := by
  unfold answerCommand
  dsimp only
  split
  · exact setLpt_steady s _
  · exact (setLpt_steady s _).trans (setAttention_steady _ _)

theorem latchCommand_steady (code b : Byte) : Steady s (latchCommand code b s) := setLpt_steady s _

/-- A COMMAND write keeps what its owner keeps (R187). -/
theorem command_steady {owner : State → Reply} (h : ∀ u, Steady u (owner u).state) (code b : Byte) :
    Steady s (command code b owner s) := by
  unfold command
  dsimp only
  split
  · exact (latchCommand_steady s code b).trans (answerCommand_steady _ _ _ _)
  · exact (latchCommand_steady s code b).trans <| (h _).trans (answerCommand_steady _ _ _ _)

/-- A refusal, or what the owner does where the command is not refused. -/
theorem refusal_steady {p : Prop} [Decidable p] {a : Answer} {r : Reply} (h : ¬ p → Steady s r.state) :
    Steady s (if p then refuse a s else r).state := by
  split
  · exact .refl s
  · next hp => exact h hp

theorem ownSetLocal_steady : Steady s (ownSetLocal s).state := by
  refine refusal_steady s fun _ => ?_
  split
  · exact setLocal_steady s _
  · exact setLocal_steady s _

theorem ownWithdrawLocal_steady : Steady s (ownWithdrawLocal s).state :=
  refusal_steady s fun _ => (setOsl_steady s).trans (reselect_steady _)

theorem ownIssue_steady : Steady s (ownIssue s).state :=
  refusal_steady s fun _ => refusal_steady s fun _ => queueOrder_steady s _

theorem ownSetFloor_steady (floor : Nat) : Steady s (ownSetFloor floor s).state :=
  refusal_steady s fun _ => refusal_steady s fun _ => (setOsl_steady s).trans (reselect_steady _)

theorem ownRaise_steady : Steady s (ownRaise s).state :=
  refusal_steady s fun _ => refusal_steady s fun _ => raiseEpoch_steady s

theorem ownClear_steady : Steady s (ownClear s).state :=
  refusal_steady s fun _ => refusal_steady s fun _ => refusal_steady s fun _ => refusal_steady s fun _ =>
    refusal_steady s fun _ => refusal_steady s fun _ => clearEpoch_steady s

theorem ownDeclare_steady (bay : Nat) : Steady s (ownDeclare bay s).state := by
  refine refusal_steady s fun _ => refusal_steady s fun _ => refusal_steady s fun _ => ?_
  split
  · exact .refl s
  · exact refusal_steady s fun _ => (updateEntry_steady s _ _).trans (testClaim_steady _)

theorem ownWithdraw_steady (bay : Nat) : Steady s (ownWithdraw bay s).state := by
  refine refusal_steady s fun _ => refusal_steady s fun _ => ?_
  split
  · exact .refl s
  · exact (updateEntry_steady s _ _).trans <| (setAttention_steady _ _).ite.trans (testClaim_steady _)

theorem ownFaultReset_steady : Steady s (ownFaultReset s).state :=
  refusal_steady s fun _ => refusal_steady s fun _ => refusal_steady s fun _ => clearFaults_steady s

theorem Serves.startTrim {c : ClaimState} {v : Option Movement} {q : Bool} {surge odd : Prop}
    (h : Serves c .faultStop v q surge odd) : Serves c .trim v q surge odd := by
  cases h
  constructor <;> grind [Motion.atRest]

/-- A trim begins out of FAULT_STOP, with SKEW_TRIP alone latched (R159). -/
theorem beginTrim_steady (t : Trim) (hm : s.mtc.motion = .faultStop) (hc : s.fmn.causes = onlySkewTrip) :
    Steady s (beginTrim t s) := by
  have motion : (beginTrim t s).mtc.motion = .trim := by simp [beginTrim]
  refine { setMotion_outputs (s := s) with fault := fun hs => ?_, served := fun h => ?_ }
  · rw [faultStopped_iff] at hs ⊢
    rw [motion]
    simp only [beginTrim, setMotion_frame]
    exact ⟨hs.1, fun h => ⟨(hs.2 h).1, .inr ⟨trivial, hc⟩⟩⟩
  · have serves := h.serves
    rw [ServesUnder, hm] at serves
    refine h.of_context (by simp [SameContext, beginTrim]) ?_ fun _ still => by simpa [beginTrim] using still
    simpa [ServesUnder, beginTrim] using serves.startTrim

theorem ownTrim_steady (b : Byte) : Steady s (ownTrim b s).state := by
  refine refusal_steady s fun _ => ?_
  split
  · exact .refl s
  · refine refusal_steady s fun hc => refusal_steady s fun hm => refusal_steady s fun _ => ?_
    split
    · exact refusal_steady s fun _ => beginTrim_steady s _ (by simpa using hm) (by simpa using hc)
    · exact .refl s

theorem ownSelect_steady (n : Nat) : Steady s (ownSelect n s).state :=
  refusal_steady s fun _ => refusal_steady s fun _ => setAct_steady s _

theorem ownCounterReset_steady (n : Nat) : Steady s (ownCounterReset n s).state := by
  refine refusal_steady s fun _ => ?_
  split <;> exact setAct_steady s _

theorem ownRelease_steady : Steady s (ownRelease s).state := by
  unfold ownRelease
  split
  · exact setAct_steady s _
  · exact .refl s

theorem enterCommissioning_steady (b : Byte) : Steady s (enterCommissioning b s) :=
  (setCfs_steady s).trans <| (stopForCondition_steady _).trans (evalService_steady _)

theorem ownEnter_steady (b : Byte) : Steady s (ownEnter b s).state := by
  refine refusal_steady s fun _ => refusal_steady s fun _ => ?_
  split
  · exact enterCommissioning_steady s b
  · exact refusal_steady s fun _ => refusal_steady s fun _ => enterCommissioning_steady s b

theorem ownWrite_steady (b : Byte) : Steady s (ownWrite b s).state := by
  unfold ownWrite
  split
  · exact .refl s
  · exact refusal_steady s fun _ => refusal_steady s fun _ => setCfs_steady s

theorem ownStore_steady : Steady s (ownStore s).state := by
  unfold ownStore
  split
  · exact .refl s
  · dsimp only
    split <;> exact setCfs_steady s

theorem ownLeave_steady : Steady s (ownLeave s).state := by
  unfold ownLeave
  split
  · exact (setCfs_steady s).trans <| (evalService_steady _).trans <| (conditionEnds_steady _).trans
      (testClaim_steady _)
  · exact .refl s

theorem completeStore_steady : Steady s (completeStore s) :=
  (setCfs_steady s).trans (answerCommand_steady _ _ _ _)

/-! ## HOLD and SUPPLY_LOW -/

/-- HOLD_IN goes inactive: no drive is held at 0 (R139). -/
theorem holdFreed_steady : Steady s (s.setPins { s.pins with holdIn := false }) :=
  { outputs := id, drives := id, trim := fun _ => id
    hold := fun _ => (holdDrivesOk_iff _).2 fun h => by cases h
    fault := .of_stopped rfl rfl fun _ still _ => ⟨still, rfl⟩
    served := fun h => h.of_context ⟨rfl, rfl, rfl, rfl⟩ h.serves fun _ => id }

theorem holdReleased_steady : ∃ t, execHoldReleased s = .next t ∧ Steady s t :=
  ⟨_, rfl, .ite <| (holdFreed_steady s).trans <| (setFmn_steady _).trans <| (conditionEnds_steady _).trans <|
    (evalService_steady _).trans (testClaim_steady _)⟩

theorem supplyGoesLow_steady : ∃ t, execSupplyGoesLow s = .next t ∧ Steady s t := by
  refine ⟨_, rfl, .ite ?_⟩
  dsimp only
  split
  · exact (setPins_steady s).trans (setFmn_steady _)
  · exact (setPins_steady s).trans (takeSupplyLow_steady _)

theorem supplyGoesGood_steady : ∃ t, execSupplyGoesGood s = .next t ∧ Steady s t := by
  refine ⟨_, rfl, ?_⟩
  dsimp only
  split
  · exact .refl s
  · split
    · exact (setPins_steady s).trans (setFmn_steady _)
    · exact setPins_steady s

theorem surgeInActive_steady : ∃ t, execSurgeInActive s = .next t ∧ Steady s t := by
  refine ⟨_, rfl, ?_⟩
  dsimp only
  split
  · exact .refl s
  · split
    · exact setPins_steady s
    · exact (setPins_steady s).trans (raiseEpoch_steady _)

end

end Sys2Proof.Stagger

namespace Sys2Proof.Stagger

open Sys2Proof Sys2Proof.Machine Sys2Proof.BayLine

/-! ## Every command -/

/-- What a command keeps. HOLD_IN going active finds both drives 0 in OUT, where nothing moves. -/
structure StepKept (s t : State) : Prop where
  outputs : s.outputsOk = true → t.outputsOk = true
  drives : s.drivesOk = true → t.drivesOk = true
  hold : s.outputsOk = true → s.outOk = true → s.holdDrivesOk = true → t.holdDrivesOk = true
  trim : s.outputsOk = true → s.trimDrivesOk = true → t.trimDrivesOk = true
  fault : FaultStopped s → FaultStopped t
  served : Served s → Served t

section
variable (s : State)

theorem Steady.kept {s t : State} (h : Steady s t) : StepKept s t where
  outputs := h.outputs
  drives := h.drives
  hold _ _ := h.hold
  trim := h.trim
  fault := h.fault
  served := h.served

/-- A stop for a condition leaves both drives 0: the gate is stopped, or the station is in OUT. -/
theorem takeHold_drives (hs : s.outputsOk = true) (ho : s.outOk = true) :
    (takeHold s).mtc.driveL = 0 ∧ (takeHold s).mtc.driveR = 0 := by
  cases out : s.cfs.out with
  | true =>
    obtain ⟨-, -, motion, -⟩ := (outOk_iff s).1 ho out
    have same : (takeHold s).mtc = s.mtc := by simp [takeHold, stopForCondition, out]
    rw [same]
    exact ((outputsOk_iff s).1 hs).2 (by rw [motion]; rfl)
  | false =>
    have stopped : (takeHold s).mtc = s.mtc.faultStop := by
      simp [takeHold, stopForCondition, out, enterFaultStop]
    rw [stopped]
    exact ⟨rfl, rfl⟩

theorem holdTaken_kept : ∃ t, execHoldTaken s = .next t ∧ StepKept s t := by
  refine ⟨_, rfl, ?_⟩
  split
  · exact (Steady.refl s).kept
  · have held := takeHold_steady (s.setPins { s.pins with holdIn := true })
    exact {
      outputs := held.outputs
      drives := held.drives
      hold := fun hs ho _ => (holdDrivesOk_iff _).2 fun _ => takeHold_drives _ hs ho
      trim := held.trim
      fault := held.fault
      served := fun h => held.served (h.of_context ⟨rfl, rfl, rfl, rfl⟩ h.serves fun _ => id) }

/-- A row that sets a test before its operation. -/
theorem Steady.next_ite {p : Prop} [Decidable p] {s t : State} (h : p → Steady s t) :
    ∃ u, (Host.Outcome.next (if p then t else s) : Host.Outcome State Fault Refusal) = .next u ∧
      Steady s u := by
  refine ⟨_, rfl, ?_⟩
  split
  · next hp => exact h hp
  · exact .refl s

/-- A row whose operation is ruled out by a test. -/
theorem Steady.next_unless {p : Prop} [Decidable p] {s t : State} (h : Steady s t) :
    ∃ u, (Host.Outcome.next (if p then s else t) : Host.Outcome State Fault Refusal) = .next u ∧
      Steady s u := by
  refine ⟨_, rfl, ?_⟩
  split
  · exact .refl s
  · exact h

theorem registerWrite_steady (addr : BitVec 7) (w : Word) :
    ∃ t, execRegisterWrite addr w s = .next t ∧ Steady s t := by
  refine ⟨_, rfl, ?_⟩
  split
  · exact setLpt_steady s _
  · split
    · exact setLpt_steady s _
    · exact .refl s

theorem exec_steady {c : Instr} (hc : isReset c = false) (hh : c ≠ .holdTaken) :
    ∃ t, exec c s = .next t ∧ Steady s t := by
  cases c with
  | powerOnReset l r => cases hc
  | pinReset l r => cases hc
  | restart b l r => cases hc
  | servoSample l r => exact ⟨_, rfl, sample_steady s l r⟩
  | encoderFault h l r => exact Steady.next_ite fun _ => sample_steady s l r
  | stallWindowEnd h l r => exact Steady.next_ite fun _ => sample_steady s l r
  | settleCountFull l r => exact Steady.next_ite fun _ => sample_steady s l r
  | stageSample u d => exact ⟨_, rfl, stageSample_steady s u d⟩
  | tidalStateChange u d => exact Steady.next_ite fun _ => stageSample_steady s u d
  | surgeRunComplete u d => exact Steady.next_ite fun _ => stageSample_steady s u d
  | surgeInActive => exact surgeInActive_steady s
  | surgeInInactive => exact ⟨_, rfl, setPins_steady s⟩
  | holdTaken => exact absurd rfl hh
  | holdReleased => exact holdReleased_steady s
  | supplyGoesLow => exact supplyGoesLow_steady s
  | supplyGoesGood => exact supplyGoesGood_steady s
  | goodTimer =>
    exact Steady.next_ite fun _ => (setFmn_steady s).trans <| (conditionEnds_steady _).trans
      (testClaim_steady _)
  | attemptBegin => exact attemptBegin_steady s
  | attemptSuccess => exact attemptSuccess_steady s
  | attemptLostContention winner =>
    exact Steady.next_ite fun _ => (setLif_steady s _).trans (receiveFrame_steady _ winner)
  | attemptFailure => exact Steady.next_ite fun _ => failAttempt_steady s
  | lineOff => exact Steady.next_ite fun _ => failAttempt_steady s
  | offTimer => exact offTimer_steady s
  | statusAPeriod => exact statusAPeriod_steady s
  | statusBPeriod => exact statusBPeriod_steady s
  | orderRepeatTimer => exact orderRepeat_steady s
  | frameDiscarded f => exact Steady.next_unless (receiveFrame_steady s f)
  | statusAFrame bay data => exact ⟨_, rfl, receiveFrame_steady s _⟩
  | statusBFrame bay data => exact ⟨_, rfl, receiveFrame_steady s _⟩
  | surgeFrame bay data => exact ⟨_, rfl, receiveFrame_steady s _⟩
  | verdictFrame bay data => exact ⟨_, rfl, receiveFrame_steady s _⟩
  | claimFrame bay data => exact ⟨_, rfl, receiveFrame_steady s _⟩
  | orderFrame bay data => exact ⟨_, rfl, receiveFrame_steady s _⟩
  | listenTimer => exact Steady.next_ite fun _ => listenEnd_steady s
  | peerLapse b =>
    exact Steady.next_ite fun _ => (updateEntry_steady s _ _).trans <| (countEvent_steady _ _).trans <|
      (setAttention_steady _ _).trans <| (shareReport_steady _).trans (chooseSources_steady _)
  | askingTimer => exact askingTimer_steady s
  | claimWindow => exact claimWindow_steady s
  | backoffTimer => exact Steady.next_ite fun _ => (setClu_steady s).trans (testClaim_steady _)
  | settleTimer => exact Steady.next_ite fun _ => settleNow_steady s
  | pumpSettle => exact pumpSettle_steady s
  | releaseTimer => exact releaseTimer_steady s
  | settleTimeout =>
    refine Steady.next_ite fun h => enterHolding_steady s ?_
    simp only [Bool.and_eq_true, decide_eq_true_eq] at h
    exact h.1
  | runOn => exact ⟨_, rfl, runOnExpiry_steady s⟩
  | trimLimitTimeout =>
    refine Steady.next_ite fun h => endTrim_steady s ?_
    simp only [Bool.and_eq_true, decide_eq_true_eq] at h
    exact h.1
  | storeComplete => exact Steady.next_ite fun _ => completeStore_steady s
  | attnCauseWrite w => exact ⟨_, rfl, setAct_steady s _⟩
  | attnMaskWrite w => exact ⟨_, rfl, setAct_steady s _⟩
  | resetCauseWrite w => exact ⟨_, rfl, setLpt_steady s _⟩
  | tableSelectWrite w => exact ⟨_, rfl, setLpt_steady s _⟩
  | tableIndexWrite w => exact ⟨_, rfl, setLpt_steady s _⟩
  | registerWrite addr w => exact registerWrite_steady s addr w
  | setLocalOrder b => exact ⟨_, rfl, command_steady s ownSetLocal_steady _ _⟩
  | withdrawLocalOrder b => exact ⟨_, rfl, command_steady s ownWithdrawLocal_steady _ _⟩
  | issueWeirOrder b => exact ⟨_, rfl, command_steady s ownIssue_steady _ _⟩
  | raiseSurge b => exact ⟨_, rfl, command_steady s ownRaise_steady _ _⟩
  | clearSurge b => exact ⟨_, rfl, command_steady s ownClear_steady _ _⟩
  | setFloor b => exact ⟨_, rfl, command_steady s (ownSetFloor_steady · _) _ _⟩
  | declareBound b => exact ⟨_, rfl, command_steady s (ownDeclare_steady · _) _ _⟩
  | withdrawDeclaration b => exact ⟨_, rfl, command_steady s (ownWithdraw_steady · _) _ _⟩
  | faultReset b => exact ⟨_, rfl, command_steady s ownFaultReset_steady _ _⟩
  | trim b => exact ⟨_, rfl, command_steady s (ownTrim_steady · b) _ _⟩
  | counterSelect n => exact ⟨_, rfl, command_steady s (ownSelect_steady · _) _ _⟩
  | counterReset n => exact ⟨_, rfl, command_steady s (ownCounterReset_steady · _) _ _⟩
  | counterRelease n => exact ⟨_, rfl, command_steady s ownRelease_steady _ _⟩
  | freezeMode n => exact ⟨_, rfl, command_steady s (setAct_steady · _) _ _⟩
  | enterCommissioning b => exact ⟨_, rfl, command_steady s (ownEnter_steady · b) _ _⟩
  | commissionWrite b => exact ⟨_, rfl, command_steady s (ownWrite_steady · b) _ _⟩
  | commissionStore b => exact ⟨_, rfl, command_steady s ownStore_steady _ _⟩
  | leaveCommissioning b => exact ⟨_, rfl, command_steady s ownLeave_steady _ _⟩
  | unknownCommand code b =>
    exact Steady.next_ite fun _ => command_steady s (owner := refuse .refusedRange) (fun u => .refl u) _ _

/-! ## The resets -/

/-- What every step keeps, where it holds. -/
structure Sound (t : State) : Prop where
  outputs : t.outputsOk = true
  drives : t.drivesOk = true
  hold : t.holdDrivesOk = true
  trim : t.trimDrivesOk = true
  fault : FaultStopped t
  served : Served t

theorem Sound.kept {t : State} (h : Sound t) : StepKept s t where
  outputs _ := h.outputs
  drives _ := h.drives
  hold _ _ _ := h.hold
  trim _ _ := h.trim
  fault _ := h.fault
  served _ := h.served

theorem Sound.of_steady {s t : State} (h : Sound s) (k : Steady s t) : Sound t where
  outputs := k.outputs h.outputs
  drives := k.drives h.drives
  hold := k.hold h.hold
  trim := k.trim h.outputs h.trim
  fault := k.fault h.fault
  served := k.served h.served

/-- At reset the gate stands still, no cause is latched, no claim made and no slot pending. -/
theorem blocksReset_sound (k : ResetKind) : Sound (blocksReset k s) where
  outputs := rfl
  drives := rfl
  hold := (holdDrivesOk_iff _).2 fun _ => ⟨rfl, rfl⟩
  trim := rfl
  fault := ⟨rfl, rfl⟩
  served := {
    serves := .idle (by simp [mtcReset]) (fun h => by cases h)
    slot := by simp [State.epochOdd, blocksReset_osl, oslReset, stmReset]
    selected := by simp [blocksReset_osl, oslReset]
    out := fun _ => rfl }

theorem startConditions_steady : Steady s (startConditions s) := by
  have held : Steady s (heldAtStart s) := .ite (takeHold_steady s)
  rw [startConditions_eq]
  split
  · exact held
  · exact held.trans (takeSupplyLow_steady _)

theorem startStage_steady : Steady s (startStage s) :=
  (setStm_steady s (x := { s.stm with settle := some s.peerTimeout })).trans (raiseEpoch_steady _).ite

theorem reset_sound (k : ResetKind) (l r : EncoderRead) : Sound (reset k l r s) := by
  refine (blocksReset_sound s k).of_steady ?_
  unfold reset
  dsimp only
  split
  · exact (startConditions_steady _).trans (startStage_steady _)
  · exact (startConditions_steady _).trans <| (listenStart_steady _).trans <| (startStage_steady _).trans <|
      (sample_steady _ l r).trans (startStatuses_steady _)

/-! ## The step -/

theorem exec_kept (c : Instr) : ∃ t, exec c s = .next t ∧ StepKept s t := by
  cases hc : isReset c with
  | false =>
    by_cases hh : c = .holdTaken
    · exact hh ▸ holdTaken_kept s
    · obtain ⟨t, run, steady⟩ := exec_steady s hc hh
      exact ⟨t, run, steady.kept⟩
  | true =>
    cases c with
    | powerOnReset l r => exact ⟨_, rfl, (reset_sound s _ l r).kept s⟩
    | pinReset l r => exact ⟨_, rfl, (reset_sound s _ l r).kept s⟩
    | restart b l r =>
      rcases restart_cases b l r s with run | run
      · exact ⟨_, run, (reset_sound s _ l r).kept s⟩
      · exact ⟨_, run, ((latchCommand_steady s _ _).trans (answerCommand_steady _ _ _ _)).kept⟩
    | _ => cases hc

/-- A step runs the first command of the queue, or lets a millisecond pass. -/
theorem step_kept {s t : State} (h : step s = .next t) : StepKept s t := by
  cases hp : s.pending with
  | nil =>
    obtain rfl : tick s = t := by simpa [step, hp] using h
    exact (tick_steady s).kept
  | cons c rest =>
    obtain ⟨u, run, kept⟩ := exec_kept (s.setPending rest) c
    obtain rfl : u = t := by simpa [step, hp, run] using h
    exact { kept with served := fun hs => kept.served ((setPending_steady s rest).served hs) }

/-- Settles O39: a latched fault keeps its line, the claim and the gate through every step (R156, R170). -/
theorem everyStepKeepsTheFaultStop : Obligations.EveryStepKeepsTheFaultStop :=
  fun _ _ line motion h => (step_kept h).fault ⟨line, motion⟩

/-- The invariants of the statement say what `Served` says. -/
theorem served_of_ok (hm : s.movementOk = true) (hs : s.selectionOk = true) (ho : s.outOk = true) :
    Served s := by
  simp only [State.selectionOk, Bool.and_eq_true, beq_iff_eq] at hs
  obtain ⟨⟨slot, -⟩, chosen⟩ := hs
  exact {
    serves := (movementOk_iff s).1 hm
    slot
    selected := by rw [chosen, choose_surge_iff]
    out := fun out => by rw [((outOk_iff s).1 ho out).clu]; rfl }

theorem Served.motionOk {s : State} (h : Served s) : s.motionOk = true := by
  obtain ⟨running, stopping, -⟩ := h.serves
  simp only [State.motionOk, Bool.or_eq_true, Bool.not_eq_true', ← Bool.not_eq_true, beq_iff_eq]
  by_cases hr : s.mtc.motion = .running
  · rcases running hr with ⟨-, granted⟩ | ⟨-, ⟨surge, -⟩, -⟩
    · exact .inl (.inr granted)
    · exact .inr surge
  · by_cases hs : s.mtc.motion = .stopping
    · exact .inl (.inr (stopping hs).2)
    · exact .inl (.inl (not_or.2 ⟨hr, hs⟩))

/-- Settles O29: the outputs follow the entries of R139, and MTC moves for a granted claim or SURGE alone. -/
theorem everyStepKeepsTheOutputs : Obligations.EveryStepKeepsTheOutputs := by
  intro s t h
  have kept := step_kept h
  refine ⟨fun ho hd => ⟨kept.outputs ho, kept.drives hd⟩,
    fun ho hout hh ht => ⟨kept.hold ho hout hh, kept.trim ho ht⟩, fun hm hs _ hout => ?_⟩
  have served := kept.served (served_of_ok s hm hs hout)
  exact ⟨(movementOk_iff t).2 served.serves, served.motionOk⟩

end

end Sys2Proof.Stagger

namespace Sys2Proof.Stagger

open Sys2Proof Sys2Proof.Machine Sys2Proof.BayLine

/-! ## What a resolution and a claim write -/

section
variable (s : State)

/-- A STATUS-A becomes due on a line that takes frames (R12). -/
theorem dueStatusA_due (out : s.cfs.out = false) (line : s.lif.line ≠ .off) :
    (dueStatusA s).lif.statusASlot = true := by
  simp [dueStatusA, State.lineAccepts, out, line]

/-- The words of CLU that a resolution writes (R50). -/
theorem resolveClaim_writes (o : ClaimOutcome) : (resolveClaim o s).clu.state = .still ∧
    (resolveClaim o s).clu.asking = none ∧ (resolveClaim o s).clu.window = none ∧
    (resolveClaim o s).clu.lastNumber = s.clu.number ∧ (resolveClaim o s).clu.lastOutcome = o ∧
    (resolveClaim o s).clu.fresh = (s.clu.fresh && !s.clu.freshTaken) := by
  simp [resolveClaim, endClosureRow]

/-- The words of CLU that a resolution leaves (R50). -/
theorem resolveClaim_leaves (o : ClaimOutcome) : (resolveClaim o s).clu.below = s.clu.below ∧
    (resolveClaim o s).clu.above = s.clu.above ∧ (resolveClaim o s).clu.required = s.clu.required ∧
    (resolveClaim o s).clu.start = s.clu.start ∧ (resolveClaim o s).clu.stop = s.clu.stop ∧
    (resolveClaim o s).clu.backoff = s.clu.backoff ∧
    (resolveClaim o s).lif.claimSlot = s.lif.claimSlot := by
  simp [resolveClaim, endClosureRow, dueStatusA_claimSlot]

/-- A resolution makes a STATUS-A due (R12, R50). -/
theorem resolveClaim_due (o : ClaimOutcome) (out : s.cfs.out = false) (line : s.lif.line ≠ .off) :
    (resolveClaim o s).lif.statusASlot = true :=
  dueStatusA_due _ (by simpa using out) (by simpa using line)

theorem withdrawClaim_claimSlot : (withdrawClaim s).lif.claimSlot = none := by
  cases h : s.lif.claimSlot <;> simp [withdrawClaim, h]

/-- R51: the backoff, and CLU otherwise as it was. -/
theorem startBackoff_clu :
    (startBackoff s).clu = { s.clu with backoff := some (200 + 25 * s.own) } := rfl

@[simp] theorem resolveClaim_own (o : ClaimOutcome) : (resolveClaim o s).own = s.own := by
  simp [State.own]
@[simp] theorem withdrawClaim_own : (withdrawClaim s).own = s.own := rfl
@[simp] theorem countEvent_own (e : CountedEvent) : (countEvent e s).own = s.own := rfl

/-! ## The claim's timers -/

variable {s}

theorem askingTimer_resolves (hc : s.clu.state = .asking) (ht : s.clu.asking.isSome = true) :
    exec .askingTimer s = .next (startBackoff (resolveClaim .abandoned (withdrawClaim s))) := by
  simp [exec, execAskingTimer, hc, ht]

theorem claimWindow_resolves (hc : s.clu.state = .pending) (ht : s.clu.window.isSome = true) :
    exec .claimWindow s = .next (startBackoff (countEvent .claimLapsed (resolveClaim .lapsed s))) := by
  simp [exec, execClaimWindow, hc, ht]

theorem backoffTimer_tests (ht : s.clu.backoff.isSome = true) :
    exec .backoffTimer s = .next (testClaim (s.setClu { s.clu with backoff := none })) := by
  simp [exec, execBackoffTimer, ht]

/-- The claim test leaves the backoff timer (R42). -/
theorem testClaim_backoff (s : State) : (testClaim s).clu.backoff = s.clu.backoff := by
  unfold testClaim
  split
  · rfl
  · dsimp only
    split
    · split
      · simp [makeClaim]
      · rfl
    · rfl

/-- Settles O22: each timer in turn. -/
theorem claimTimersResolveTheClaim : Obligations.ClaimTimersResolveTheClaim := by
  intro s
  refine ⟨fun hc ht => ⟨_, askingTimer_resolves hc ht, ?_⟩, fun hc ht => ⟨_, claimWindow_resolves hc ht, ?_⟩,
    fun ht => ⟨_, backoffTimer_tests ht, ?_⟩⟩
  · obtain ⟨still, asking, -, number, outcome, fresh⟩ := resolveClaim_writes (withdrawClaim s) .abandoned
    obtain ⟨-, -, -, -, -, -, slot⟩ := resolveClaim_leaves (withdrawClaim s) .abandoned
    simp [startBackoff_clu, still, asking, number, outcome, fresh, slot, withdrawClaim_claimSlot]
  · obtain ⟨still, -, window, number, outcome, -⟩ := resolveClaim_writes s .lapsed
    obtain ⟨below, above, -⟩ := resolveClaim_leaves s .lapsed
    have due := resolveClaim_due s .lapsed
    simpa [startBackoff_clu, still, window, number, outcome, below, above] using due
  · refine ⟨testClaim_backoff _, by simp, by simp, by simp, fun hc => ?_⟩
    rw [testClaim_eq_self (s := s.setClu { s.clu with backoff := none }) (.inr hc)]
    exact ⟨rfl, rfl⟩

/-! ## A claim made -/

/-- The words that a new claim writes (R42). -/
theorem makeClaim_writes (p e : Nat) (s : State) : (makeClaim p e s).clu = { s.clu with
    number := (s.clu.number + 1) % 256, start := some p, stop := some e, below := none, above := none,
    required := none, state := .asking, asking := some 300 } ∧
    (s.lineAccepts = true → (makeClaim p e s).lif.claimSlot =
      some { number := (s.clu.number + 1) % 256, start := p, stop := e }) := by
  refine ⟨rfl, fun accepts => ?_⟩
  simp [makeClaim, queueClaim, State.lineAccepts] at accepts ⊢
  simp [accepts]

/-- Row by row the conditions of R41 are met. -/
theorem claimConditions_met {s : State} {p e : Nat} (out : s.cfs.out = false) (commissioning : s.commissioning = false)
    (listen : s.ptb.listen = none) (fresh : s.clu.freshTaken = true) (rest : s.mtc.motion.atRest = true)
    (backoff : s.clu.backoff = none) (line : s.lif.line = .on) (even : s.stm.epoch % 2 = 0)
    (causes : s.fmn.causes = noCauses) (supply : s.fmn.supplyLow = false) (hold : s.fmn.hold = false)
    (opening : s.opening = some p) (bounds : ∀ x, x ∈ s.neighbours → x.bound ≠ none)
    (staged : s.osl.selected.staged = true) (strideEnd : s.strideEnd = some e)
    (far : Param.tol s.cfs.working < ((e : Int) - p).natAbs) : s.claimConditions = true := by
  have known : s.positionKnown = true := by simp [State.positionKnown, opening, causes, noCauses]
  have bound : s.anyUnknown = false := by
    simpa [State.anyUnknown, listen, Option.isNone_iff_eq_none] using bounds
  have epoch : s.epochOdd = false := by simp [State.epochOdd, even]
  have fault : s.faultLatched = false := by simp [State.faultLatched, BayLine.isEmpty_iff, causes]
  simp [State.claimConditions, out, commissioning, listen, fresh, rest, backoff, line, epoch, fault, supply, hold,
    known, bound, staged, strideEnd, opening, far]

/-- Settles O23: with the conditions of R41 met, the test that the expiry brings makes the claim. -/
theorem metConditionsMakeAClaim : Obligations.MetConditionsMakeAClaim := by
  intro s p e ht hc out commissioning listen fresh rest line even causes supply hold opening bounds slot strideEnd
    far
  have staged : s.osl.selected.staged = true := by
    simp only [List.mem_cons, List.not_mem_nil, or_false] at slot
    rcases slot with h | h | h <;> rw [h] <;> rfl
  have made := testClaim_makes (s := s.setClu { s.clu with backoff := none }) out hc
    (claimConditions_met out commissioning listen fresh ((atRest_iff _).2 rest) rfl line even causes supply hold
      opening bounds staged strideEnd far) strideEnd opening
  obtain ⟨clu, slotted⟩ := makeClaim_writes p e ((s.setClu { s.clu with backoff := none }).setClu
    { s.clu with backoff := none, lastTest := s.opening })
  have accepts : s.lineAccepts = true := by simp [State.lineAccepts, out, line]
  refine ⟨_, (backoffTimer_tests ht).trans (congrArg _ made), ?_⟩
  exact ⟨congrArg Clu.state clu, congrArg Clu.number clu, congrArg Clu.start clu, congrArg Clu.stop clu,
    congrArg Clu.below clu, congrArg Clu.above clu, congrArg Clu.required clu, congrArg Clu.asking clu,
    slotted accepts, rfl, rfl, rfl, rfl, rfl⟩

/-! ## The stride end -/

/-- The window's lower edge lies at or above each term (R39). -/
theorem le_foldl_max {α : Type} (f : α → Nat) (l : List α) (a : Nat) :
    a ≤ l.foldl (fun a b => max a (f b)) a ∧ ∀ b ∈ l, f b ≤ l.foldl (fun a b => max a (f b)) a := by
  induction l generalizing a with
  | nil => simp
  | cons x l ih =>
    obtain ⟨start, terms⟩ := ih (max a (f x))
    refine ⟨le_trans (le_max_left _ _) start, fun b hb => ?_⟩
    rcases List.mem_cons.1 hb with rfl | hb
    · exact le_trans (le_max_right _ _) start
    · exact terms b hb

/-- The window's upper edge lies at or below each term (R39). -/
theorem foldl_min_le {α : Type} (f : α → Nat) (l : List α) (a : Nat) :
    l.foldl (fun a b => min a (f b)) a ≤ a ∧ ∀ b ∈ l, l.foldl (fun a b => min a (f b)) a ≤ f b := by
  induction l generalizing a with
  | nil => simp
  | cons x l ih =>
    obtain ⟨start, terms⟩ := ih (min a (f x))
    refine ⟨le_trans start (min_le_left _ _), fun b hb => ?_⟩
    rcases List.mem_cons.1 hb with rfl | hb
    · exact le_trans start (min_le_right _ _)
    · exact terms b hb

/-- The window lies within [0, OPEN_MAX] and within S of each point of a neighbour's bound (R39). -/
theorem window_bounds {w : Span} (h : s.window = some w) : w.hi ≤ s.openMax ∧ w.lo ≤ w.hi ∧
    ∀ x b, x ∈ s.neighbours → x.bound = some b →
      b.hi - Param.stagger s.cfs.working ≤ w.lo ∧ w.hi ≤ b.lo + Param.stagger s.cfs.working := by
  unfold State.window at h
  dsimp only at h
  split at h
  · next hw =>
    obtain rfl := Option.some.inj h
    obtain ⟨-, lower⟩ := le_foldl_max (fun b : Span => b.hi - Param.stagger s.cfs.working)
      (s.neighbours.filterMap fun e => e.bound) 0
    obtain ⟨upper, uppers⟩ := foldl_min_le (fun b : Span => b.lo + Param.stagger s.cfs.working)
      (s.neighbours.filterMap fun e => e.bound) s.openMax
    refine ⟨upper, hw, fun x b hx hb => ?_⟩
    have mem : b ∈ s.neighbours.filterMap fun e => e.bound := List.mem_filterMap.2 ⟨x, hx, hb⟩
    exact ⟨lower b mem, uppers b mem⟩
  · cases h

theorem clampNat_mem {lo hi : Nat} (x : Nat) (h : lo ≤ hi) : lo ≤ clampNat lo hi x ∧ clampNat lo hi x ≤ hi := by
  unfold clampNat
  split
  · omega
  · split <;> omega

/-- Settles O24: the stride end is clamped into the window. -/
theorem strideEndObeysTheStagger : Obligations.StrideEndObeysTheStagger := by
  intro s e h
  unfold State.strideEnd at h
  split at h
  · next w u hw _ =>
    obtain rfl := Option.some.inj h
    obtain ⟨hi, nonempty, bounds⟩ := window_bounds hw
    obtain ⟨low, high⟩ := clampNat_mem u nonempty
    refine ⟨high.trans hi, fun x b hx hb => ?_⟩
    obtain ⟨lower, upper⟩ := bounds x b hx hb
    simp only [gap]
    omega
  · cases h

end

end Sys2Proof.Stagger

namespace Sys2Proof.Stagger

open Sys2Proof Sys2Proof.Machine Sys2Proof.BayLine

/-! ## HOLD and SUPPLY_LOW -/

section
variable {s : State}

/-- An abandoned claim leaves the backoff, and the outcome tells of it (R58). -/
theorem abandonClaim_writes (s : State) : (abandonClaim s).clu.backoff = s.clu.backoff ∧
    (s.clu.state ≠ .still → (abandonClaim s).clu.lastOutcome = .abandoned ∧
      (abandonClaim s).clu.lastNumber = s.clu.number) := by
  have resolved (t : State) (h : t.clu = s.clu) : (resolveClaim .abandoned t).clu.backoff = s.clu.backoff ∧
      (s.clu.state ≠ .still → (resolveClaim .abandoned t).clu.lastOutcome = .abandoned ∧
        (resolveClaim .abandoned t).clu.lastNumber = s.clu.number) := by
    obtain ⟨-, -, -, number, outcome, -⟩ := resolveClaim_writes t .abandoned
    obtain ⟨-, -, -, -, -, backoff, -⟩ := resolveClaim_leaves t .abandoned
    exact ⟨by rw [backoff, h], fun _ => ⟨outcome, by rw [number, h]⟩⟩
  unfold abandonClaim
  split
  · next h => exact ⟨rfl, fun hs => absurd h hs⟩
  · exact resolved _ (by simp)
  · exact resolved s rfl
  · exact resolved s rfl

/-- Outside OUT a condition taken stops the gate and abandons the claim (R58, R157). -/
theorem stopForCondition_stops (out : s.cfs.out = false) :
    (stopForCondition s).mtc = s.mtc.faultStop ∧ (stopForCondition s).clu.state = .still ∧
    (stopForCondition s).clu.backoff = s.clu.backoff ∧
    (s.clu.state ≠ .still → (stopForCondition s).clu.lastOutcome = .abandoned ∧
      (stopForCondition s).clu.lastNumber = s.clu.number) := by
  have run : stopForCondition s = abandonClaim (enterFaultStop s) := by simp [stopForCondition, out]
  obtain ⟨backoff, outcome⟩ := abandonClaim_writes (enterFaultStop s)
  rw [run]
  exact ⟨by simp [enterFaultStop], abandonClaim_state _, by simp [backoff], by simpa using outcome⟩

/-- A stop for a fault or a condition serves nothing, and keeps the wish for a closure (R143, R157). -/
theorem faultStop_movement (m : Mtc) : m.faultStop.movement = none ∧
    m.faultStop.closureRequest = m.closureRequest := ⟨rfl, rfl⟩

theorem holdTaken_run (hp : s.pins.holdIn = false) :
    exec .holdTaken s = .next (takeHold (s.setPins { s.pins with holdIn := true })) := by
  simp [exec, execHoldTaken, hp]

theorem holdReleased_run (hp : s.pins.holdIn = true) : exec .holdReleased s = .next (testClaim (evalService
    (conditionEnds ((s.setPins { s.pins with holdIn := false }).setFmn { s.fmn with hold := false })))) := by
  simp [exec, execHoldReleased, hp]

/-- Where a fault is latched the end of a condition begins no closure (R143). -/
theorem conditionEnds_of_fault (h : s.fmn.causes ≠ noCauses) : conditionEnds s = s := by
  simp [conditionEnds, closureTest_of_fault h]

/-- With HOLD held the service state tells a latched fault, or HELD (R95). -/
theorem serviceNow_of_hold (out : s.cfs.out = false) (hold : s.fmn.hold = true) :
    s.serviceNow = if s.fmn.causes = noCauses then .held else .faulted := by
  by_cases h : s.fmn.causes = noCauses <;>
    simp [State.serviceNow, out, hold, State.faultLatched, CauseSet.isEmpty, h]

theorem testClaim_service (s : State) : (testClaim (evalService s)).osl.service =
    (testClaim (evalService s)).serviceNow := by
  rw [serviceNow_congr (s := s) (by simp) (by simp) (by simp) (by simp)]
  simp

/-- Settles O43: HOLD taken, then HOLD released. -/
theorem holdFollowsItsPin : Obligations.HoldFollowsItsPin := by
  intro s out
  refine ⟨fun hp => ⟨_, holdTaken_run hp, ?_⟩, fun hp => ⟨_, holdReleased_run hp, ?_⟩⟩
  · obtain ⟨mtc, still, backoff, outcome⟩ := stopForCondition_stops
      (s := (s.setPins { s.pins with holdIn := true }).setFmn { s.fmn with hold := true }) out
    obtain ⟨motion, driveL, driveR, pump, valve, trim⟩ := faultStop_outputs s.mtc
    obtain ⟨movement, request⟩ := faultStop_movement s.mtc
    have service := serviceNow_of_hold (s := stopForCondition
      ((s.setPins { s.pins with holdIn := true }).setFmn { s.fmn with hold := true })) (by simpa using out) (by simp)
    simp only [State.setFmn_mtc, State.setPins_mtc] at mtc
    simpa [takeHold, mtc, still, backoff, motion, driveL, driveR, pump, valve, trim, movement, request, service]
      using outcome
  · refine ⟨by simp, by simp, testClaim_service _, fun h => ?_, by simp, by simp, by simp, by simp, by simp⟩
    rw [conditionEnds_of_fault (by exact h)]
    simp

/-- Settles O44: the supply goes low, with SUPPLY_LOW free and held; it goes good; the good timer expires. -/
theorem supplyLowFollowsTheSense : Obligations.SupplyLowFollowsTheSense := by
  intro s out
  refine ⟨fun hg hl => ⟨takeSupplyLow (s.setPins { s.pins with supplyGood := false }), ?_, ?_⟩, fun hg hl => ?_,
    fun hg hl => ?_, fun ht => ⟨testClaim (conditionEnds (s.setFmn { s.fmn with good := none, supplyLow := false })),
      ?_, ?_⟩⟩
  · simp [exec, execSupplyGoesLow, hg, hl]
  · obtain ⟨mtc, still, backoff, -⟩ := stopForCondition_stops
      (s := (s.setPins { s.pins with supplyGood := false }).setFmn { s.fmn with supplyLow := true }) out
    obtain ⟨motion, driveL, driveR, pump, valve, -⟩ := faultStop_outputs s.mtc
    simp only [State.setFmn_mtc, State.setPins_mtc] at mtc
    simp [takeSupplyLow, mtc, still, backoff, motion, driveL, driveR, pump, valve]
  · simp [exec, execSupplyGoesLow, hg, hl]
  · simp [exec, execSupplyGoesGood, hg, hl]
  · simp [exec, execGoodTimer, ht]
  · refine ⟨by simp, by simp, fun h => ?_, by simp, by simp, by simp, by simp, by simp⟩
    rw [conditionEnds_of_fault (by exact h)]
    simp

end

end Sys2Proof.Stagger

namespace Sys2Proof.Stagger

open Sys2Proof Sys2Proof.Machine Sys2Proof.BayLine

/-! ## SETTLING ends in HOLDING -/

/-- MTC's record in HOLDING, with the movement ended (R148). -/
def held (w : Words) (m : Mtc) : Mtc :=
  { m.enter .holding none with
    settleTimeout := none, release := none, runOn := some (Param.runOn w), movement := none, limits := none,
    stopKind := none }

/-- The outcome of a stride's claim as HOLDING is entered: GRANTED, and a STATUS-A due (R52). -/
def GrantResolved (s t : State) : Prop :=
  s.mtc.movement = some .stride → s.clu.state = .granted → t.clu.lastOutcome = .granted ∧
    t.clu.lastNumber = s.clu.number ∧ (s.cfs.out = false → s.lif.line ≠ .off → t.lif.statusASlot = true)

section
variable {s t u : State}

/-- The claim test makes a claim, and leaves what the last one came to (R42). -/
theorem testClaim_outcome (s : State) : (testClaim s).clu.lastOutcome = s.clu.lastOutcome ∧
    (testClaim s).clu.lastNumber = s.clu.lastNumber := by
  unfold testClaim
  split
  · exact ⟨rfl, rfl⟩
  · dsimp only
    split
    · split <;> exact ⟨rfl, rfl⟩
    · exact ⟨rfl, rfl⟩

/-- What stands of the last outcome and of the STATUS-A that is due. -/
def SameOutcome (s t : State) : Prop :=
  t.clu.lastOutcome = s.clu.lastOutcome ∧ t.clu.lastNumber = s.clu.lastNumber ∧
    t.lif.statusASlot = s.lif.statusASlot

theorem GrantResolved.of_outcome (h : GrantResolved s t) (k : SameOutcome t u) : GrantResolved s u := by
  obtain ⟨outcome, number, due⟩ := k
  intro hm hc
  rw [outcome, number, due]
  exact h hm hc

theorem testClaim_sameOutcome (s : State) : SameOutcome s (testClaim s) :=
  ⟨(testClaim_outcome s).1, (testClaim_outcome s).2, testClaim_statusASlot s⟩

/-- The tests at rest with no closure wanted. -/
theorem restTests_of_unwanted (h : s.mtc.closureRequest = false) :
    restTests s = testClaim (endClosureRow s) := by
  rw [restTests, closureTest_of_no_request (by simpa using h)]

theorem endMovement_held (h : s.mtc.closureRequest = false) :
    (endMovement s).mtc = { s.mtc with movement := none, limits := none, stopKind := none } := by
  unfold endMovement
  dsimp only
  split
  · rfl
  · simp [h]
  · split <;> simp

theorem endMovement_grant (s : State) : GrantResolved s (endMovement s) := by
  intro hm hc
  have run : endMovement s = countEvent .strideDone (dueStatusA (resolveClaim .granted
      (s.setMtc { s.mtc with movement := none, limits := none, stopKind := none }))) := by
    simp [endMovement, hm, hc]
  rw [run]
  obtain ⟨-, -, -, number, outcome, -⟩ := resolveClaim_writes
    (s.setMtc { s.mtc with movement := none, limits := none, stopKind := none }) .granted
  exact ⟨by simp [outcome], by simp [number], fun out line =>
    dueStatusA_due _ (by simpa using out) (by simpa using line)⟩

/-- What the entry to HOLDING leaves, before the movement is ended. -/
theorem atHolding_keeps (s : State) : (atHolding s).mtc.movement = s.mtc.movement ∧
    (atHolding s).mtc.closureRequest = s.mtc.closureRequest ∧ (atHolding s).clu = s.clu ∧
    (atHolding s).cfs = s.cfs ∧ (atHolding s).lif.line = s.lif.line := by
  have line : (atHolding s).lif.line = s.lif.line := (setMotion_inEvent _ s).line
  exact ⟨by simp [atHolding], by simp [atHolding], by simp [atHolding], by simp [atHolding], line⟩

/-- Entry to HOLDING with no closure wanted and a RUN_ON to run (R148). -/
theorem enterHolding_of_unwanted (h : s.mtc.closureRequest = false) (hr : Param.runOn s.cfs.working ≠ 0) :
    enterHolding s = testClaim (endClosureRow (endMovement (atHolding s))) ∧
      (endMovement (atHolding s)).mtc = held s.cfs.working s.mtc := by
  obtain ⟨-, request, -⟩ := atHolding_keeps s
  have ended := endMovement_held (request.trans h)
  have unwanted : (endMovement (atHolding s)).mtc.closureRequest = false := by
    rw [ended]
    exact request.trans h
  refine ⟨by rw [enterHolding_eq, if_neg hr, restTests_of_unwanted unwanted], ?_⟩
  rw [ended, atHolding, setMotion_mtc]
  rfl

theorem enterHolding_held (h : s.mtc.closureRequest = false) (hr : Param.runOn s.cfs.working ≠ 0) :
    (enterHolding s).mtc = held s.cfs.working s.mtc ∧ GrantResolved s (enterHolding s) := by
  obtain ⟨run, ended⟩ := enterHolding_of_unwanted h hr
  obtain ⟨movement, -, clu, cfs, line⟩ := atHolding_keeps s
  have grant : GrantResolved s (endMovement (atHolding s)) := by
    simpa only [GrantResolved, movement, clu, cfs, line] using endMovement_grant (atHolding s)
  rw [run]
  exact ⟨by simpa using ended, grant.of_outcome (testClaim_sameOutcome (endClosureRow _))⟩

/-- What a servo sample keeps of a SETTLING that goes on: every report of a fault would end it. -/
def SettlesOn (s t : State) : Prop :=
  t.mtc.motion = .settling → s.mtc.motion = .settling ∧ t.mtc.movement = s.mtc.movement ∧
    t.mtc.closureRequest = s.mtc.closureRequest ∧ t.mtc.setpoint = s.mtc.setpoint ∧ t.clu = s.clu

theorem SettlesOn.trans (h : SettlesOn s t) (k : SettlesOn t u) : SettlesOn s u := by
  intro hu
  obtain ⟨ht, movement, request, setpoint, clu⟩ := k hu
  obtain ⟨hs, movement', request', setpoint', clu'⟩ := h ht
  exact ⟨hs, movement.trans movement', request.trans request', setpoint.trans setpoint', clu.trans clu'⟩

theorem SettlesOn.refl (s : State) : SettlesOn s s := fun h => ⟨h, rfl, rfl, rfl, rfl⟩

theorem SettlesOn.ite {p : Prop} [Decidable p] (h : SettlesOn s t) : SettlesOn s (if p then t else s) := by
  split
  · exact h
  · exact .refl s

theorem setMtc_settlesOn (s : State) {m : Mtc} (hm : m.motion = s.mtc.motion := by exact rfl)
    (hv : m.movement = s.mtc.movement := by exact rfl)
    (hq : m.closureRequest = s.mtc.closureRequest := by exact rfl)
    (hx : m.setpoint = s.mtc.setpoint := by exact rfl) : SettlesOn s (s.setMtc m) :=
  fun h => ⟨hm ▸ h, hv, hq, hx, rfl⟩

/-- A fault stops the gate, so it does not settle on (R156). -/
theorem reportFault_settlesOn (c : Cause) (s : State) : SettlesOn s (reportFault c s) := by
  unfold reportFault
  split
  · exact .refl s
  · split
    · intro h
      rw [firstFault_mtc, (faultStop_outputs s.mtc).1] at h
      cases h
    · intro h
      rw [secondFault_mtc] at h ⊢
      split at h
      · rw [(faultStop_outputs s.mtc).1] at h
        cases h
      · next ht => simp [h]

theorem reportIf_settlesOn (p : Bool) (c : Cause) (s : State) : SettlesOn s (reportIf p c s) :=
  .ite (reportFault_settlesOn c s)

theorem readEncoders_settlesOn (l r : EncoderRead) (s : State) : SettlesOn s (readEncoders l r s) := by
  have counted (c : Channel) (t : State) : SettlesOn t (countRead c t) :=
    .ite fun h => ⟨h, rfl, rfl, rfl, rfl⟩
  exact (setMtc_settlesOn s).trans <| (counted _ _).trans <| (counted _ _).trans <|
    (reportIf_settlesOn _ _ _).trans (reportIf_settlesOn _ _ _)

theorem evalSkewHold_setpoint (w : Words) (m : Mtc) : (m.evalSkewHold w).setpoint = m.setpoint := by
  unfold Mtc.evalSkewHold
  split
  · rfl
  · split <;> split <;> rfl

theorem sampleTests_settlesOn (s : State) : SettlesOn s (sampleTests s) := by
  have evaluated (t : State) : SettlesOn t (t.setMtc (t.mtc.evalSkewHold t.cfs.working)) := by
    obtain ⟨⟨motion, -⟩, movement, request⟩ := evalSkewHold_same t.cfs.working t.mtc
    exact setMtc_settlesOn t motion movement request (evalSkewHold_setpoint _ _)
  exact (reportIf_settlesOn _ _ s).trans <| (reportIf_settlesOn _ _ _).trans (evaluated _)

/-- In SETTLING the profile stands (R145). -/
theorem sampleDrives_settlesOn (hm : s.mtc.motion = .settling) : SettlesOn s (sampleDrives s) := by
  have stands : advanceSetpoint s = s := by
    simp [advanceSetpoint, Mtc.profileRuns, Mtc.trimMoves, hm]
  rw [sampleDrives, stands]
  exact (setMtc_settlesOn s).trans <| (setMtc_settlesOn _).trans <| (reportIf_settlesOn _ _ _).trans
    (reportIf_settlesOn _ _ _)

/-- The state at step 8 of the sample that fills the settle count: step 8 enters HOLDING from it (R148). -/
def settleFilled (l r : EncoderRead) (s : State) : State :=
  let s2 := sampleDrives (sampleTests (readEncoders l r s))
  s2.setMtc { s2.mtc with settleCount := s2.mtc.settleCount + 1 }

theorem settleFilled_frame (l r : EncoderRead) (s : State) : (settleFilled l r s).cfs = s.cfs ∧
    (settleFilled l r s).lif.line = s.lif.line := by
  have kept : InEvent s (settleFilled l r s) := (readEncoders_inEvent l r s).trans <|
    (sampleTests_inEvent _).trans <| (sampleDrives_inEvent _).trans (setMtc_inEvent _ _)
  exact ⟨by simp [settleFilled], kept.line⟩

/-- The conditions of the row that fills the settle count (R148). -/
theorem fillsSettleCount_iff (l r : EncoderRead) (s : State) : s.fillsSettleCount l r = true ↔
    s.cfs.out = false ∧ (sampleTests (readEncoders l r s)).mtc.motion = .settling ∧
    (sampleDrives (sampleTests (readEncoders l r s))).mtc.motion = .settling ∧
    (sampleDrives (sampleTests (readEncoders l r s))).bothInBand = true ∧
    (sampleDrives (sampleTests (readEncoders l r s))).mtc.skewHold = false ∧
    (sampleDrives (sampleTests (readEncoders l r s))).mtc.settleCount = 24 := by
  simp [State.fillsSettleCount, and_assoc]

section
variable {l r : EncoderRead} (h : s.fillsSettleCount l r = true)
include h

theorem settleFilled_kept : (settleFilled l r s).mtc.movement = s.mtc.movement ∧
    (settleFilled l r s).mtc.closureRequest = s.mtc.closureRequest ∧
    (settleFilled l r s).mtc.setpoint = s.mtc.setpoint ∧ (settleFilled l r s).clu = s.clu := by
  obtain ⟨-, before, after, -⟩ := (fillsSettleCount_iff l r s).1 h
  have drives : SettlesOn s (sampleDrives (sampleTests (readEncoders l r s))) :=
    (readEncoders_settlesOn l r s).trans <| (sampleTests_settlesOn _).trans (sampleDrives_settlesOn before)
  obtain ⟨-, movement, request, setpoint, clu⟩ := drives after
  simpa only [settleFilled, State.setMtc_mtc, State.setMtc_clu] using ⟨movement, request, setpoint, clu⟩

variable (hq : s.mtc.closureRequest = false) (hr : Param.runOn s.cfs.working ≠ 0)
include hq hr

theorem settleFilled_held :
    (enterHolding (settleFilled l r s)).mtc = held s.cfs.working (settleFilled l r s).mtc ∧
      GrantResolved s (enterHolding (settleFilled l r s)) := by
  obtain ⟨movement, request, -, clu⟩ := settleFilled_kept h
  obtain ⟨cfs, line⟩ := settleFilled_frame l r s
  obtain ⟨mtc, grant⟩ := enterHolding_held (s := settleFilled l r s) (request.trans hq) (by rw [cfs]; exact hr)
  rw [GrantResolved, movement, clu, cfs, line] at grant
  exact ⟨cfs ▸ mtc, grant⟩

/-- Step 8 enters HOLDING, and the steps after it change nothing of that. -/
theorem sampleSteps_of_filled :
    sampleSteps (readEncoders l r s) = handOver (enterHolding (settleFilled l r s)) := by
  obtain ⟨-, before, after, band, skew, count⟩ := (fillsSettleCount_iff l r s).1 h
  have holding : (enterHolding (settleFilled l r s)).mtc.motion = .holding := by
    rw [(settleFilled_held h hq hr).1]
    rfl
  have step : settleStep (sampleDrives (sampleTests (readEncoders l r s))) =
      enterHolding (settleFilled l r s) := by
    simp [settleStep, band, skew, count, settleFilled]
  have settled : settleAndTrim ((sampleTests (readEncoders l r s)).mtc.motion == .settling)
      (sampleDrives (sampleTests (readEncoders l r s))) = enterHolding (settleFilled l r s) := by
    simp [settleAndTrim, before, after, step, State.trimEnds, Mtc.trimMoves, holding]
  have stays : leaveFaultStop (handOver (enterHolding (settleFilled l r s))) =
      handOver (enterHolding (settleFilled l r s)) := by
    simp [leaveFaultStop, holding]
  calc sampleSteps (readEncoders l r s)
      = leaveFaultStop (handOver (settleAndTrim ((sampleTests (readEncoders l r s)).mtc.motion == .settling)
          (sampleDrives (sampleTests (readEncoders l r s))))) := rfl
    _ = handOver (enterHolding (settleFilled l r s)) := by rw [settled, stays]

theorem sample_of_filled :
    (sample l r s).mtc = held s.cfs.working (settleFilled l r s).mtc ∧ GrantResolved s (sample l r s) := by
  obtain ⟨mtc, grant⟩ := settleFilled_held h hq hr
  obtain ⟨out, -⟩ := (fillsSettleCount_iff l r s).1 h
  obtain ⟨-, request, -⟩ := settleFilled_kept h
  have unwanted : (awaitRest (handOver (enterHolding (settleFilled l r s)))).mtc.closureRequest = false := by
    simp [mtc, held, request, hq]
  have stroke : firstStroke s.mtc.gateStroke (awaitRest (handOver (enterHolding (settleFilled l r s)))) =
      awaitRest (handOver (enterHolding (settleFilled l r s))) := by
    simp [firstStroke, closureTest_of_no_request unwanted]
  have run : sample l r s = openingTest (awaitRest (handOver (enterHolding (settleFilled l r s)))) := by
    simp only [sample, sampleSteps_of_filled h hq hr, out, Bool.false_eq_true, if_false, stroke]
  have opened (x : State) : SameOutcome x (openingTest x) := by
    unfold openingTest
    split
    · exact ⟨rfl, rfl, rfl⟩
    · exact testClaim_sameOutcome x
  have rest : SameOutcome (enterHolding (settleFilled l r s)) (sample l r s) := by
    rw [run]
    simpa [SameOutcome] using opened (awaitRest (handOver (enterHolding (settleFilled l r s))))
  exact ⟨by simp [run, mtc], grant.of_outcome rest⟩

end

/-- What HOLDING shows of its record (R139, R148). -/
theorem held_shows (w : Words) (m : Mtc) : (held w m).motion = .holding ∧ (held w m).valve = false ∧
    (held w m).pump = true ∧ (held w m).driveL = 0 ∧ (held w m).driveR = 0 ∧
    (held w m).runOn = some (Param.runOn w) ∧ (held w m).settleTimeout = none ∧
    (held w m).movement = none ∧ (held w m).limits = none ∧ (held w m).setpoint = m.setpoint :=
  ⟨rfl, rfl, rfl, rfl, rfl, rfl, rfl, rfl, rfl, rfl⟩

/-- Settles O32, by the timeout or by the sample that fills the settle count. -/
theorem settlingEndsInHolding : Obligations.SettlingEndsInHolding := by
  intro s l r c hm hq hr hc
  rcases hc with ⟨rfl, ht⟩ | ⟨rfl, hf⟩
  · have run : exec .settleTimeout s = .next (enterHolding s) := by simp [exec, execSettleTimeout, hm, ht]
    obtain ⟨mtc, grant⟩ := enterHolding_held hq hr
    refine ⟨_, run, ?_⟩
    rw [mtc]
    simpa [held_shows, GrantResolved] using grant
  · have run : exec (.settleCountFull l r) s = .next (sample l r s) := by
      simp [exec, execSettleCountFull, hf]
    obtain ⟨mtc, grant⟩ := sample_of_filled hf hq hr
    obtain ⟨-, -, setpoint, -⟩ := settleFilled_kept hf
    refine ⟨_, run, ?_⟩
    rw [mtc]
    simpa [held_shows, GrantResolved, setpoint] using grant

end

end Sys2Proof.Stagger

namespace Sys2Proof.Stagger

open Sys2Proof Sys2Proof.Machine Sys2Proof.BayLine

/-! ## The verdicts of a pending claim -/

section
variable {s t : State}

/-- The claim's number, range and verdicts, which its resolution leaves (R50). -/
def SameClaim (s t : State) : Prop :=
  t.clu.number = s.clu.number ∧ t.clu.start = s.clu.start ∧ t.clu.stop = s.clu.stop ∧
    t.clu.required = s.clu.required ∧ t.clu.below = s.clu.below ∧ t.clu.above = s.clu.above

theorem resolveClaim_sameClaim (o : ClaimOutcome) (s : State) : SameClaim s (resolveClaim o s) := by
  obtain ⟨below, above, required, start, stop, -⟩ := resolveClaim_leaves s o
  exact ⟨(resolveClaim_fields o s).2.2.2.2.2.2.2.2.1, start, stop, required, below, above⟩

theorem grantClaim_sameClaim (s : State) : SameClaim s (grantClaim s) := by
  rcases grantClaim_cases s with ⟨limits, e, run⟩ | run
  · simp [run, SameClaim, granting]
  · rw [run]
    exact resolveClaim_sameClaim .granted (granting s)

theorem demurClaim_sameClaim (s : State) : SameClaim s (demurClaim s) := resolveClaim_sameClaim .demurred s

theorem applyVerdicts_sameClaim (s : State) : SameClaim s (applyVerdicts s) := by
  unfold applyVerdicts
  split
  · exact demurClaim_sameClaim s
  · split
    · exact grantClaim_sameClaim s
    · exact ⟨rfl, rfl, rfl, rfl, rfl, rfl⟩

/-- A demur resolves the claim and starts the backoff (R49). -/
theorem applyVerdicts_of_demur (h : sideDemurs s.clu.below = true ∨ sideDemurs s.clu.above = true) :
    applyVerdicts s = demurClaim s := by
  simp [applyVerdicts, h]

theorem demurClaim_writes (s : State) : (demurClaim s).clu.state = .still ∧
    (demurClaim s).clu.lastOutcome = .demurred ∧ (demurClaim s).clu.lastNumber = s.clu.number ∧
    (demurClaim s).clu.window = none ∧ (demurClaim s).clu.backoff = some (200 + 25 * s.own) := by
  obtain ⟨still, -, window, number, outcome, -⟩ := resolveClaim_writes s .demurred
  simp [demurClaim, startBackoff_clu, still, window, number, outcome]

/-- With a verdict missing the claim stays as it is (R47). -/
theorem applyVerdicts_of_missing (hb : sideDemurs s.clu.below = false) (ha : sideDemurs s.clu.above = false)
    (h : s.allConsent = false) : applyVerdicts s = s := by
  simp [applyVerdicts, hb, ha, h]

theorem applyVerdicts_of_consent (hb : sideDemurs s.clu.below = false) (ha : sideDemurs s.clu.above = false)
    (h : s.allConsent = true) : applyVerdicts s = grantClaim s := by
  simp [applyVerdicts, hb, ha, h]

/-- A grant leaves the claim granted, or released at once (R48). -/
theorem grantClaim_state (s : State) : (grantClaim s).clu.state = .granted ∨
    (grantClaim s).clu.state = .still ∧ (grantClaim s).clu.lastOutcome = .granted := by
  rcases grantClaim_cases s with ⟨limits, e, run⟩ | run
  · exact .inl (by simp [run, granting])
  · exact .inr (run ▸ resolveClaim_state .granted (granting s))

/-! ## The own claim taken -/

/-- The own claim as it stands PENDING, before its verdicts are applied (R44). -/
def ownPending (s : State) : State :=
  countEvent .claimSent (s.setClu { s.clu with
    state := .pending, asking := none, window := some 300,
    required := some { below := s.liveNeighbour (s.own - 1), above := s.liveNeighbour (s.own + 1) },
    below := s.selfVerdict (s.own - 1), above := s.selfVerdict (s.own + 1) })

theorem takeOwnClaim_of_asking {c : ClaimContent} (hc : s.clu.state = .asking) (hn : s.clu.number = c.number) :
    takeOwnClaim c s = applyVerdicts (ownPending s) := by
  simp [takeOwnClaim, hc, hn, ownPending]

theorem takeOwnClaim_of_stale {c : ClaimContent} (h : s.clu.state ≠ .asking ∨ s.clu.number ≠ c.number) :
    takeOwnClaim c s = s := by
  unfold takeOwnClaim
  split
  · next hc =>
    simp only [Bool.and_eq_true, decide_eq_true_eq, beq_iff_eq] at hc
    rcases h with h | h
    · exact absurd hc.1 h
    · exact absurd hc.2.symm h
  · rfl

/-- No verdict toward a bay that is no neighbour, or LIVE (R44). -/
theorem selfVerdict_of_none {b : Nat} (h : s.isNeighbour b = false ∨ s.liveNeighbour b = true) :
    s.selfVerdict b = none := by
  rcases h with h | h <;> simp [State.selfVerdict, h]

/-- Toward a neighbour that is not LIVE the claim is judged from its bound (R44). -/
theorem selfVerdict_of_some {b : Nat} {e : Entry} (hn : s.isNeighbour b = true) (he : s.entry b = some e)
    (hp : e.presence ≠ .live) :
    s.selfVerdict b = some { verdict := s.selfJudge e, origin := .selfJudged } := by
  simp [State.selfVerdict, State.liveNeighbour, hn, he, hp]

theorem selfJudge_eq {e : Entry} {a z : Nat} (ha : s.clu.start = some a) (hz : s.clu.stop = some z) :
    s.selfJudge e = match e.bound with
      | none => .demurUnsure
      | some x => if gap (claimRange a z) x ≤ max (Param.stagger s.cfs.working) (gap (claimRange a a) x)
        then .consent else .demurStagger := by
  unfold State.selfJudge
  rw [ha, hz]
  cases e.bound with
  | none => rfl
  | some x => simp [consents]

/-- A LIVE neighbour's verdict is missing (R44). -/
theorem ownPending_missing (h : s.liveNeighbour (s.own - 1) = true ∨ s.liveNeighbour (s.own + 1) = true) :
    (ownPending s).allConsent = false := by
  have side {b : Nat} (hb : s.liveNeighbour b = true) :
      s.isNeighbour b = true ∧ sideConsents (s.selfVerdict b) = false := by
    refine ⟨?_, by rw [selfVerdict_of_none (.inr hb)]; rfl⟩
    simp only [State.liveNeighbour, Bool.and_eq_true] at hb
    exact hb.1
  change ((!s.isNeighbour (s.own - 1) || sideConsents (s.selfVerdict (s.own - 1))) &&
    (!s.isNeighbour (s.own + 1) || sideConsents (s.selfVerdict (s.own + 1)))) = false
  rcases h with h | h
  · simp [side h]
  · simp [side h]

/-- With no LIVE neighbour and no demur each side's own judgment is CONSENT (R44). -/
theorem ownPending_consents (hb : sideDemurs (s.selfVerdict (s.own - 1)) = false)
    (ha : sideDemurs (s.selfVerdict (s.own + 1)) = false) (below : s.liveNeighbour (s.own - 1) = false)
    (above : s.liveNeighbour (s.own + 1) = false)
    (table : ∀ b, s.isNeighbour b = true → (s.entry b).isSome = true) : (ownPending s).allConsent = true := by
  have side {b : Nat} (live : s.liveNeighbour b = false) (hd : sideDemurs (s.selfVerdict b) = false) :
      (!s.isNeighbour b || sideConsents (s.selfVerdict b)) = true := by
    cases hn : s.isNeighbour b with
    | false => rfl
    | true =>
      obtain ⟨e, he⟩ := Option.isSome_iff_exists.1 (table b hn)
      have absent : e.presence ≠ .live := by simpa [State.liveNeighbour, hn, he] using live
      rw [selfVerdict_of_some hn he absent] at hd ⊢
      have consent : s.selfJudge e = .consent := by
        cases hj : s.selfJudge e <;> simp [sideDemurs, hj, Verdict.isDemur] at hd ⊢
      simp [sideConsents, consent]
  change ((!s.isNeighbour (s.own - 1) || sideConsents (s.selfVerdict (s.own - 1))) &&
    (!s.isNeighbour (s.own + 1) || sideConsents (s.selfVerdict (s.own + 1)))) = true
  rw [side below hb, side above ha]
  rfl

/-- The committed range of a claim on its way (R38). -/
theorem ownPending_committed (causes : s.fmn.causes = noCauses) (even : s.stm.epoch % 2 = 0)
    (closure : s.clu.surgeClosure = false) : (ownPending s).committed = s.clu.span := by
  simp [State.committed, ownPending, State.faultLatched, BayLine.isEmpty_iff, causes, State.epochOdd, even, closure,
    Clu.span]

end

section
variable {s : State} {a : Attempt}

theorem lineOn_of_on (h : s.lif.line = .on) : lineOn s = s := by simp [lineOn, h]

/-- A success of the own CLAIM on a line that is ON (R43). -/
theorem claimSent_run {c : ClaimContent} (ha : s.lif.attempt = some a) (hf : a.frame = .claim c)
    (line : s.lif.line = .on) : exec .attemptSuccess s = .next (takeOwnClaim c (sent a s)) := by
  have on : (takeOwnFrame a.frame (sent a s)).lif.line = .on := by
    have kept : (sent a s).lif.line = s.lif.line := (sentLif_line a s.lif).1
    rw [(takeOwnFrame_lineKept a.frame (sent a s)).line, kept, line]
  have run := execAttemptSuccess_eq ha
  rw [lineOn_of_on on, hf] at run
  exact run

/-- The own claim, taken with its number: the side's verdict is the one that R44 gives. -/
theorem selfVerdict_rules {p z b : Nat} (hp : s.clu.start = some p) (hz : s.clu.stop = some z) :
    (s.isNeighbour b = false ∨ s.liveNeighbour b = true → s.selfVerdict b = none) ∧
    ∀ e, s.isNeighbour b = true → s.entry b = some e → e.presence ≠ .live → s.selfVerdict b = some {
      origin := .selfJudged
      verdict := match e.bound with
        | none => .demurUnsure
        | some x => if gap (claimRange p z) x ≤ max (Param.stagger s.cfs.working) (gap (claimRange p p) x)
          then .consent else .demurStagger } := by
  refine ⟨selfVerdict_of_none, fun e hn he hl => ?_⟩
  rw [selfVerdict_of_some hn he hl, selfJudge_eq hp hz]

/-- Settles O17: a stale claim, then a claim with a demur, with a LIVE neighbour, and with none. -/
theorem ownClaimTakenBecomesPending : Obligations.OwnClaimTakenBecomesPending := by
  intro s c touched ha line hown
  refine ⟨_, claimSent_run ha rfl line, by simp [sent], by simp [sent], by simp [sent], by simp [sent],
    fun stale => ?_, fun p z hc hn hp hz => ?_⟩
  · rw [takeOwnClaim_of_stale (s := sent _ s) stale]
    exact ⟨rfl, rfl⟩
  · rw [takeOwnClaim_of_asking (s := sent _ s) hc hn]
    generalize hx : sent { frame := .claim c, touched := touched } s = x
    have clu : x.clu = s.clu := by rw [← hx]; rfl
    have own : x.own = s.own := by rw [← hx]; rfl
    have mtc : x.mtc = s.mtc := by rw [← hx]; rfl
    have live (b : Nat) : x.liveNeighbour b = s.liveNeighbour b := by rw [← hx]; rfl
    have verdict (b : Nat) : x.selfVerdict b = s.selfVerdict b := by rw [← hx]; rfl
    obtain ⟨number, start, stop, required, below, above⟩ := applyVerdicts_sameClaim (ownPending x)
    have below' : (ownPending x).clu.below = s.selfVerdict (s.own - 1) := by rw [← verdict, ← own]; rfl
    have above' : (ownPending x).clu.above = s.selfVerdict (s.own + 1) := by rw [← verdict, ← own]; rfl
    rw [below, above, below', above']
    refine ⟨by rw [number, ← clu]; rfl, by rw [start, ← hp, ← clu]; rfl, by rw [stop, ← hz, ← clu]; rfl,
      by rw [required, ← live, ← live, ← own]; rfl, ?_, fun demur => ?_, fun hb ha hl => ?_, fun hb ha lb la table => ?_⟩
    · rintro b v (⟨hb, rfl⟩ | ⟨rfl, rfl⟩)
      · obtain rfl : b = s.own - 1 := by omega
        exact selfVerdict_rules hp hz
      · exact selfVerdict_rules hp hz
    · rw [applyVerdicts_of_demur (by rw [below', above']; exact demur)]
      obtain ⟨still, outcome, last, -, backoff⟩ := demurClaim_writes (ownPending x)
      refine ⟨still, outcome, last.trans (by rw [← clu]; rfl), backoff.trans (by rw [← own]; rfl), ?_⟩
      rw [← mtc]
      simp [ownPending]
    · have missing : (ownPending x).allConsent = false := ownPending_missing (by rw [own, live, live]; exact hl)
      rw [applyVerdicts_of_missing (by rw [below']; exact hb) (by rw [above']; exact ha) missing]
      refine ⟨rfl, rfl, rfl, fun causes even closure => ?_, mtc⟩
      rw [← clu]
      exact ownPending_committed (by rw [← hx]; exact causes) (by rw [← hx]; exact even) (by rw [clu]; exact closure)
    · have consent : (ownPending x).allConsent = true :=
        ownPending_consents (by rw [own, verdict]; exact hb) (by rw [own, verdict]; exact ha)
          (by rw [own, live]; exact lb) (by rw [own, live]; exact la) (by rw [← hx]; exact table)
      rw [applyVerdicts_of_consent (by rw [below']; exact hb) (by rw [above']; exact ha) consent]
      exact grantClaim_state _

end

end Sys2Proof.Stagger

namespace Sys2Proof.Stagger

open Sys2Proof Sys2Proof.Machine Sys2Proof.BayLine Sys2Proof.PeerTable

/-! ## A neighbour's frame -/

section
variable {s : State} {bay : BitVec 6}

/-- A neighbour's bay lies in the table's range, and the station is not in OUT (R37). -/
theorem neighbour_range {b : Nat} (h : s.isNeighbour b = true) :
    s.cfs.out = false ∧ s.firstBay ≤ b ∧ b ≤ s.lastBay := by
  simp only [State.isNeighbour, Bool.and_eq_true, Bool.not_eq_true', decide_eq_true_eq] at h
  exact ⟨h.1.1, h.2⟩

/-- A neighbour's frame that spells its content goes to its owner (R3, R4). -/
theorem receiveFrame_of_neighbour {k : Nat} {data : List Byte} {f : Frame} (hn : s.isNeighbour bay.toNat = true)
    (hown : s.own ≠ bay.toNat) (hk : 1 ≤ k ∧ k ≤ 6) (hp : parsePayload k data = some f)
    (hc : claimantInRange s.firstBay s.lastBay f = true) :
    receiveFrame (frameOf k bay data) s = deliver bay.toNat f (received bay.toNat s) := by
  obtain ⟨-, lo, hi⟩ := neighbour_range hn
  have id : (frameOf k bay data).id.toNat = 64 * k + bay.toNat := by
    simp only [frameOf, BitVec.toNat_ofNat]
    omega
  have kind : rawKind (frameOf k bay data) = k := by rw [rawKind, id]; omega
  have sender : rawSender (frameOf k bay data) = bay.toNat := by rw [rawSender, id]; omega
  have parsed : parseFrame s.firstBay s.lastBay (frameOf k bay data) = some f := by
    have payload : parsePayload (rawKind (frameOf k bay data)) (frameOf k bay data).data = some f := by
      rw [kind]
      exact hp
    simp [parseFrame, payload, hc]
  have ok : kindAndBayOk s.firstBay s.lastBay (frameOf k bay data) = true := by
    simp [kindAndBayOk, kind, sender, hk, lo, hi]
  have valid : s.frameValid (frameOf k bay data) = true := by
    simp [State.frameValid, ok, parsed, State.isDuplicate, sender, Ne.symm hown]
  rw [receiveFrame_of_valid valid parsed, sender]

/-- A VERDICT of a neighbour on the own claim (R47). -/
theorem verdictFrame_run {n : Byte} {v : Verdict} (hn : s.isNeighbour bay.toNat = true)
    (hown : s.own ≠ bay.toNat) (h256 : s.own < 256) (hlo : s.firstBay ≤ s.own) (hhi : s.own ≤ s.lastBay) :
    exec (.verdictFrame bay [byte s.own, n, byte v.code]) s = .next (takeVerdict bay.toNat
      { claimant := s.own, number := n.toNat, verdict := v } (received bay.toNat s)) := by
  have parsed : parsePayload 2 [byte s.own, n, byte v.code] =
      some (.verdict { claimant := s.own, number := n.toNat, verdict := v }) := by
    simp [parsePayload, byte_toNat, verdict_ofCode_code, Nat.mod_eq_of_lt h256]
  exact congrArg _ (receiveFrame_of_neighbour hn hown (by decide) parsed (by simp [claimantInRange, hlo, hhi]))

/-- A CLAIM of a neighbour (R59). -/
theorem claimFrame_run {c : ClaimContent} (hn : s.isNeighbour bay.toNat = true) (hown : s.own ≠ bay.toNat)
    (hc : c.number < 256) (hs : c.start ≤ 15000) (he : c.stop ≤ 15000) :
    exec (.claimFrame bay (Frame.claim c).payload) s =
      .next (takeClaim bay.toNat c (received bay.toNat s)) := by
  have parsed : parsePayload 3 (Frame.claim c).payload = some (.claim c) := by
    simp only [Frame.payload, bytes2, List.cons_append, List.nil_append, parsePayload,
      nat2_bytes (show c.start < 65536 by omega), nat2_bytes (show c.stop < 65536 by omega), hs, he,
      byte_toNat, Nat.mod_eq_of_lt hc, and_self, if_true]
  exact congrArg _ (receiveFrame_of_neighbour hn hown (by decide) parsed rfl)

/-- A bay that is LIVE, or has no entry, is heard with no word to another block (R20). -/
theorem heard_of_live {b : Nat} (h : ∀ e, s.entry b = some e → e.presence = .live) :
    heard b s = s ∧ s.entry b = none ∨ heard b s = s.updateEntry b Entry.heard := by
  unfold heard
  cases he : s.entry b with
  | none => exact .inl ⟨rfl, rfl⟩
  | some e => exact .inr (by simp [h e he])

/-- The parts of a state apart from the peer table, the counters and the line. -/
def SameStation (s t : State) : Prop :=
  t.clu = s.clu ∧ t.mtc = s.mtc ∧ t.cfs = s.cfs ∧ t.osl = s.osl ∧ t.stm = s.stm ∧ t.fmn = s.fmn

theorem received_of_live {b : Nat} (h : ∀ e, s.entry b = some e → e.presence = .live) :
    SameStation s (received b s) ∧ (received b s).lif = s.lif := by
  rcases heard_of_live (s := countEvent .frameReceived s) h with ⟨run, -⟩ | run
  · rw [received, run]
    exact ⟨⟨rfl, rfl, rfl, rfl, rfl, rfl⟩, rfl⟩
  · rw [received, run]
    exact ⟨⟨rfl, rfl, rfl, rfl, rfl, rfl⟩, rfl⟩

/-! ## A verdict taken -/

/-- A required neighbour's first verdict on the PENDING claim is recorded and applied (R47). -/
theorem takeVerdict_records {b : Nat} {c : VerdictContent} (out : s.cfs.out = false) (hc : c.claimant = s.own)
    (hn : s.isNeighbour b = true) (number : c.number = s.clu.number) (pending : s.clu.state = .pending)
    (required : s.requires b = true) (fresh : s.recordedFrom b = none) :
    takeVerdict b c s = applyVerdicts (recordVerdict b c.verdict s) := by
  simp [takeVerdict, out, hc, hn, number, pending, required, fresh]

section
variable (b : Nat) (v : Verdict) (s)

/-- A recorded verdict changes the sender's side alone (R47). -/
theorem recordVerdict_clu : (recordVerdict b v s).clu = if b + 1 = s.own then
    { s.clu with below := some { verdict := v, origin := .line } }
    else { s.clu with above := some { verdict := v, origin := .line } } := rfl

theorem recordVerdict_leaves : (recordVerdict b v s).mtc = s.mtc ∧ (recordVerdict b v s).cfs = s.cfs ∧
    (recordVerdict b v s).osl = s.osl ∧ (recordVerdict b v s).stm = s.stm := ⟨rfl, rfl, rfl, rfl⟩

theorem recordVerdict_keeps : (recordVerdict b v s).clu.state = s.clu.state ∧
    (recordVerdict b v s).clu.number = s.clu.number ∧ (recordVerdict b v s).clu.window = s.clu.window ∧
    (recordVerdict b v s).clu.start = s.clu.start ∧ (recordVerdict b v s).clu.stop = s.clu.stop := by
  rw [recordVerdict_clu]
  split <;> exact ⟨rfl, rfl, rfl, rfl, rfl⟩

theorem recordVerdict_recorded :
    (recordVerdict b v s).recordedFrom b = some { verdict := v, origin := .line } := by
  have own : (recordVerdict b v s).own = s.own := rfl
  rw [State.recordedFrom, own, recordVerdict_clu]
  split <;> rfl

variable {s b v}

/-- A demur recorded resolves the claim (R49). -/
theorem recordVerdict_demurs (h : v ≠ .consent) : sideDemurs (recordVerdict b v s).clu.below = true ∨
    sideDemurs (recordVerdict b v s).clu.above = true := by
  have demur : v.isDemur = true := by cases v <;> simp [Verdict.isDemur] at h ⊢
  rw [recordVerdict_clu]
  split
  · exact .inl (by simp [sideDemurs, demur])
  · exact .inr (by simp [sideDemurs, demur])

/-- A consent recorded adds no demur. -/
theorem recordVerdict_consents (below : sideDemurs s.clu.below = false) (above : sideDemurs s.clu.above = false) :
    sideDemurs (recordVerdict b .consent s).clu.below = false ∧
      sideDemurs (recordVerdict b .consent s).clu.above = false := by
  rw [recordVerdict_clu]
  split
  · exact ⟨rfl, above⟩
  · exact ⟨below, rfl⟩

end

theorem allConsent_congr {t : State} (hclu : t.clu = s.clu) (hcfs : t.cfs = s.cfs) :
    t.allConsent = s.allConsent := by
  have own : t.own = s.own := by rw [State.own, State.own, hcfs]
  simp only [State.allConsent, isNeighbour_congr hcfs, own, hclu]

/-- The recorded verdicts of states with the same claim and configuration. -/
theorem recordVerdict_allConsent {t : State} {b : Nat} {v : Verdict} (hclu : t.clu = s.clu) (hcfs : t.cfs = s.cfs) :
    (recordVerdict b v t).allConsent = (recordVerdict b v s).allConsent := by
  have own : t.own = s.own := by rw [State.own, State.own, hcfs]
  exact allConsent_congr (by rw [recordVerdict_clu, recordVerdict_clu, hclu, own]) hcfs

/-- A verdict is taken in a state that the sender's frame has made with the same claim (R47). -/
theorem takeVerdict_received {t : State} {n : Nat} {b : Nat} {v : Verdict} (hclu : t.clu = s.clu) (hcfs : t.cfs = s.cfs)
    (hn : s.isNeighbour b = true) (number : n = s.clu.number) (pending : s.clu.state = .pending)
    (required : s.requires b = true) (fresh : s.recordedFrom b = none) :
    takeVerdict b { claimant := s.own, number := n, verdict := v } t = applyVerdicts (recordVerdict b v t) := by
  have own : t.own = s.own := by rw [State.own, State.own, hcfs]
  exact takeVerdict_records (by rw [hcfs]; exact (neighbour_range hn).1) own.symm (by rw [isNeighbour_congr hcfs, hn])
    (by rw [hclu]; exact number) (by rw [hclu, pending]) (by rw [State.requires, hclu, own]; exact required)
    (by rw [State.recordedFrom, hclu, own]; exact fresh)

/-! ## A grant -/

/-- MTC's record as it takes a stride from STOPPED: the pump settle first (R48, R140). -/
theorem handStride_of_stopped {limits : Span} {e g : Nat} (hm : s.mtc.motion = .stopped)
    (hg : s.mtc.gateStroke = some g) :
    let m := (handStride limits e s).mtc
    m.movement = some .stride ∧ m.limits = some limits ∧ m.goal = some (256 * e) ∧
      m.setpoint = some (clampNat (256 * limits.lo) (256 * limits.hi) (256 * g)) ∧ m.speed = some .normal ∧
      m.v = 0 ∧ m.stopKind = none ∧ m.motion = .priming ∧ m.phase = some .settle ∧ m.pump = true ∧
      m.valve = false ∧ m.driveL = 0 ∧ m.driveR = 0 ∧
      m.pumpSettle = some (Param.pumpSettle s.cfs.working) ∧ m.left = s.mtc.left ∧ m.right = s.mtc.right := by
  simp [handStride, Mtc.startSequence, hm, hg, Mtc.enter, outputsOf, loopsRun]

/-- The end of a raising grant (R48). -/
theorem grantEnd_of_raise {tol a b u : Nat} (hab : a < b) (hu : a + tol < u) :
    grantEnd tol a b (some u) = some (min u b) := by
  simp [grantEnd, hab, hu]

/-- A raising claim is granted, and MTC takes the stride (R48). -/
theorem grantClaim_of_raise {a b u : Nat} (ha : s.clu.start = some a) (hb : s.clu.stop = some b) (hab : a < b)
    (staged : s.osl.selected.staged = true) (target : s.osl.target s.osl.selected = some u)
    (hu : a + Param.tol s.cfs.working < u) :
    grantClaim s = handStride { lo := inverse s.cfs.working a, hi := inverse s.cfs.working b }
      (inverse s.cfs.working (min u b)) (granting s) := by
  have span : s.clu.span = { lo := a, hi := b } := by simp [Clu.span, ha, hb, hab.le]
  simp [grantClaim, staged, State.target, target, ha, hb, grantEnd_of_raise hab hu, span, granting]

/-- Settles O14: the recorded verdict completes the consents, and the grant hands the stride on. -/
theorem grantHandsTheStride : Obligations.GrantHandsTheStride := by
  intro s bay n a b u g out hn hown h256 hlo hhi number pending required fresh below above consent live ha hb hab
    staged target far stopped stroke
  obtain ⟨⟨clu, mtc, cfs, osl, stm, -⟩, -⟩ := received_of_live live
  have run := verdictFrame_run (n := n) (v := .consent) hn hown h256 hlo hhi
  rw [takeVerdict_received clu cfs hn number pending required fresh] at run
  generalize received bay.toNat s = x at clu mtc cfs osl stm run
  obtain ⟨below', above'⟩ := recordVerdict_consents (s := x) (b := bay.toNat) (by rw [clu]; exact below)
    (by rw [clu]; exact above)
  obtain ⟨-, -, -, start, stop⟩ := recordVerdict_keeps x bay.toNat .consent
  obtain ⟨mtc', cfs', osl', stm'⟩ := recordVerdict_leaves x bay.toNat .consent
  have all : (recordVerdict bay.toNat .consent x).allConsent = true := by
    rw [recordVerdict_allConsent clu cfs, consent]
  generalize recordVerdict bay.toNat .consent x = y at *
  rw [applyVerdicts_of_consent below' above' all, grantClaim_of_raise (by rw [start, clu, ha])
    (by rw [stop, clu, hb]) hab (by rw [osl', osl, staged]) (by rw [osl', osl, target])
    (by rw [cfs', cfs]; exact far), cfs', cfs] at run
  have granted : (granting y).mtc = s.mtc ∧ (granting y).cfs = s.cfs := ⟨mtc'.trans mtc, cfs'.trans cfs⟩
  have stride := handStride_of_stopped (s := granting y)
    (limits := { lo := inverse s.cfs.working a, hi := inverse s.cfs.working b })
    (e := inverse s.cfs.working (min u b)) (by rw [granted.1, stopped]) (by rw [granted.1, stroke])
  rw [granted.1, granted.2] at stride
  obtain ⟨movement, limits, goal, setpoint, speed, v, stopKind, motion, phase, pump, valve, driveL, driveR, settle,
    left, right⟩ := stride
  exact ⟨_, run, by simp [granting], by simp [granting], movement, limits, goal, setpoint, speed, v, stopKind,
    motion, phase, pump, valve, driveL, driveR, settle, left, right, by simp [granting, osl', osl],
    by simp [granting, stm', stm]⟩

end

end Sys2Proof.Stagger

namespace Sys2Proof.Stagger

open Sys2Proof Sys2Proof.Machine Sys2Proof.BayLine Sys2Proof.PeerTable

/-! ## A pending claim through a frame of a bay that was not LIVE -/

/-- The claim is PENDING, and SURGE is selected as its slot has it (R92). -/
def Waiting (s : State) : Prop :=
  s.clu.state = .pending ∧ (s.osl.selected = .surge ↔ s.osl.surge = true)

/-- A PENDING claim and MTC stand through an operation. -/
def Waits (s t : State) : Prop := Waiting s → Waiting t ∧ t.clu = s.clu ∧ t.mtc = s.mtc

section
variable {s t u : State}

theorem Waits.trans (h : Waits s t) (k : Waits t u) : Waits s u := by
  intro hs
  obtain ⟨ht, clu, mtc⟩ := h hs
  obtain ⟨hu, clu', mtc'⟩ := k ht
  exact ⟨hu, clu'.trans clu, mtc'.trans mtc⟩

theorem Waits.of_eq (clu : t.clu = s.clu) (mtc : t.mtc = s.mtc) (selected : t.osl.selected = s.osl.selected)
    (surge : t.osl.surge = s.osl.surge) : Waits s t := by
  intro hs
  rw [Waiting, clu, selected, surge]
  exact ⟨hs, rfl, mtc⟩

theorem Waits.refl (s : State) : Waits s s := .of_eq rfl rfl rfl rfl

variable (s)

/-- A PENDING claim takes no target (R97). -/
theorem targetReport_waits : Waits s (targetReport s) := by
  intro hs
  have run : targetReport s = s := by simp [targetReport, hs.1]
  rw [run]
  exact ⟨hs, rfl, rfl⟩

/-- A re-selection among the slots below SURGE reaches neither a PENDING claim nor MTC (R97, R99). -/
theorem reselect_waits : Waits s (reselect s) := by
  rintro ⟨pending, surge⟩
  obtain ⟨chosen, slot⟩ := reselect_selected s
  have selected : (reselect s).osl.selected = .surge ↔ (reselect s).osl.surge = true := by
    rw [chosen, slot, choose_surge_iff]
  rcases reselect_cases s with ⟨-, run⟩ | ⟨x, run, other, taken, -, mtc, clu, -⟩
  · rw [run]
    exact ⟨⟨pending, surge⟩, rfl, rfl⟩
  · have untold : targetReport x = x := by simp [targetReport, clu, pending]
    have before : s.osl.selected ≠ .surge := fun h =>
      other (((choose_surge_iff _ _).2 (surge.1 h)).trans h.symm)
    have now : x.osl.selected ≠ .surge := fun h => before (surge.2 ((choose_surge_iff _ _).1 (taken ▸ h)))
    have unreported : surgeReport s.osl.selected x = x := by simp [surgeReport, before, now]
    rw [run, untold, unreported] at selected ⊢
    exact ⟨⟨clu ▸ pending, selected⟩, clu, mtc⟩

theorem handWeir_waits (share : Nat) : Waits s (handWeir share s) := by
  have target : Waits s (s.setOsl { s.osl with weirTarget := some share }) := .of_eq rfl rfl rfl rfl
  unfold handWeir
  dsimp only
  split
  · exact target.trans (reselect_waits _)
  · split
    · exact .refl s
    · split
      · exact target.trans (targetReport_waits _)
      · exact target

theorem setShu_waits (x : Shu) : Waits s (s.setShu x) := .of_eq rfl rfl rfl rfl
theorem updateEntry_waits (b : Nat) (f : Entry → Entry) : Waits s (s.updateEntry b f) := .of_eq rfl rfl rfl rfl

theorem shareReport_waits : Waits s (shareReport s) := by
  unfold shareReport runShares
  split
  · exact .refl s
  · split
    · exact .refl s
    · dsimp only
      split
      · exact (setShu_waits s _).trans <| (setShu_waits _ _).trans (handWeir_waits _ _)
      · exact setShu_waits s _

theorem chooseSources_waits : Waits s (chooseSources s) :=
  .of_eq (by simp) (by simp) (by simp) (by simp)

/-- Whatever its sender was, a frame heard leaves a PENDING claim and MTC (R20). -/
theorem received_waits (b : Nat) : Waits s (received b s) := by
  have counted : Waits s (countEvent .frameReceived s) := .of_eq rfl rfl rfl rfl
  refine counted.trans ?_
  change Waits _ (heard b (countEvent .frameReceived s))
  generalize countEvent .frameReceived s = x
  have shared : Waits x (shareReport (x.updateEntry b Entry.heard)) :=
    (updateEntry_waits x b _).trans (shareReport_waits _)
  unfold heard
  split
  · exact .refl x
  · dsimp only
    split
    · exact updateEntry_waits x b _
    · split
      · exact shared
      · exact updateEntry_waits x b _
      · exact shared.trans (chooseSources_waits _)
      · exact shared.trans (chooseSources_waits _)

/-- A demur, or a consent short of all, leaves the verdict that was recorded (R47, R49). -/
theorem applyVerdicts_recorded (b : Nat) : (applyVerdicts s).recordedFrom b = s.recordedFrom b := by
  obtain ⟨-, -, -, -, below, above⟩ := applyVerdicts_sameClaim s
  have own : (applyVerdicts s).own = s.own := by simp [State.own]
  rw [State.recordedFrom, State.recordedFrom, below, above, own]

/-- Settles O11: the frame is heard, and its verdict is recorded and applied. -/
theorem verdictsResolveThePendingClaim : Obligations.VerdictsResolveThePendingClaim := by
  intro s bay n v out hn hown h256 hlo hhi number pending required fresh below above selection
  have waiting : Waiting s := by
    simp only [State.selectionOk, Bool.and_eq_true, beq_iff_eq] at selection
    exact ⟨pending, by rw [selection.2, choose_surge_iff]⟩
  obtain ⟨-, clu, mtc⟩ := received_waits s bay.toNat waiting
  have cfs : (received bay.toNat s).cfs = s.cfs := by simp [received]
  have own : (received bay.toNat s).own = s.own := by rw [State.own, State.own, cfs]
  have run := verdictFrame_run (n := n) (v := v) hn hown h256 hlo hhi
  rw [takeVerdict_received clu cfs hn number pending required fresh] at run
  generalize received bay.toNat s = x at clu mtc cfs own run
  obtain ⟨state, number', window, -⟩ := recordVerdict_keeps x bay.toNat v
  obtain ⟨mtc', cfs', -⟩ := recordVerdict_leaves x bay.toNat v
  refine ⟨_, run, (applyVerdicts_recorded _ _).trans (recordVerdict_recorded _ _ _), fun demur => ?_,
    fun consent missing => ?_⟩
  · rw [applyVerdicts_of_demur (recordVerdict_demurs demur)]
    obtain ⟨still, outcome, last, closed, backoff⟩ := demurClaim_writes (recordVerdict bay.toNat v x)
    have own' : (recordVerdict bay.toNat v x).own = s.own := own
    exact ⟨still, outcome, by rw [last, number', clu], closed, by rw [backoff, own'], by simp [mtc]⟩
  · subst consent
    obtain ⟨below', above'⟩ := recordVerdict_consents (s := x) (b := bay.toNat) (by rw [clu]; exact below)
      (by rw [clu]; exact above)
    rw [applyVerdicts_of_missing below' above' (by rw [recordVerdict_allConsent clu cfs, missing])]
    exact ⟨by rw [state, clu, pending], by rw [window, clu], by rw [mtc', mtc]⟩

end

/-! ## A neighbour's claim -/

section
variable {s t : State} {b : Nat} {e : Entry}

/-- A queued verdict stands in its claimant's slot (R7, R61). -/
theorem find_putVerdict (v : VerdictContent) (l : List VerdictContent) :
    (putVerdict v l).find? (fun x => x.claimant == v.claimant) = some v := by
  unfold putVerdict
  split
  · next h =>
    induction l with
    | nil => simp at h
    | cons x l ih =>
      by_cases hx : x.claimant = v.claimant
      · simp [hx]
      · simp only [List.any_cons, Bool.or_eq_true, beq_iff_eq, hx, false_or] at h
        simpa [hx] using ih h
  · next h =>
    have none : l.find? (fun x => x.claimant == v.claimant) = none := by
      simpa [List.find?_eq_none] using h
    simp [none]

theorem queueVerdict_slot {v : VerdictContent} (accepts : s.lineAccepts = true)
    (hn : s.isNeighbour v.claimant = true) :
    (queueVerdict v s).lif.verdictSlots.find? (fun x => x.claimant == v.claimant) = some v := by
  simp [queueVerdict, accepts, hn, find_putVerdict]

/-- A judgment writes the record, a consent the bound too (R61). -/
def judgedEntry (c : ClaimContent) (v : Verdict) (e : Entry) : Entry :=
  { e with
    judged := some { number := c.number, verdict := v }
    bound := if v = .consent then some (claimRange c.start c.stop) else e.bound }

theorem writeBound_entry (x : Span) (he : s.entry b = some e) :
    (writeBound b x s).entry b = some { e with bound := some x } := by
  refine (entry_of_updateEntry (s := s) (f := fun e => { e with bound := some x }) (fun _ => rfl) ?_ he).1
  unfold writeBound
  dsimp only
  split
  · rfl
  · simp

theorem judgeClaim_entry (c : ClaimContent) (he : s.entry b = some e) :
    (judgeClaim b c s).entry b = some (judgedEntry c (s.judge c) e) := by
  have judged : (s.updateEntry b fun e => { e with judged := some { number := c.number, verdict := s.judge c } }).entry b =
      some { e with judged := some { number := c.number, verdict := s.judge c } } :=
    entry_updateEntry_own (f := fun e => { e with judged := some { number := c.number, verdict := s.judge c } })
      (fun _ => rfl) he
  unfold judgeClaim judgedEntry
  dsimp only
  rw [entry_congr (queueVerdict_frame _ _).1]
  split
  · exact writeBound_entry _ judged
  · exact judged

theorem judgeClaim_slot (c : ClaimContent) (accepts : s.lineAccepts = true) (hn : s.isNeighbour b = true) :
    (judgeClaim b c s).lif.verdictSlots.find? (fun x => x.claimant == b) =
      some { claimant := b, number := c.number, verdict := s.judge c } := by
  have bounded (p : Prop) [Decidable p] (x : State) (y : Span) (hl : x.lif.line = s.lif.line) (hc : x.cfs = s.cfs) :
      (if p then writeBound b y x else x).lineAccepts = true ∧
        (if p then writeBound b y x else x).isNeighbour b = true := by
    have line : (if p then writeBound b y x else x).lif.line = s.lif.line := by split <;> simp [hl]
    have cfs : (if p then writeBound b y x else x).cfs = s.cfs := by split <;> simp [hc]
    rw [State.lineAccepts, line, cfs, isNeighbour_congr cfs]
    exact ⟨accepts, hn⟩
  obtain ⟨accepts', neighbour⟩ := bounded (s.judge c = .consent) (s.updateEntry b fun e =>
    { e with judged := some { number := c.number, verdict := s.judge c } }) (claimRange c.start c.stop) rfl rfl
  exact queueVerdict_slot (v := { claimant := b, number := c.number, verdict := s.judge c }) accepts' neighbour

/-- The verdict of a claim by the surge epoch, the position and the gap (R60). -/
theorem judge_rules (c : ClaimContent) :
    (s.stm.epoch % 2 = 1 → s.judge c = .demurSurge) ∧
    (s.stm.epoch % 2 = 0 → s.positionKnown = false → s.judge c = .demurUnsure) ∧
    (s.stm.epoch % 2 = 0 → s.positionKnown = true → s.judge c =
      if gap (claimRange c.start c.stop) s.committed ≤
          max (Param.stagger s.cfs.working) (gap (claimRange c.start c.start) s.committed)
      then .consent else .demurStagger) := by
  refine ⟨fun odd => ?_, fun even unknown => ?_, fun even known => ?_⟩
  · simp [State.judge, State.epochOdd, odd]
  · simp [State.judge, State.epochOdd, even, unknown]
  · simp [State.judge, State.epochOdd, even, known, consents]

theorem takeClaim_of_recorded {c : ClaimContent} {j : Judged} (hn : s.isNeighbour b = true) (he : s.entry b = some e)
    (hj : e.judged = some j) (number : j.number = c.number) :
    takeClaim b c s = queueVerdict { claimant := b, number := j.number, verdict := j.verdict } s := by
  simp [takeClaim, hn, he, hj, number]

theorem takeClaim_of_new {c : ClaimContent} (hn : s.isNeighbour b = true) (he : s.entry b = some e)
    (new : ∀ j, e.judged = some j → j.number ≠ c.number) : takeClaim b c s = judgeClaim b c s := by
  cases hj : e.judged with
  | none => simp [takeClaim, hn, he, hj]
  | some j => simp [takeClaim, hn, he, hj, new j hj]

/-- A claim of a LIVE neighbour is judged as the station stands (R60). -/
theorem judge_congr {c : ClaimContent} (h : SameStation s t) : t.judge c = s.judge c := by
  obtain ⟨clu, mtc, cfs, -, stm, fmn⟩ := h
  have opening : t.opening = s.opening := by rw [State.opening, State.opening, cfs, mtc]
  have max : t.openMax = s.openMax := by rw [State.openMax, State.openMax, cfs]
  have point : t.pointRange = s.pointRange := by rw [State.pointRange, State.pointRange, opening, max]
  have closure : t.closureRange = s.closureRange := by rw [State.closureRange, State.closureRange, opening, max]
  have odd : t.epochOdd = s.epochOdd := by rw [State.epochOdd, State.epochOdd, stm]
  have latched : t.faultLatched = s.faultLatched := by rw [State.faultLatched, State.faultLatched, fmn]
  have known : t.positionKnown = s.positionKnown := by rw [State.positionKnown, State.positionKnown, opening, fmn]
  have committed : t.committed = s.committed := by
    rw [State.committed, State.committed, latched, odd, point, closure, clu]
  rw [State.judge, State.judge, odd, known, committed, cfs]

/-- Settles O12: the claim is answered from the record, or judged. -/
theorem neighbourClaimsAreJudged : Obligations.NeighbourClaimsAreJudged := by
  intro s bay c e hn hown he live hc hstart hstop
  have run := claimFrame_run hn hown hc hstart hstop
  obtain ⟨station, lif⟩ := received_of_live (s := s) (b := bay.toNat) fun k hk => by
    obtain rfl : k = e := by rw [he] at hk; exact (Option.some.inj hk).symm
    exact live
  obtain ⟨here, -⟩ := received_entry he
  have judge := judge_congr (c := c) station
  obtain ⟨clu, -, cfs, -⟩ := station
  generalize received bay.toNat s = x at run here clu cfs lif judge
  have neighbour : x.isNeighbour bay.toNat = true := by rw [isNeighbour_congr cfs, hn]
  have accepts : s.lineAccepts = true → x.lineAccepts = true := by
    rw [State.lineAccepts, State.lineAccepts, lif, cfs]
    exact id
  by_cases known : ∃ j, e.judged = some j ∧ j.number = c.number
  · obtain ⟨j, hj, number⟩ := known
    rw [takeClaim_of_recorded neighbour here hj number] at run
    refine ⟨_, e.heard, run, (entry_congr (queueVerdict_frame _ _).1 _).trans here, fun ha => ?_,
      fun _ => ⟨rfl, rfl, by simp [clu]⟩, fun new => absurd number (new j hj)⟩
    rw [queueVerdict_slot (v := { claimant := bay.toNat, number := j.number, verdict := j.verdict })
      (accepts ha) neighbour]
    exact congrArg (Option.map fun j => j.verdict) hj
  · have new : ∀ j, e.judged = some j → j.number ≠ c.number := fun j hj number => known ⟨j, hj, number⟩
    rw [takeClaim_of_new neighbour here new] at run
    refine ⟨_, judgedEntry c (x.judge c) e.heard, run, judgeClaim_entry c here, fun ha => ?_,
      fun h => absurd h known, fun _ => ?_⟩
    · rw [judgeClaim_slot c (accepts ha) neighbour]
      rfl
    · obtain ⟨surge, unsure, known⟩ := judge_rules (s := s) c
      rw [judge]
      refine ⟨fun odd => ?_, fun even hk => ?_, fun even hk fits => ?_, fun even hk far => ?_⟩
      · rw [surge odd]
        exact ⟨rfl, rfl⟩
      · rw [unsure even hk]
        exact ⟨rfl, rfl⟩
      · rw [known even hk, if_pos fits]
        exact ⟨rfl, rfl⟩
      · rw [known even hk, if_neg (Nat.not_le.2 far)]
        exact ⟨rfl, rfl⟩

end

end Sys2Proof.Stagger

namespace Sys2Proof.WeirOrders

open Sys2Proof Sys2Proof.Machine

/-! ## The capping rounds (R77) -/

section
variable {cap r : Nat} {u : List Member}

/-- A member exceeds the cap in a round over U and R_U (R77). -/
def exceeds (cap r : Nat) (u : List Member) (m : Member) : Bool :=
  decide (cap * weightSum u < r * m.weight)

theorem exceeds_eq_false_iff {m : Member} :
    exceeds cap r u m = false ↔ r * m.weight ≤ cap * weightSum u := by
  simp [exceeds]

/-- One round: it ends with no member above the cap, or goes on with those that do not exceed. -/
theorem capRounds_succ (cap fuel : Nat) (u : List Member) (r : Nat) :
    capRounds cap (fuel + 1) u r =
      if (u.filter (exceeds cap r u)).isEmpty then (u, r)
      else capRounds cap fuel (u.filter fun m => !exceeds cap r u m)
        (r - cap * (u.filter (exceeds cap r u)).length) := rfl

theorem weightSum_filter_le (p : Member → Bool) (u : List Member) :
    weightSum (u.filter p) ≤ weightSum u :=
  (List.filter_sublist.map _).sum_le_sum fun _ _ => Nat.zero_le _

/-- The members capped in one round take less than R_U away: the difference of R77 is exact. -/
theorem cap_mul_capped_le (h : u.filter (exceeds cap r u) ≠ []) :
    cap * (u.filter (exceeds cap r u)).length ≤ r := by
  have above : ((u.filter (exceeds cap r u)).map fun _ => cap * weightSum u).sum <
      ((u.filter (exceeds cap r u)).map fun m => r * m.weight).sum :=
    List.sum_lt_sum_of_ne_nil h _ _ fun m hm => of_decide_eq_true (List.mem_filter.1 hm).2
  have all : r * weightSum (u.filter (exceeds cap r u)) ≤ r * weightSum u :=
    Nat.mul_le_mul_left r (weightSum_filter_le _ u)
  rw [List.map_const', List.sum_replicate, smul_eq_mul, List.sum_map_mul_left] at above
  refine Nat.le_of_lt (Nat.lt_of_mul_lt_mul_right (a := weightSum u) ?_)
  calc cap * (u.filter (exceeds cap r u)).length * weightSum u
      = (u.filter (exceeds cap r u)).length * (cap * weightSum u) := by ring
    _ < r * weightSum (u.filter (exceeds cap r u)) := above
    _ ≤ r * weightSum u := all

/-- What U and R_U are once the rounds are over: some of the members, with the caps of the others taken off,
and none of them above the cap. -/
structure Capped (cap : Nat) (u : List Member) (r : Nat) (v : List Member) (q : Nat) : Prop where
  part : ∃ p : Member → Bool, v = u.filter p
  split : r + cap * v.length = q + cap * u.length
  fits : ∀ m ∈ v, q * m.weight ≤ cap * weightSum v

/-- With a round for each member the rounds come to their end (R77). -/
theorem capRounds_capped (cap fuel : Nat) (u : List Member) (r : Nat) (h : u.length ≤ fuel) :
    Capped cap u r (capRounds cap fuel u r).1 (capRounds cap fuel u r).2 := by
  induction fuel generalizing u r with
  | zero =>
    obtain rfl : u = [] := List.length_eq_zero_iff.1 (Nat.le_zero.1 h)
    exact ⟨⟨fun _ => true, rfl⟩, rfl, by simp [capRounds]⟩
  | succ fuel ih =>
    have parts := List.length_eq_length_filter_add (l := u) (exceeds cap r u)
    rw [capRounds_succ]
    split
    · next ended =>
      refine ⟨⟨fun _ => true, by simp⟩, rfl, fun m hm => exceeds_eq_false_iff.1 ?_⟩
      simpa using List.filter_eq_nil_iff.1 (List.isEmpty_iff.1 ended) m hm
    · next goesOn =>
      have nonempty : u.filter (exceeds cap r u) ≠ [] := fun h => goesOn (List.isEmpty_iff.2 h)
      have removed := List.length_pos_of_ne_nil nonempty
      have taken := cap_mul_capped_le nonempty
      obtain ⟨⟨p, part⟩, split, fits⟩ := ih (u.filter fun m => !exceeds cap r u m)
        (r - cap * (u.filter (exceeds cap r u)).length) (by omega)
      refine ⟨⟨_, part.trans List.filter_filter⟩, ?_, fits⟩
      rw [parts, Nat.mul_add]
      omega

end

/-! ## The shares of the members left (R78) -/

section
variable {r : Nat} {u : List Member} {m k : Member}

/-- Member k comes before m when the leftover is given out (R78). -/
abbrev Precedes (u : List Member) (r : Nat) (k m : Member) : Prop :=
  remOf u r m < remOf u r k ∨ (remOf u r k = remOf u r m ∧ k.bay < m.bay)

theorem rankOf_eq (u : List Member) (r : Nat) (m : Member) :
    rankOf u r m = (u.filter fun k => decide (Precedes u r k m)).length := rfl

/-- A test that the members meeting another one meet, and one member more, is met by more members. -/
theorem length_filter_lt {α : Type} {l : List α} {p q : α → Bool} {a : α} (h : ∀ x, p x = true → q x = true)
    (ha : a ∈ l) (hq : q a = true) (hp : p a = false) : (l.filter p).length < (l.filter q).length := by
  have both : (l.filter q).filter p = l.filter p := by
    rw [List.filter_filter]
    exact List.filter_congr fun x _ => by cases hx : p x <;> simp [h, hx]
  rw [← both, List.length_filter_lt_length_iff_exists]
  exact ⟨a, List.mem_filter.2 ⟨ha, hq⟩, by simp [hp]⟩

theorem rankOf_lt_length (hm : m ∈ u) : rankOf u r m < u.length := by
  rw [rankOf_eq, List.length_filter_lt_length_iff_exists]
  exact ⟨m, hm, by simp⟩

/-- Whoever comes before has the lower rank. -/
theorem rankOf_lt_rankOf (hk : k ∈ u) (h : Precedes u r k m) : rankOf u r k < rankOf u r m := by
  refine length_filter_lt (fun x hx => ?_) hk (decide_eq_true h) (by simp)
  have first : Precedes u r x k := of_decide_eq_true hx
  exact decide_eq_true (show Precedes u r x m by unfold Precedes at *; omega)

/-- Members of different bays have different ranks. -/
theorem rankOf_injOn (nodup : (u.map fun m => m.bay).Nodup) (hm : m ∈ u) (hk : k ∈ u)
    (h : rankOf u r m = rankOf u r k) : m = k := by
  refine List.inj_on_of_nodup_map nodup hm hk ?_
  by_contra bays
  have order : Precedes u r m k ∨ Precedes u r k m := by unfold Precedes; omega
  rcases order with before | before
  · exact absurd h (rankOf_lt_rankOf hm before).ne
  · exact absurd h (rankOf_lt_rankOf hk before).ne'

/-- The ranks are 0, 1, 2 and so on, in some order. -/
theorem rankOf_perm_range (nodup : (u.map fun m => m.bay).Nodup) (r : Nat) :
    (u.map (rankOf u r)).Perm (List.range u.length) := by
  have distinct : (u.map (rankOf u r)).Nodup :=
    nodup.of_map.map_on fun m hm k hk h => rankOf_injOn nodup hm hk h
  refine (List.subperm_of_subset distinct fun i hi => ?_).perm_of_length_le (by simp)
  obtain ⟨m, hm, rfl⟩ := List.mem_map.1 hi
  exact List.mem_range.2 (rankOf_lt_length hm)

theorem sum_range_below (n l : Nat) :
    ((List.range n).map fun i => if i < l then 1 else 0).sum = min n l := by
  induction n with
  | zero => simp
  | succ n ih =>
    rw [List.range_succ, List.map_append, List.sum_append, ih, List.map_singleton, List.sum_singleton]
    split <;> omega

/-- The count that the ranks below the leftover add is the leftover, while there are members enough. -/
theorem sum_rankOf_below (nodup : (u.map fun m => m.bay).Nodup) {l : Nat} (h : l ≤ u.length) :
    (u.map fun m => if rankOf u r m < l then 1 else 0).sum = l := by
  have ranks := ((rankOf_perm_range nodup r).map fun i => if i < l then 1 else 0).sum_eq
  rw [sum_range_below, List.map_map] at ranks
  exact ranks.trans (Nat.min_eq_right h)

/-- Quotients and remainders of all members (R78). -/
theorem sum_baseOf_remOf (u : List Member) (r : Nat) :
    weightSum u * (u.map (baseOf u r)).sum + (u.map (remOf u r)).sum = r * weightSum u := by
  have each (m : Member) : weightSum u * baseOf u r m + remOf u r m = r * m.weight := Nat.div_add_mod _ _
  calc weightSum u * (u.map (baseOf u r)).sum + (u.map (remOf u r)).sum
      = (u.map fun m => weightSum u * baseOf u r m + remOf u r m).sum := by
        rw [List.sum_map_add, List.sum_map_mul_left]
    _ = (u.map fun m => r * m.weight).sum := by simp only [each]
    _ = r * weightSum u := List.sum_map_mul_left ..

theorem sum_baseOf_le (pos : 0 < weightSum u) : (u.map (baseOf u r)).sum ≤ r := by
  have whole := sum_baseOf_remOf u r
  refine Nat.le_of_mul_le_mul_left (c := weightSum u) ?_ pos
  rw [Nat.mul_comm _ r]
  omega

/-- No more is left over than there are members with a remainder (R78). -/
theorem leftover_le (pos : 0 < weightSum u) :
    leftover u r ≤ (u.filter fun m => decide (0 < remOf u r m)).length := by
  have whole := sum_baseOf_remOf u r
  have remainders : (u.map (remOf u r)).sum ≤
      weightSum u * (u.filter fun m => decide (0 < remOf u r m)).length := by
    have each : ∀ m ∈ u, remOf u r m ≤ if 0 < remOf u r m then weightSum u else 0 := fun m _ => by
      split
      · exact (Nat.mod_lt _ pos).le
      · omega
    calc (u.map (remOf u r)).sum
        ≤ (u.map fun m => if 0 < remOf u r m then weightSum u else 0).sum := List.sum_le_sum each
      _ = weightSum u * (u.filter fun m => decide (0 < remOf u r m)).length := by
          rw [List.sum_map_ite]
          simp [Nat.mul_comm]
  refine Nat.le_of_mul_le_mul_left (c := weightSum u) ?_ pos
  rw [leftover, Nat.mul_sub, Nat.mul_comm _ r]
  omega

/-- The members left share out R_U (R78). -/
theorem sum_shareInU (nodup : (u.map fun m => m.bay).Nodup) (pos : 0 < weightSum u) :
    (u.map (shareInU u r)).sum = r := by
  have enough := (leftover_le (r := r) pos).trans (List.length_filter_le _ u)
  have base := sum_baseOf_le (r := r) pos
  have split : (u.map (shareInU u r)).sum = (u.map (baseOf u r)).sum +
      (u.map fun m => if rankOf u r m < leftover u r then 1 else 0).sum := List.sum_map_add ..
  rw [split, sum_rankOf_below nodup enough, leftover]
  omega

/-- A member with no remainder gets nothing of the leftover: those with a remainder come before it. -/
theorem leftover_le_rankOf (pos : 0 < weightSum u) (h : remOf u r m = 0) :
    leftover u r ≤ rankOf u r m := by
  refine (leftover_le pos).trans (List.monotone_filter_right u fun k hk => ?_).length_le
  have ahead : Precedes u r k m := .inl (h ▸ of_decide_eq_true hk)
  exact decide_eq_true ahead

/-- A member that does not exceed the cap has a share of at most the cap (R77, R78). -/
theorem shareInU_le {cap : Nat} (pos : 0 < weightSum u) (h : r * m.weight ≤ cap * weightSum u) :
    shareInU u r m ≤ cap := by
  have whole : weightSum u * baseOf u r m + remOf u r m = r * m.weight := Nat.div_add_mod _ _
  rw [Nat.mul_comm cap] at h
  rcases Nat.eq_zero_or_pos (remOf u r m) with even | uneven
  · rw [shareInU, if_neg (Nat.not_lt.2 (leftover_le_rankOf pos even))]
    exact Nat.le_of_mul_le_mul_left (by omega : weightSum u * baseOf u r m ≤ weightSum u * cap) pos
  · have below : baseOf u r m < cap :=
      Nat.lt_of_mul_lt_mul_left (by omega : weightSum u * baseOf u r m < weightSum u * cap)
    rw [shareInU]
    split <;> omega

end

/-! ## All the shares of one computation (R77 to R79) -/

section
variable {cap r q : Nat} {u v : List Member} {m : Member}

/-- The share of a member in a computation that ends with U and R_U (R77 to R79). -/
def shareOf (cap : Nat) (v : List Member) (q : Nat) (m : Member) : Nat :=
  if v.contains m then shareInU v q m else cap

theorem computeShares_eq (cap : Nat) (u : List Member) (r : Nat) :
    computeShares cap u r = u.map fun m =>
      (m.bay, shareOf cap (afterCapping cap u r).1 (afterCapping cap u r).2 m) := rfl

/-- The shares are those of the members, bay by bay. -/
theorem computeShares_bays (cap : Nat) (u : List Member) (r : Nat) :
    (computeShares cap u r).map (fun x => x.1) = u.map fun m => m.bay := by
  rw [computeShares_eq, List.map_map]
  rfl

theorem afterCapping_capped (cap : Nat) (u : List Member) (r : Nat) :
    Capped cap u r (afterCapping cap u r).1 (afterCapping cap u r).2 :=
  capRounds_capped cap u.length u r le_rfl

theorem Capped.sublist (h : Capped cap u r v q) : v.Sublist u := by
  obtain ⟨⟨p, rfl⟩, -⟩ := h
  exact List.filter_sublist

theorem weightSum_pos (weights : ∀ m ∈ u, 1 ≤ m.weight) (hm : m ∈ u) : 0 < weightSum u :=
  (weights m hm).trans (List.single_le_sum (fun _ _ => Nat.zero_le _) _ (List.mem_map_of_mem hm))

/-- The members left in U are those that U holds. -/
theorem Capped.filter_mem (h : Capped cap u r v q) : (u.filter fun m => decide (m ∈ v)) = v := by
  obtain ⟨⟨p, rfl⟩, -⟩ := h
  exact List.filter_congr fun m hm => by simp [hm]

/-- The members left share out R_U, and the others have their caps (R77, R78). -/
theorem Capped.sum_shareOf (h : Capped cap u r v q) :
    (u.map (shareOf cap v q)).sum + cap * v.length = (v.map (shareInU v q)).sum + cap * u.length := by
  have parts := List.length_eq_length_filter_add (l := u) fun m => decide (m ∈ v)
  have sums : (u.map (shareOf cap v q)).sum =
      (v.map (shareInU v q)).sum + cap * (u.filter fun m => !decide (m ∈ v)).length := by
    unfold shareOf
    rw [List.sum_map_ite]
    simp [h.filter_mem, Nat.mul_comm]
  rw [h.filter_mem] at parts
  rw [sums, parts, Nat.mul_add]
  omega

/-- A cap bounds every share (R77, R78). -/
theorem Capped.shareOf_le (h : Capped cap u r v q) (weights : ∀ m ∈ u, 1 ≤ m.weight) (m : Member) :
    shareOf cap v q m ≤ cap := by
  unfold shareOf
  split
  · next left =>
    have hm : m ∈ v := by simpa using left
    exact shareInU_le (weightSum_pos (fun k hk => weights k (h.sublist.subset hk)) hm) (h.fits m hm)
  · exact le_rfl

/-- Together the shares are the remainder, or all the caps where the remainder exceeds them (R77, R78). -/
theorem Capped.sum_shareOf_eq (h : Capped cap u r v q) (nodup : (u.map fun m => m.bay).Nodup)
    (weights : ∀ m ∈ u, 1 ≤ m.weight) : (u.map (shareOf cap v q)).sum = min r (u.length * cap) := by
  have total := h.sum_shareOf
  have split := h.split
  have atMost : (u.map (shareOf cap v q)).sum ≤ u.length * cap := by
    simpa using (u.map (shareOf cap v q)).sum_le_card_nsmul cap
      (List.forall_mem_map.2 fun m _ => h.shareOf_le weights m)
  rw [Nat.mul_comm] at atMost ⊢
  cases v with
  | nil =>
    simp only [List.map_nil, List.sum_nil, List.length_nil, Nat.mul_zero] at total split
    omega
  | cons m v =>
    have pos := weightSum_pos (fun k hk => weights k (h.sublist.subset hk)) List.mem_cons_self
    rw [sum_shareInU ((h.sublist.map _).nodup nodup) pos] at total
    omega

end

/-- Settles O51: the capping rounds, then the shares of the members left. -/
theorem sharesAddUpToTheRemainder : Obligations.SharesAddUpToTheRemainder := by
  intro cap r members _ _ nodup weights
  have capped := afterCapping_capped cap members r
  refine ⟨computeShares_bays cap members r, ?_, fun x hx => ?_⟩
  · rw [computeShares_eq, List.map_map]
    exact capped.sum_shareOf_eq nodup weights
  · obtain ⟨m, -, rfl⟩ := List.mem_map.1 (computeShares_eq cap members r ▸ hx)
    exact capped.shareOf_le weights m

end Sys2Proof.WeirOrders

namespace Sys2Proof.WeirOrders

open Sys2Proof Sys2Proof.Machine Sys2Proof.BayLine Sys2Proof.PeerTable

/-! ## An ORDER frame of another bay (R1, R3, R20) -/

section
variable {s : State} {bay : BitVec 6} {c : OrderContent}

/-- An ORDER frame whose fields lie within R2 goes to SHU (R3, R4). -/
theorem orderFrame_run (hown : s.own ≠ bay.toNat) (hlo : s.firstBay ≤ bay.toNat) (hhi : bay.toNat ≤ s.lastBay)
    (hstamp : c.stamp < 4096) (haggregate : c.aggregate ≤ 480000) :
    exec (.orderFrame bay (Frame.order c).payload) s =
      .next (takeOrder bay.toNat c (received bay.toNat s)) := by
  have id : (frameOf 4 bay (Frame.order c).payload).id.toNat = 256 + bay.toNat := by
    simp only [frameOf, BitVec.toNat_ofNat]
    omega
  have kind : rawKind (frameOf 4 bay (Frame.order c).payload) = 4 := by rw [rawKind, id]; omega
  have sender : rawSender (frameOf 4 bay (Frame.order c).payload) = bay.toNat := by
    rw [rawSender, id]
    omega
  have parsed : parseFrame s.firstBay s.lastBay (frameOf 4 bay (Frame.order c).payload) =
      some (.order c) := by
    have inRange : (Frame.order c).inRange 1 32 = true := by simp [Frame.inRange, hstamp, haggregate]
    have payload : parsePayload 4 (frameOf 4 bay (Frame.order c).payload).data = some (.order c) :=
      parsePayload_payload le_rfl inRange
    simp [parseFrame, kind, payload, claimantInRange]
  have valid : s.frameValid (frameOf 4 bay (Frame.order c).payload) = true := by
    simp [State.frameValid, kindAndBayOk, State.isDuplicate, kind, sender, parsed, hlo, hhi, Ne.symm hown]
  have run := receiveFrame_of_valid valid parsed
  rw [sender] at run
  exact congrArg _ run

/-- What a frame heard leaves of LIF and ACT (R20). -/
theorem received_inEvent (b : Nat) (s : State) : InEvent s (received b s) := by
  refine (countEvent_inEvent .frameReceived s).trans ?_
  change InEvent _ (heard b (countEvent .frameReceived s))
  generalize countEvent .frameReceived s = x
  have updated : InEvent x (x.updateEntry b Entry.heard) := .of_eq rfl rfl rfl (.refl _)
  have shared := updated.trans (shareReport_inEvent _)
  unfold heard
  split
  · exact .refl x
  · dsimp only
    split
    · exact updated
    · split
      · exact shared
      · exact updated
      · exact shared.trans (chooseSources_inEvent _)
      · exact shared.trans (chooseSources_inEvent _)

/-- A bay has an entry exactly when it is a bay of the table. -/
theorem entry_isSome_iff {k : Nat} :
    (s.entry k).isSome = true ↔ k ∈ s.ptb.entries.map fun e => e.bay := by
  simp [State.entry, List.find?_isSome]

/-- A frame heard leaves the configuration, the held order, and which bays have an entry (R20). -/
theorem received_keeps (b : Nat) (s : State) : (received b s).cfs = s.cfs ∧
    (received b s).shu.order = s.shu.order ∧
    ∀ k, (s.entry k).isSome = true → ((received b s).entry k).isSome = true := by
  have kept := (countEvent_lineKept .frameReceived s).trans (heard_lineKept b _)
  refine ⟨by simp [received], by simp [received], fun k hk => ?_⟩
  rw [received, entry_isSome_iff, kept.bays]
  exact entry_isSome_iff.1 hk

/-! ## The own share (R79) -/

/-- The own bay is a member of every computation (R74). -/
theorem own_mem_members (h : (s.entry s.own).isSome = true) : s.own ∈ s.members.map fun m => m.bay := by
  obtain ⟨e, found⟩ := Option.isSome_iff_exists.1 h
  have bay : e.bay = s.own := by simpa using List.find?_some found
  have member : e ∈ s.ptb.entries.filter fun e => e.bay == s.own || e.isMember :=
    List.mem_filter.2 ⟨List.mem_of_find?_eq_some found, by simp [bay]⟩
  rw [State.members, List.map_map]
  exact List.mem_map.2 ⟨e, member, bay⟩

/-- Every computation has an own share (R79). -/
theorem shareRecord_own (aggregate : Nat) (h : (s.entry s.own).isSome = true) :
    (s.shareRecord aggregate).own.isSome = true := by
  have own := own_mem_members h
  rw [← computeShares_bays s.openMax s.members (remainderOf aggregate (takenOf s.inputRows))] at own
  obtain ⟨x, hx, bay⟩ := List.mem_map.1 own
  rw [State.shareRecord, Option.isSome_map, List.find?_isSome]
  exact ⟨x, hx, by simpa using bay⟩

/-! ## A share handed to the WEIR slot (R82, R90) -/

/-- The WEIR slot has the share as its target (R90). -/
theorem handWeir_weirTarget (share : Nat) (s : State) :
    (handWeir share s).osl.weirTarget = some share := by
  unfold handWeir
  cases h : s.osl.weirTarget with
  | none => simp
  | some old =>
    dsimp only
    split
    · next same => rw [h, same]
    · split
      · simp
      · rfl

/-- A run on an adoption hands the own share to the WEIR slot (R82). -/
theorem runShares_adoption {o : WeirOrder} (held : s.shu.order = some o) (h : (s.entry s.own).isSome = true) :
    (runShares true s).osl.weirTarget = (runShares true s).shu.share.own ∧
      (runShares true s).shu.lastHanded = (runShares true s).shu.share.own := by
  obtain ⟨share, own⟩ := Option.isSome_iff_exists.1 (shareRecord_own o.aggregate h)
  simp [runShares, held, own, handWeir_weirTarget]

/-! ## Adoption (R67 to R70) -/

/-- An ORDER frame is adopted when its stamp is newer, or, unless it is a repeat, on an equal stamp with
another aggregate (R67 to R69). -/
theorem adoptsOrder_some_iff {h : WeirOrder} : adoptsOrder (some h) c = true ↔
    (1 ≤ (c.stamp + 4096 - h.stamp) % 4096 ∧ (c.stamp + 4096 - h.stamp) % 4096 ≤ 2047) ∨
      (c.isRepeat = false ∧ c.stamp = h.stamp ∧ c.aggregate ≠ h.aggregate) := by
  simp [adoptsOrder, stampNewer, and_assoc]

/-- An order that is not adopted leaves SHU and LIF. -/
theorem takeOrder_of_not_adopted {b : Nat} (h : adoptsOrder s.shu.order c = false) : takeOrder b c s = s := by
  simp [takeOrder, h]

/-- The station with an adopted order, before the shares are computed (R70, steps 1 to 3). -/
def adopted (b : Nat) (c : OrderContent) (s : State) : State :=
  restartRepeat (setAttention .orderAdopted (s.setShu { s.shu with
    order := some { stamp := c.stamp, aggregate := c.aggregate, origin := b } }))

theorem takeOrder_of_adopted {b : Nat} (out : s.cfs.out = false) (h : adoptsOrder s.shu.order c = true) :
    takeOrder b c s = runShares true (adopted b c s) := by
  simp [takeOrder, adopted, out, h]

/-- What an adopted order writes: the record, the repeat timer, the attention cause, and the own share in the
WEIR slot (R70). -/
theorem takeOrder_adopts {b : Nat} (out : s.cfs.out = false) (line : s.lif.line ≠ .off)
    (entry : (s.entry s.own).isSome = true) (h : adoptsOrder s.shu.order c = true) :
    (takeOrder b c s).shu.order = some { stamp := c.stamp, aggregate := c.aggregate, origin := b } ∧
      (takeOrder b c s).lif.repeatTimer = some 5000 ∧
      (takeOrder b c s).act.causes &&& 0x008 = 0x008 ∧
      (takeOrder b c s).osl.weirTarget = (takeOrder b c s).shu.share.own ∧
      (takeOrder b c s).shu.lastHanded = (takeOrder b c s).shu.share.own := by
  have order : (takeOrder b c s).shu.order =
      some { stamp := c.stamp, aggregate := c.aggregate, origin := b } := by rw [takeOrder_order b c out, if_pos h]
  refine ⟨order, ?_⟩
  rw [takeOrder_of_adopted out h]
  have ran := runShares_inEvent true (adopted b c s)
  refine ⟨?_, causes_kept ran.act (setAttention_sets .orderAdopted _), runShares_adoption rfl entry⟩
  rw [ran.repeatTimer]
  simp [adopted, restartRepeat, line]

end

/-- Settles O13: the sender is heard, and SHU adopts the order or leaves it. -/
theorem orderFramesAreAdoptedByStamp : Obligations.OrderFramesAreAdoptedByStamp := by
  intro s bay c out hown hlo hhi line hstamp haggregate entry
  have run := orderFrame_run hown hlo hhi hstamp haggregate
  have heard := received_inEvent bay.toNat s
  obtain ⟨cfs, order, entries⟩ := received_keeps bay.toNat s
  have own : (received bay.toNat s).own = s.own := by rw [State.own, State.own, cfs]
  refine ⟨_, run, fun adopt => ?_, fun ⟨h, held, range, keep⟩ => ?_⟩
  · refine takeOrder_adopts (by rw [cfs, out]) (by rw [heard.line]; exact line)
      (by rw [own]; exact entries _ entry) ?_
    rw [order]
    rcases adopt with unheld | ⟨h, held, newer⟩
    · rw [unheld]
      rfl
    · rw [held]
      exact adoptsOrder_some_iff.2 newer
  · rw [takeOrder_of_not_adopted, order, heard.repeatTimer]
    · exact ⟨rfl, rfl⟩
    · rw [order, held, ← Bool.not_eq_true, adoptsOrder_some_iff]
      rcases keep with older | ⟨same, again | equal⟩
      · omega
      · simp [same, again]
      · simp [same, equal]

end Sys2Proof.WeirOrders

namespace Sys2Proof.WeirOrders

open Sys2Proof Sys2Proof.Machine Sys2Proof.BayLine Sys2Proof.PeerTable

/-! ## ISSUE WEIR ORDER (R72) -/

section
variable {s : State}

theorem ownIssue_refused (h : s.cfs.out = true ∨ s.commissioning = true ∨ s.lif.line = .off) :
    ownIssue s = refuse .refusedState s := by
  rcases h with out | commissioning | off
  · simp [ownIssue, out]
  · simp [ownIssue, commissioning]
  · simp [ownIssue, off]

/-- The order that ISSUE WEIR ORDER queues (R72). -/
def issuedOrder (s : State) : OrderContent :=
  { stamp := s.nextStamp, isRepeat := false, aggregate := min (65536 * s.op0 + s.op1) 480000 }

theorem ownIssue_queues (hout : s.cfs.out = false) (hcom : s.commissioning = false)
    (hline : s.lif.line ≠ .off) :
    ownIssue s = Reply.mk (queueOrder (issuedOrder s) s) .done
      (decide (480000 < 65536 * s.op0 + s.op1)) := by
  simp [ownIssue, issuedOrder, hout, hcom, hline]

/-- A queued order stands in the ORDER slot while the line takes it (R7). -/
theorem queueOrder_orderSlot (c : OrderContent) (h : s.lineAccepts = true) :
    (queueOrder c s).lif.orderSlot = some c := by
  simp [queueOrder, h]

/-- ISSUE WEIR ORDER taken: the order is queued, and then the answer given (R72, R187). -/
theorem issueWeirOrder_queues {b : Byte} (idle : s.cfs.storeBusy = false) (hout : s.cfs.out = false)
    (hcom : s.commissioning = false) (hline : s.lif.line ≠ .off) :
    exec (.issueWeirOrder b) s = .next (answerCommand 0x03 .done
      (decide (480000 < 65536 * s.op0 + s.op1)) (queueOrder (issuedOrder s) (latchCommand 0x03 b s))) := by
  have owner := ownIssue_queues (s := latchCommand 0x03 b s) hout hcom hline
  have run := command_idle idle 0x03 b ownIssue
  rw [owner] at run
  exact congrArg _ run

end

/-- Settles O50: the owner refuses, or queues the order, and the answer follows. -/
theorem issuedOrdersAreQueued : Obligations.IssuedOrdersAreQueued := by
  intro s b idle
  refine ⟨fun h => congrArg _ (command_refused idle (ownIssue_refused h)), fun hout hcom hline => ?_⟩
  have accepts : (latchCommand 0x03 b s).lineAccepts = true := by
    simp [State.lineAccepts, latchCommand, hout, hline]
  refine ⟨_, issueWeirOrder_queues idle hout hcom hline, ?_, rfl, rfl, ?_, setAttention_sets .commandDone _,
    ?_⟩
  · simp only [answerCommand_frame, queueOrder_orderSlot _ accepts, issuedOrder, Nat.min_comm _ 480000]
    rfl
  · exact decide_eq_true_iff
  · simp

end Sys2Proof.WeirOrders

namespace Sys2Proof.OrderSelection

open Sys2Proof Sys2Proof.Machine Sys2Proof.BayLine Sys2Proof.Stagger

/-! ## The choice of R92 -/

/-- What the choice looks at in OSL: which of the slots 0 to 3 are pending, and the floor. -/
def SameSlots (o p : Osl) : Prop :=
  p.surge = o.surge ∧ p.tidal = o.tidal ∧ p.localTarget.isSome = o.localTarget.isSome ∧
    p.weirTarget.isSome = o.weirTarget.isSome ∧ p.floor = o.floor

theorem choose_congr {o p : Osl} (h : SameSlots o p) (w : Words) : p.choose w = o.choose w := by
  obtain ⟨surge, tidal, localPending, weirPending, floor⟩ := h
  have tide : p.eligible w .tidal = o.eligible w .tidal := by
    simp [Osl.eligible, Osl.target, tidal, floor]
  have order : p.eligible w .localOrder = o.eligible w .localOrder := by
    simp [Osl.eligible, Osl.target, localPending, floor]
  have weir : p.eligible w .weir = o.eligible w .weir := by
    simp [Osl.eligible, Osl.target, weirPending, floor]
  simp only [Osl.choose, surge, tide, order, weir]

/-- A slot that is not pending is not chosen. -/
theorem choose_ne_localOrder {o : Osl} (h : o.localTarget = none) (w : Words) : o.choose w ≠ .localOrder := by
  have pass {p : Prop} [Decidable p] {a b : Slot} (ha : a ≠ .localOrder) (hb : b ≠ .localOrder) :
      (if p then b else a) ≠ .localOrder := by
    split
    · exact hb
    · exact ha
  have ineligible : o.eligible w .localOrder = false := by simp [Osl.eligible, Osl.target, h]
  simp only [Osl.choose, ineligible, Bool.false_and, Bool.false_eq_true, if_false]
  exact pass (pass (pass (by decide) (by decide)) (by decide)) (by decide)

/-- With no slot pending REST is chosen. -/
theorem choose_rest {o : Osl} (hs : o.surge = false) (ht : o.tidal = false) (hl : o.localTarget = none)
    (hw : o.weirTarget = none) (w : Words) : o.choose w = .rest := by
  simp [Osl.choose, Osl.eligible, Osl.target, hs, ht, hl, hw]

/-- After a re-selection the selected slot is the one of R92. -/
theorem reselect_chosen (s : State) :
    (reselect s).osl.selected = (reselect s).osl.choose s.levels := by
  obtain ⟨selected, -⟩ := reselect_selected s
  rw [selected]
  exact (choose_congr (by simp [SameSlots]) _).symm

/-! ## What the selection and the service state rest on -/

/-- The SURGE and TIDAL slots follow STM (R86, R87). -/
def SlotsFollow (s : State) : Prop :=
  s.osl.surge = s.epochOdd ∧ s.osl.tidal = (s.stm.tidal == .flood)

theorem selectionOk_iff (s : State) :
    s.selectionOk = true ↔ SlotsFollow s ∧ s.osl.selected = s.osl.choose s.levels := by
  simp [State.selectionOk, SlotsFollow]

theorem serviceOk_iff (s : State) : s.serviceOk = true ↔ s.osl.service = s.serviceNow := by
  simp [State.serviceOk]

/-- All that the selection rests on: the slots and the floor, the selected slot, the parity of the epoch and the
tidal state, and the words that give the levels. -/
def SameChoice (s t : State) : Prop :=
  SameSlots s.osl t.osl ∧ t.osl.selected = s.osl.selected ∧ t.stm.epoch % 2 = s.stm.epoch % 2 ∧
    t.stm.tidal = s.stm.tidal ∧ t.cfs.out = s.cfs.out ∧ t.cfs.working = s.cfs.working

/-- All that the service state rests on, itself included (R95). -/
def SameService (s t : State) : Prop :=
  t.osl.service = s.osl.service ∧ t.osl.selected = s.osl.selected ∧ t.cfs.out = s.cfs.out ∧
    t.cfs.image.isSome = s.cfs.image.isSome ∧ t.fmn.causes.isEmpty = s.fmn.causes.isEmpty ∧
    t.fmn.hold = s.fmn.hold ∧ t.ptb.listen.isSome = s.ptb.listen.isSome

section
variable {s t u x : State}

theorem SameChoice.selectionOk (h : SameChoice s t) : t.selectionOk = s.selectionOk := by
  obtain ⟨slots, selected, epoch, tidal, out, working⟩ := h
  have choice := choose_congr slots
  obtain ⟨surge, tide, -⟩ := slots
  simp only [State.selectionOk, State.epochOdd, State.levels, choice, surge, tide, selected, epoch, tidal, out,
    working]

theorem SameService.serviceOk (h : SameService s t) : t.serviceOk = s.serviceOk := by
  obtain ⟨service, selected, out, image, causes, hold, listen⟩ := h
  have now : t.serviceNow = s.serviceNow := by
    simp [State.serviceNow, State.faultLatched, State.commissioning, selected, out, image, causes, hold, listen]
  rw [State.serviceOk, State.serviceOk, service, now]

/-! ## What every operation keeps -/

/-- The selection of R92 and the service state of R95 are kept, each on its own. -/
structure SelectionKept (s t : State) : Prop where
  selection : s.selectionOk = true → t.selectionOk = true
  service : s.serviceOk = true → t.serviceOk = true

theorem SelectionKept.refl (s : State) : SelectionKept s s := ⟨id, id⟩

theorem SelectionKept.trans (h : SelectionKept s t) (k : SelectionKept t u) : SelectionKept s u :=
  ⟨fun x => k.selection (h.selection x), fun x => k.service (h.service x)⟩

theorem SelectionKept.ite {p : Prop} [Decidable p] (h : SelectionKept s t) :
    SelectionKept s (if p then t else s) := by
  split
  · exact h
  · exact .refl s

theorem SelectionKept.of_same (h : SameChoice s t) (k : SameService s t) : SelectionKept s t :=
  ⟨fun x => by rw [h.selectionOk, x], fun x => by rw [k.serviceOk, x]⟩

/-- OSL is left alone, and so are the fields of the other blocks that it looks at. -/
def Apart (s t : State) : Prop :=
  t.osl = s.osl ∧ t.stm.epoch = s.stm.epoch ∧ t.stm.tidal = s.stm.tidal ∧ t.cfs = s.cfs ∧
    t.fmn.causes = s.fmn.causes ∧ t.fmn.hold = s.fmn.hold ∧ t.ptb.listen = s.ptb.listen

theorem Apart.kept (h : Apart s t) : SelectionKept s t := by
  obtain ⟨osl, epoch, tidal, cfs, causes, hold, listen⟩ := h
  exact .of_same (by simp [SameChoice, SameSlots, osl, epoch, tidal, cfs])
    (by simp [SameService, osl, cfs, causes, hold, listen])

/-- After an evaluation the service state is the one of R95, whatever it was before (R96). -/
theorem evalService_serviceOk (s : State) : (evalService s).serviceOk = true := by
  simp [serviceOk_iff]

/-- An operation that evaluates the service state need only keep what the selection rests on. -/
theorem SameChoice.evaluated (h : SameChoice s x) : SelectionKept s (evalService x) where
  selection hs := by
    have same : SameChoice x (evalService x) := by simp [SameChoice, SameSlots]
    rw [same.selectionOk, h.selectionOk, hs]
  service _ := evalService_serviceOk x

theorem reselect_serviceOk (h : s.serviceOk = true) : (reselect s).serviceOk = true := by
  have told (k : Slot) (y : State) : (surgeReport k (targetReport (evalService y))).serviceOk = true := by
    have same : SameService (evalService y) (surgeReport k (targetReport (evalService y))) := by
      simp [SameService]
    rw [same.serviceOk, evalService_serviceOk]
  unfold reselect
  dsimp only
  split
  · exact h
  · exact told _ _

theorem reselect_selectionOk (h : SlotsFollow s) : (reselect s).selectionOk = true := by
  have levels : (reselect s).levels = s.levels := by simp [State.levels]
  rw [selectionOk_iff, levels]
  exact ⟨by simpa [SlotsFollow, State.epochOdd] using h, reselect_chosen s⟩

/-- An operation that re-selects need only see to it that the slots follow STM (R93). -/
theorem SameService.reselected (h : SameService s x) (slots : SlotsFollow s → SlotsFollow x) :
    SelectionKept s (reselect x) where
  selection hs := reselect_selectionOk (slots ((selectionOk_iff s).1 hs).1)
  service hs := reselect_serviceOk (by rw [h.serviceOk, hs])

end

end Sys2Proof.OrderSelection

namespace Sys2Proof.OrderSelection

open Sys2Proof Sys2Proof.Machine Sys2Proof.BayLine Sys2Proof.Stagger

/-! ## What leaves OSL alone -/

section
variable (s : State)

theorem setAttention_selection (c : AttnCause) : SelectionKept s (setAttention c s) :=
  Apart.kept (by simp [Apart])

theorem countEvent_selection (e : CountedEvent) : SelectionKept s (countEvent e s) :=
  Apart.kept (by simp [Apart])

theorem setMtc_selection (m : Mtc) : SelectionKept s (s.setMtc m) := Apart.kept (by simp [Apart])

theorem setShu_selection (x : Shu) : SelectionKept s (s.setShu x) := Apart.kept (by simp [Apart])

theorem updateEntry_selection (b : Nat) (f : Entry → Entry) : SelectionKept s (s.updateEntry b f) :=
  Apart.kept (by simp [Apart])

theorem queueSurge_selection (e : Nat) : SelectionKept s (queueSurge e s) := Apart.kept (by simp [Apart])

theorem restartRepeat_selection : SelectionKept s (restartRepeat s) := Apart.kept (by simp [Apart])

theorem testClaim_selection : SelectionKept s (testClaim s) := Apart.kept (by simp [Apart])

theorem chooseSources_selection : SelectionKept s (chooseSources s) := Apart.kept (by simp [Apart])

theorem settleNow_selection : SelectionKept s (settleNow s) := Apart.kept (by simp [Apart])

end

/-! ## Slots and shares -/

section
variable (s : State)

/-- A slot becomes pending or is withdrawn, or the floor moves, and OSL re-selects (R88 to R91, R93). -/
theorem changed_selection {x : Osl} (hs : x.surge = s.osl.surge) (ht : x.tidal = s.osl.tidal)
    (hk : x.selected = s.osl.selected) (hv : x.service = s.osl.service) :
    SelectionKept s (reselect (s.setOsl x)) :=
  SameService.reselected (by simp [SameService, hk, hv])
    fun h => by simpa [SlotsFollow, State.epochOdd, hs, ht] using h

/-- A pending slot's new target, reported to CLU or not (R98). -/
theorem newTarget_selection {x : Osl} {p : Prop} [Decidable p] (h : SameSlots s.osl x)
    (hk : x.selected = s.osl.selected) (hv : x.service = s.osl.service) :
    SelectionKept s (if p then targetReport (s.setOsl x) else s.setOsl x) := by
  have written : SelectionKept s (s.setOsl x) :=
    .of_same (by simp [SameChoice, h, hk]) (by simp [SameService, hk, hv])
  split
  · exact written.trans (Apart.kept (by simp [Apart]))
  · exact written

theorem handWeir_selection (share : Nat) : SelectionKept s (handWeir share s) := by
  unfold handWeir
  dsimp only
  split
  · exact changed_selection s rfl rfl rfl rfl
  · next old pending =>
    split
    · exact .refl s
    · exact newTarget_selection s (by simp [SameSlots, pending]) rfl rfl

theorem setLocal_selection (target : Nat) : SelectionKept s (setLocal target s) := by
  unfold setLocal
  dsimp only
  split
  · exact changed_selection s rfl rfl rfl rfl
  · next old pending =>
    split
    · exact .refl s
    · exact newTarget_selection s (by simp [SameSlots, pending]) rfl rfl

theorem runShares_selection (adoption : Bool) : SelectionKept s (runShares adoption s) := by
  unfold runShares
  split
  · exact .refl s
  · dsimp only
    split
    · exact (setShu_selection s _).trans <| (setShu_selection _ _).trans (handWeir_selection _ _)
    · exact setShu_selection s _

theorem shareReport_selection : SelectionKept s (shareReport s) := by
  unfold shareReport
  split
  · exact .refl s
  · exact runShares_selection s false

theorem openingReport_selection (b opening : Nat) : SelectionKept s (openingReport b opening s) := by
  unfold openingReport
  split
  · exact .refl s
  · split
    · exact .refl s
    · exact (shareReport_selection s).ite

theorem weightReport_selection (b : Nat) : SelectionKept s (weightReport b s) := by
  unfold weightReport
  split
  · exact .refl s
  · exact (shareReport_selection s).ite

theorem takeOrder_selection (b : Nat) (c : OrderContent) : SelectionKept s (takeOrder b c s) := by
  unfold takeOrder
  split
  · exact .refl s
  · exact (setShu_selection s _).trans <| (setAttention_selection _ _).trans <|
      (restartRepeat_selection _).trans (runShares_selection _ true)

/-! ## The surge epoch -/

/-- An epoch of the other parity: OSL takes the slot of SURGE with it and re-selects (R86, R113). -/
theorem epochAdopted_selection (e : Nat) : SelectionKept s (reselect (epochAdopted e s)) := by
  refine SameService.reselected (by simp [SameService, epochAdopted]) fun h => ⟨?_, ?_⟩
  · rw [epochAdopted_odd]
    simp
  · simpa [epochAdopted] using h.2

theorem changeEpoch_selection (e : Nat) : SelectionKept s (changeEpoch e s) := by
  have adopted := epochAdopted_selection s e
  rw [changeEpoch_eq]
  split
  · exact .refl s
  · split
    · next parity => exact .of_same (by simp [SameChoice, SameSlots, parity]) (by simp [SameService])
    · split
      · exact adopted
      · split
        · exact adopted.trans (Apart.kept (by simp [Apart]))
        · exact adopted.trans (Apart.kept (by simp [Apart]))

theorem raiseEpoch_selection : SelectionKept s (raiseEpoch s) := by
  unfold raiseEpoch
  split
  · exact .refl s
  · exact (changeEpoch_selection s _).trans (queueSurge_selection _ _)

theorem raiseTests_selection : SelectionKept s (raiseTests s) := by
  unfold raiseTests
  dsimp only
  split
  · exact .refl s
  · exact (raiseEpoch_selection s).ite.trans (raiseEpoch_selection _).ite

theorem clearEpoch_selection : SelectionKept s (clearEpoch s) :=
  .ite <| (changeEpoch_selection s _).trans <| (queueSurge_selection _ _).trans (raiseTests_selection _)

theorem adoptEpoch_selection (e : Nat) : SelectionKept s (adoptEpoch e s) := by
  unfold adoptEpoch
  split
  · exact .refl s
  · exact (changeEpoch_selection s e).trans (raiseTests_selection _).ite

theorem surgeFromPeer_selection (e : Nat) : SelectionKept s (surgeFromPeer e s) := by
  unfold surgeFromPeer
  split
  · exact (adoptEpoch_selection s e).ite
  · exact (settleNow_selection s).trans (adoptEpoch_selection _ e)

theorem epochFromStatus_selection (e : Nat) (senderFresh : Bool) :
    SelectionKept s (epochFromStatus e senderFresh s) := by
  unfold epochFromStatus
  split
  · exact (adoptEpoch_selection s e).ite
  · exact (settleNow_selection s).trans (adoptEpoch_selection _ e)

/-! ## The tidal state -/

/-- OSL takes the TIDAL slot with the tidal state; where the slot stands as it is to be there is nothing to choose
again (R87, R111). -/
theorem changeTide_selection (t : Tidal) : SelectionKept s (changeTide t s) := by
  unfold changeTide setTidalSlot
  dsimp only
  split
  · next same =>
    refine ⟨fun h => ?_, fun h => ?_⟩
    · rw [selectionOk_iff] at h ⊢
      obtain ⟨⟨surge, -⟩, chosen⟩ := h
      exact ⟨⟨surge, same⟩, chosen⟩
    · rwa [SameService.serviceOk (s := s) (by simp [SameService])]
  · exact SameService.reselected (by simp [SameService])
      fun h => ⟨by simpa [State.epochOdd] using h.1, by simp⟩

theorem tidalRules_selection (head : Int) : SelectionKept s (tidalRules head s) := by
  have counted (n : Nat) : SelectionKept s (s.setStm { s.stm with confirmRun := n }) :=
    Apart.kept (by simp [Apart])
  unfold tidalRules
  dsimp only
  split
  · exact changeTide_selection s _
  · split
    · split
      · exact changeTide_selection s _
      · exact counted _
    · exact counted _

theorem tidalStep_selection : SelectionKept s (tidalStep s) := by
  unfold tidalStep
  split
  · exact tidalRules_selection s _
  · exact .refl s

theorem stageSample_selection (u d : BitVec 12) : SelectionKept s (stageSample u d s) := by
  have rings : SelectionKept s (validityStep s.stm (writeRings u d s)) := Apart.kept (by simp [Apart])
  have surge (t : State) : SelectionKept t (surgeStep t) :=
    SelectionKept.trans (t := t.setStm { t.stm with surgeRun := t.stm.nextRun t.cfs.working })
      (Apart.kept (by simp [Apart])) (raiseEpoch_selection _).ite
  unfold stageSample
  split
  · exact .refl s
  · exact rings.trans <| (surge _).trans (tidalStep_selection _)

/-! ## Faults and conditions -/

/-- A first fault evaluates the service state (R167). -/
theorem firstFault_selection (c : Cause) : SelectionKept s (firstFault c s) := by
  refine SelectionKept.trans (SameChoice.evaluated ?_) (setAttention_selection _ _)
  simp [SameChoice, SameSlots]

/-- A later fault finds the service state FAULTED already (R168). -/
theorem secondFault_selection (c : Cause) (h : s.fmn.causes ≠ noCauses) :
    SelectionKept s (secondFault c s) := by
  have latched : (s.fmn.causes.add c).isEmpty = s.fmn.causes.isEmpty := by
    simp [CauseSet.isEmpty, h, add_ne_noCauses]
  exact .of_same (by simp [SameChoice, SameSlots]) (by simp [SameService, secondFault_fmn, latched])

theorem reportFault_selection (c : Cause) : SelectionKept s (reportFault c s) := by
  unfold reportFault
  split
  · exact .refl s
  · split
    · exact firstFault_selection s c
    · next h => exact secondFault_selection s c fun empty => h ((isEmpty_iff _).2 empty)

theorem reportIf_selection (p : Bool) (c : Cause) : SelectionKept s (reportIf p c s) :=
  (reportFault_selection s c).ite

/-- The cleared faults evaluate the service state before CLU's test (R173). -/
theorem clearFaults_selection : SelectionKept s (clearFaults s) := by
  unfold clearFaults
  dsimp only
  refine SelectionKept.trans (SameChoice.evaluated ?_) (testClaim_selection _)
  split <;> simp [SameChoice, SameSlots]

theorem takeHold_selection : SelectionKept s (takeHold s) :=
  SameChoice.evaluated (by simp [SameChoice, SameSlots])

theorem takeSupplyLow_selection : SelectionKept s (takeSupplyLow s) :=
  Apart.kept (by simp [Apart, takeSupplyLow])

/-! ## The servo sample -/

theorem readEncoders_selection (l r : EncoderRead) : SelectionKept s (readEncoders l r s) := by
  have read : SelectionKept s (countRead (s.mtc.right.take r) (countRead (s.mtc.left.take l)
      (s.setMtc { s.mtc with left := s.mtc.left.take l, right := s.mtc.right.take r }))) :=
    Apart.kept (by simp [Apart])
  exact read.trans <| (reportIf_selection _ _ _).trans (reportIf_selection _ _ _)

theorem sampleTests_selection : SelectionKept s (sampleTests s) :=
  (reportIf_selection s _ .overtravel).trans <| (reportIf_selection _ _ .skewTrip).trans
    (setMtc_selection _ _)

theorem sampleDrives_selection : SelectionKept s (sampleDrives s) := by
  have driven : SelectionKept s (computeDrives (advanceSetpoint s)) := Apart.kept (by simp [Apart])
  exact driven.trans <| (setMtc_selection _ _).trans <| (reportIf_selection _ _ .stallL).trans
    (reportIf_selection _ _ .stallR)

theorem sampleSteps_selection : SelectionKept s (sampleSteps s) := by
  have ended (b : Bool) (t : State) : SelectionKept t (leaveFaultStop (handOver (settleAndTrim b t))) :=
    Apart.kept (by simp [Apart])
  exact (sampleTests_selection s).trans <| (sampleDrives_selection _).trans (ended _ _)

/-- The target of REST takes no part in the choice (R92, R94). -/
theorem awaitRest_selection : SelectionKept s (awaitRest s) := by
  unfold awaitRest
  exact .ite (.of_same (by simp [SameChoice, SameSlots, captureRest])
    (by simp [SameService, captureRest]))

theorem sample_selection (l r : EncoderRead) : SelectionKept s (sample l r s) := by
  unfold sample
  dsimp only
  split
  · exact (readEncoders_selection s l r).trans (Apart.kept (by simp [Apart]))
  · exact (readEncoders_selection s l r).trans <| (sampleSteps_selection _).trans <|
      (awaitRest_selection _).trans (Apart.kept (by simp [Apart]))

/-! ## Peers and frames -/

theorem heard_selection (b : Nat) : SelectionKept s (heard b s) := by
  have updated := updateEntry_selection s b Entry.heard
  have shared := updated.trans (shareReport_selection _)
  have sources := shared.trans (chooseSources_selection _)
  unfold heard
  split
  · exact .refl s
  · dsimp only
    split
    · exact updated
    · split
      · exact shared
      · exact updated
      · exact sources
      · exact sources

theorem listenStart_selection : SelectionKept s (listenStart s) :=
  SameChoice.evaluated (by simp [SameChoice, SameSlots])

theorem listenEnd_selection : SelectionKept s (listenEnd s) := by
  have tested (t : State) : SelectionKept t (testClaim (reportUnknown t)) := Apart.kept (by simp [Apart])
  refine SelectionKept.trans (SameChoice.evaluated ?_) (tested _)
  simp [SameChoice, SameSlots]

theorem takeStatusA_selection (b : Nat) (c : StatusA) : SelectionKept s (takeStatusA b c s) := by
  unfold takeStatusA
  split
  · exact .refl s
  · exact (updateEntry_selection s b _).trans <| (shareReport_selection _).ite.trans <|
      (openingReport_selection _ _ _).ite.trans <| (testClaim_selection _).ite.trans
      (listenEnd_selection _).ite

theorem takeStatusB_selection (b : Nat) (c : StatusB) : SelectionKept s (takeStatusB b c s) := by
  unfold takeStatusB
  split
  · exact .refl s
  · dsimp only
    split
    · exact updateEntry_selection s b _
    · exact (updateEntry_selection s b _).trans <| (epochFromStatus_selection _ _ _).trans <|
        (weightReport_selection _ _).ite.trans (chooseSources_selection _).ite

theorem deliver_selection (b : Nat) (f : Frame) : SelectionKept s (deliver b f s) := by
  cases f with
  | surge e => exact surgeFromPeer_selection s e
  | verdict c => exact Apart.kept (by simp [Apart, deliver])
  | claim c => exact Apart.kept (by simp [Apart, deliver])
  | order c => exact takeOrder_selection s b c
  | statusA c => exact takeStatusA_selection s b c
  | statusB c => exact takeStatusB_selection s b c

theorem receiveFrame_selection (f : RawFrame) : SelectionKept s (receiveFrame f s) := by
  unfold receiveFrame
  split
  · exact countEvent_selection s _
  · split
    · exact (reportFault_selection s _).trans (countEvent_selection _ _)
    · split
      · exact countEvent_selection s _
      · exact (countEvent_selection s _).trans <| (heard_selection _ _).trans (deliver_selection _ _ _)

theorem takeOwnFrame_selection (f : Frame) : SelectionKept s (takeOwnFrame f s) := by
  cases f with
  | surge e => exact (adoptEpoch_selection s _).ite
  | verdict c => exact Apart.kept (by simp [Apart, takeOwnFrame])
  | claim c => exact Apart.kept (by simp [Apart, takeOwnFrame])
  | order c => exact (takeOrder_selection s _ c).trans (restartRepeat_selection _)
  | statusA c => exact Apart.kept (by simp [Apart, takeOwnFrame])
  | statusB c => exact Apart.kept (by simp [Apart, takeOwnFrame])

end

end Sys2Proof.OrderSelection

namespace Sys2Proof.OrderSelection

open Sys2Proof Sys2Proof.Machine Sys2Proof.BayLine Sys2Proof.Stagger

/-! ## The host's commands and the selection -/

section
variable (s : State)

theorem answerCommand_selection (code : Byte) (a : Answer) (clamped : Bool) :
    SelectionKept s (answerCommand code a clamped s) := Apart.kept (by simp [Apart])

theorem latchCommand_selection (code b : Byte) : SelectionKept s (latchCommand code b s) :=
  Apart.kept (by simp [Apart])

/-- A COMMAND write keeps what its owner keeps (R187). -/
theorem command_selection {owner : State → Reply} (h : ∀ u, SelectionKept u (owner u).state) (code b : Byte) :
    SelectionKept s (command code b owner s) := by
  unfold command
  dsimp only
  split
  · exact (latchCommand_selection s code b).trans (answerCommand_selection _ _ _ _)
  · exact (latchCommand_selection s code b).trans <| (h _).trans (answerCommand_selection _ _ _ _)

/-- A refusal, or what the owner does where the command is not refused. -/
theorem refusal_selection {p : Prop} [Decidable p] {a : Answer} {r : Reply} (h : SelectionKept s r.state) :
    SelectionKept s (if p then refuse a s else r).state := by
  split
  · exact .refl s
  · exact h

theorem ownSetLocal_selection : SelectionKept s (ownSetLocal s).state := by
  refine refusal_selection s ?_
  split
  · exact setLocal_selection s _
  · exact setLocal_selection s _

theorem ownWithdrawLocal_selection : SelectionKept s (ownWithdrawLocal s).state :=
  refusal_selection s (changed_selection s rfl rfl rfl rfl)

theorem ownSetFloor_selection (floor : Nat) : SelectionKept s (ownSetFloor floor s).state :=
  refusal_selection s <| refusal_selection s (changed_selection s rfl rfl rfl rfl)

theorem ownIssue_selection : SelectionKept s (ownIssue s).state := by
  have queued (c : OrderContent) : SelectionKept s (queueOrder c s) := Apart.kept (by simp [Apart])
  exact refusal_selection s <| refusal_selection s (queued _)

theorem ownRaise_selection : SelectionKept s (ownRaise s).state :=
  refusal_selection s <| refusal_selection s (raiseEpoch_selection s)

theorem ownClear_selection : SelectionKept s (ownClear s).state :=
  refusal_selection s <| refusal_selection s <| refusal_selection s <| refusal_selection s <|
    refusal_selection s <| refusal_selection s (clearEpoch_selection s)

theorem ownDeclare_selection (bay : Nat) : SelectionKept s (ownDeclare bay s).state := by
  refine refusal_selection s <| refusal_selection s <| refusal_selection s ?_
  split
  · exact .refl s
  · exact refusal_selection s <| (updateEntry_selection s _ _).trans (testClaim_selection _)

theorem ownWithdraw_selection (bay : Nat) : SelectionKept s (ownWithdraw bay s).state := by
  refine refusal_selection s <| refusal_selection s ?_
  split
  · exact .refl s
  · exact (updateEntry_selection s _ _).trans <| (setAttention_selection _ _).ite.trans
      (testClaim_selection _)

theorem ownFaultReset_selection : SelectionKept s (ownFaultReset s).state :=
  refusal_selection s <| refusal_selection s <| refusal_selection s (clearFaults_selection s)

theorem ownTrim_selection (b : Byte) : SelectionKept s (ownTrim b s).state := by
  have begun (t : Trim) : SelectionKept s (beginTrim t s) := Apart.kept (by simp [Apart])
  refine refusal_selection s ?_
  split
  · exact .refl s
  · refine refusal_selection s <| refusal_selection s <| refusal_selection s ?_
    split
    · exact refusal_selection s (begun _)
    · exact .refl s

theorem setAct_selection (x : Act) : SelectionKept s (s.setAct x) := Apart.kept (by simp [Apart])

theorem ownSelect_selection (n : Nat) : SelectionKept s (ownSelect n s).state :=
  refusal_selection s <| refusal_selection s (setAct_selection s _)

theorem ownCounterReset_selection (n : Nat) : SelectionKept s (ownCounterReset n s).state := by
  refine refusal_selection s ?_
  split
  · exact setAct_selection s _
  · exact setAct_selection s _

theorem ownRelease_selection : SelectionKept s (ownRelease s).state := by
  unfold ownRelease
  split
  · exact setAct_selection s _
  · exact .refl s

/-- A change of CFS that neither enters nor leaves commissioning (R191). -/
theorem setCfs_selection {c : Cfs} (image : c.image.isSome = s.cfs.image.isSome)
    (out : c.out = s.cfs.out := by rfl) (working : c.working = s.cfs.working := by rfl) :
    SelectionKept s (s.setCfs c) :=
  .of_same (by simp [SameChoice, SameSlots, out, working]) (by simp [SameService, out, image])

/-- HELD is taken with the image (R96, R191). -/
theorem enterCommissioning_selection (b : Byte) : SelectionKept s (enterCommissioning b s) :=
  SameChoice.evaluated (by simp [SameChoice, SameSlots])

theorem ownEnter_selection (b : Byte) : SelectionKept s (ownEnter b s).state := by
  refine refusal_selection s <| refusal_selection s ?_
  split
  · exact enterCommissioning_selection s b
  · exact refusal_selection s <| refusal_selection s (enterCommissioning_selection s b)

theorem ownWrite_selection (b : Byte) : SelectionKept s (ownWrite b s).state := by
  unfold ownWrite
  split
  · exact .refl s
  · next image =>
    exact refusal_selection s <| refusal_selection s (setCfs_selection s (by simp [image]))

theorem ownStore_selection : SelectionKept s (ownStore s).state := by
  unfold ownStore
  split
  · exact .refl s
  · dsimp only
    split
    · exact setCfs_selection s rfl
    · exact setCfs_selection s rfl

theorem ownLeave_selection : SelectionKept s (ownLeave s).state := by
  have ended (t : State) : SelectionKept t (testClaim (conditionEnds t)) := Apart.kept (by simp [Apart])
  unfold ownLeave
  split
  · refine SelectionKept.trans (SameChoice.evaluated ?_) (ended _)
    simp [SameChoice, SameSlots]
  · exact .refl s

theorem completeStore_selection : SelectionKept s (completeStore s) :=
  .of_same (by simp [SameChoice, SameSlots]) (by simp [SameService, completeStore])

end

end Sys2Proof.OrderSelection

namespace Sys2Proof.OrderSelection

open Sys2Proof Sys2Proof.Machine Sys2Proof.BayLine Sys2Proof.Stagger

/-! ## Every command and the selection -/

section
variable (s : State)

/-- A row that sets a test before its operation. -/
theorem next_ite {p : Prop} [Decidable p] {s t : State} (h : SelectionKept s t) :
    ∃ u, (Host.Outcome.next (if p then t else s) : Host.Outcome State Fault Refusal) = .next u ∧
      SelectionKept s u :=
  ⟨_, rfl, h.ite⟩

/-- A row whose operation is ruled out by a test. -/
theorem next_unless {p : Prop} [Decidable p] {s t : State} (h : SelectionKept s t) :
    ∃ u, (Host.Outcome.next (if p then s else t) : Host.Outcome State Fault Refusal) = .next u ∧
      SelectionKept s u := by
  refine ⟨_, rfl, ?_⟩
  split
  · exact .refl s
  · exact h

/-- HOLD goes with the service state that is evaluated next (R175). -/
theorem holdReleased_selection : ∃ t, execHoldReleased s = .next t ∧ SelectionKept s t := by
  refine next_ite (SelectionKept.trans (SameChoice.evaluated ?_) (testClaim_selection _))
  simp [SameChoice, SameSlots]

/-- SUPPLY_LOW and the good timer take no part in the service state (R95). -/
theorem setFmn_selection {x : Fmn} (causes : x.causes = s.fmn.causes := by rfl)
    (hold : x.hold = s.fmn.hold := by rfl) : SelectionKept s (s.setFmn x) := Apart.kept (by simp [Apart, causes, hold])

theorem setPins_selection (x : Pins) : SelectionKept s (s.setPins x) := Apart.kept (by simp [Apart])

theorem setLif_selection (x : Lif) : SelectionKept s (s.setLif x) := Apart.kept (by simp [Apart])

theorem setLpt_selection (x : Lpt) : SelectionKept s (s.setLpt x) := Apart.kept (by simp [Apart])

theorem supplyGoesLow_selection : ∃ t, execSupplyGoesLow s = .next t ∧ SelectionKept s t := by
  refine next_ite ?_
  dsimp only
  split
  · exact (setPins_selection s _).trans (setFmn_selection _)
  · exact (setPins_selection s _).trans (takeSupplyLow_selection _)

theorem supplyGoesGood_selection : ∃ t, execSupplyGoesGood s = .next t ∧ SelectionKept s t := by
  refine next_unless ?_
  dsimp only
  split
  · exact (setPins_selection s _).trans (setFmn_selection _)
  · exact setPins_selection s _

theorem surgeInActive_selection : ∃ t, execSurgeInActive s = .next t ∧ SelectionKept s t := by
  refine next_unless ?_
  dsimp only
  split
  · exact setPins_selection s _
  · exact (setPins_selection s _).trans (raiseEpoch_selection _)

theorem attemptBegin_selection : ∃ t, execAttemptBegin s = .next t ∧ SelectionKept s t := by
  refine next_ite ?_
  split
  · exact setLif_selection s _
  · exact .refl s

theorem attemptSuccess_selection : ∃ t, execAttemptSuccess s = .next t ∧ SelectionKept s t := by
  have on (t : State) : SelectionKept t (lineOn t) :=
    .ite <| (setLif_selection t _).trans <| (setFmn_selection _).trans (testClaim_selection _)
  cases h : s.lif.attempt with
  | none => exact ⟨s, by simp [execAttemptSuccess, h], .refl s⟩
  | some a =>
    exact ⟨_, execAttemptSuccess_eq h, (setLif_selection s _).trans <| (countEvent_selection _ _).trans <|
      (takeOwnFrame_selection _ _).trans (on _)⟩

theorem failAttempt_selection : SelectionKept s (failAttempt s) := by
  have resolved (t : State) : SelectionKept t (claimLineOff t) := Apart.kept (by simp [Apart])
  have off (t : State) : SelectionKept t (goOff t) :=
    (setLif_selection t _).trans <| (setFmn_selection _).trans (resolved _)
  exact (setLif_selection s _).trans <| (countEvent_selection _ _).trans (off _).ite

/-- The rejoin starts a listen period, and with it evaluates the service state (R26). -/
theorem offTimer_selection : ∃ t, execOffTimer s = .next t ∧ SelectionKept s t := by
  have started (t : State) : SelectionKept t (startStatuses t) := Apart.kept (by simp [Apart])
  have written (t : State) (c : Clu) : SelectionKept t (t.setClu c) := Apart.kept (by simp [Apart])
  exact next_ite <| (setLif_selection s _).trans <| (started _).trans <| (listenStart_selection _).trans <|
    (written _ _).trans (restartRepeat_selection _)

theorem statusAPeriod_selection : ∃ t, execStatusAPeriod s = .next t ∧ SelectionKept s t := by
  refine ⟨_, rfl, ?_⟩
  split
  · exact .refl s
  · exact Apart.kept (by simp [Apart])

theorem statusBPeriod_selection : ∃ t, execStatusBPeriod s = .next t ∧ SelectionKept s t := by
  refine ⟨_, rfl, ?_⟩
  split
  · exact .refl s
  · exact Apart.kept (by simp [Apart])

theorem orderRepeat_selection : ∃ t, execOrderRepeatTimer s = .next t ∧ SelectionKept s t := by
  have repeated (p : Prop) [Decidable p] (c : OrderContent) : SelectionKept s (if p then restartRepeat s
      else queueOrder c (s.setLif { s.lif with repeatTimer := none })) := by
    split
    · exact restartRepeat_selection s
    · exact Apart.kept (by simp [Apart])
  refine next_ite ?_
  cases s.shu.order with
  | none => exact restartRepeat_selection s
  | some o => exact repeated _ _

theorem releaseTimer_selection : ∃ t, execReleaseTimer s = .next t ∧ SelectionKept s t := by
  have left (t : State) : SelectionKept t (leavePriming t) := Apart.kept (by simp [Apart])
  refine next_ite ?_
  dsimp only
  split
  · exact (setMtc_selection s _).trans (left _)
  · exact setMtc_selection s _
  all_goals exact .refl s

theorem registerWrite_selection (addr : BitVec 7) (w : Word) :
    ∃ t, execRegisterWrite addr w s = .next t ∧ SelectionKept s t := by
  refine ⟨_, rfl, ?_⟩
  split
  · exact setLpt_selection s _
  · exact (setLpt_selection s _).ite

theorem peerLapse_selection (b : Nat) : ∃ t, execPeerLapse b s = .next t ∧ SelectionKept s t :=
  next_ite <| (updateEntry_selection s _ _).trans <| (countEvent_selection _ _).trans <|
    (setAttention_selection _ _).trans <| (shareReport_selection _).trans (chooseSources_selection _)

theorem exec_selection {c : Instr} (hc : isReset c = false) :
    ∃ t, exec c s = .next t ∧ SelectionKept s t := by
  cases c with
  | powerOnReset l r | pinReset l r | restart b l r => cases hc
  | servoSample l r => exact ⟨_, rfl, sample_selection s l r⟩
  | encoderFault h l r | stallWindowEnd h l r => exact next_ite (sample_selection s l r)
  | settleCountFull l r => exact next_ite (sample_selection s l r)
  | stageSample u d => exact ⟨_, rfl, stageSample_selection s u d⟩
  | tidalStateChange u d | surgeRunComplete u d => exact next_ite (stageSample_selection s u d)
  | surgeInActive => exact surgeInActive_selection s
  | surgeInInactive => exact ⟨_, rfl, setPins_selection s _⟩
  | holdTaken => exact next_unless <| (setPins_selection s _).trans (takeHold_selection _)
  | holdReleased => exact holdReleased_selection s
  | supplyGoesLow => exact supplyGoesLow_selection s
  | supplyGoesGood => exact supplyGoesGood_selection s
  | goodTimer => exact next_ite (Apart.kept (by simp [Apart]))
  | attemptBegin => exact attemptBegin_selection s
  | attemptSuccess => exact attemptSuccess_selection s
  | attemptLostContention winner =>
    exact next_ite <| (setLif_selection s _).trans (receiveFrame_selection _ winner)
  | attemptFailure | lineOff => exact next_ite (failAttempt_selection s)
  | offTimer => exact offTimer_selection s
  | statusAPeriod => exact statusAPeriod_selection s
  | statusBPeriod => exact statusBPeriod_selection s
  | orderRepeatTimer => exact orderRepeat_selection s
  | frameDiscarded f => exact next_unless (receiveFrame_selection s f)
  | statusAFrame bay data | statusBFrame bay data | surgeFrame bay data | verdictFrame bay data
  | claimFrame bay data | orderFrame bay data => exact ⟨_, rfl, receiveFrame_selection s _⟩
  | listenTimer => exact next_ite (listenEnd_selection s)
  | peerLapse b => exact peerLapse_selection s b
  | askingTimer | claimWindow | backoffTimer => exact next_ite (Apart.kept (by simp [Apart]))
  | settleTimer => exact next_ite (settleNow_selection s)
  | pumpSettle => exact next_ite (setMtc_selection s _)
  | releaseTimer => exact releaseTimer_selection s
  | settleTimeout | trimLimitTimeout => exact next_ite (Apart.kept (by simp [Apart]))
  | runOn => exact ⟨_, rfl, Apart.kept (by simp [Apart])⟩
  | storeComplete => exact next_ite (completeStore_selection s)
  | attnCauseWrite w | attnMaskWrite w => exact ⟨_, rfl, setAct_selection s _⟩
  | resetCauseWrite w | tableSelectWrite w | tableIndexWrite w => exact ⟨_, rfl, setLpt_selection s _⟩
  | registerWrite addr w => exact registerWrite_selection s addr w
  | setLocalOrder b => exact ⟨_, rfl, command_selection s ownSetLocal_selection _ _⟩
  | withdrawLocalOrder b => exact ⟨_, rfl, command_selection s ownWithdrawLocal_selection _ _⟩
  | issueWeirOrder b => exact ⟨_, rfl, command_selection s ownIssue_selection _ _⟩
  | raiseSurge b => exact ⟨_, rfl, command_selection s ownRaise_selection _ _⟩
  | clearSurge b => exact ⟨_, rfl, command_selection s ownClear_selection _ _⟩
  | setFloor b => exact ⟨_, rfl, command_selection s (ownSetFloor_selection · _) _ _⟩
  | declareBound b => exact ⟨_, rfl, command_selection s (ownDeclare_selection · _) _ _⟩
  | withdrawDeclaration b => exact ⟨_, rfl, command_selection s (ownWithdraw_selection · _) _ _⟩
  | faultReset b => exact ⟨_, rfl, command_selection s ownFaultReset_selection _ _⟩
  | trim b => exact ⟨_, rfl, command_selection s (ownTrim_selection · b) _ _⟩
  | counterSelect n => exact ⟨_, rfl, command_selection s (ownSelect_selection · _) _ _⟩
  | counterReset n => exact ⟨_, rfl, command_selection s (ownCounterReset_selection · _) _ _⟩
  | counterRelease n => exact ⟨_, rfl, command_selection s ownRelease_selection _ _⟩
  | freezeMode n => exact ⟨_, rfl, command_selection s (setAct_selection · _) _ _⟩
  | enterCommissioning b => exact ⟨_, rfl, command_selection s (ownEnter_selection · b) _ _⟩
  | commissionWrite b => exact ⟨_, rfl, command_selection s (ownWrite_selection · b) _ _⟩
  | commissionStore b => exact ⟨_, rfl, command_selection s ownStore_selection _ _⟩
  | leaveCommissioning b => exact ⟨_, rfl, command_selection s ownLeave_selection _ _⟩
  | unknownCommand code b =>
    exact next_ite (command_selection s (owner := refuse .refusedRange) (fun u => .refl u) _ _)

end

end Sys2Proof.OrderSelection

namespace Sys2Proof.OrderSelection

open Sys2Proof Sys2Proof.Machine Sys2Proof.BayLine Sys2Proof.Stagger

/-! ## The resets and the step -/

section
variable (k : ResetKind) (s : State)

/-- At reset no slot is pending, and REST is selected (R100). -/
theorem blocksReset_selectionOk : (blocksReset k s).selectionOk = true := by
  rw [selectionOk_iff, choose_rest rfl rfl rfl rfl]
  exact ⟨⟨rfl, rfl⟩, rfl⟩

theorem startConditions_selection : SelectionKept s (startConditions s) := by
  have held : SelectionKept s (heldAtStart s) := .ite (takeHold_selection s)
  rw [startConditions_eq]
  split
  · exact held
  · exact held.trans (takeSupplyLow_selection _)

theorem startStage_selection : SelectionKept s (startStage s) := by
  have timed : SelectionKept s (s.setStm { s.stm with settle := some s.peerTimeout }) :=
    Apart.kept (by simp [Apart])
  exact timed.trans (raiseEpoch_selection _).ite

/-- A start: the conditions keep the selection, and the service state is OUT from the reset on, or evaluated as the
listen period begins (R95, R164). -/
theorem reset_selectionOk (l r : EncoderRead) :
    (reset k l r s).selectionOk = true ∧ (reset k l r s).serviceOk = true := by
  have conditions := startConditions_selection (blocksReset k s)
  have selection := conditions.selection (blocksReset_selectionOk k s)
  unfold reset
  dsimp only
  split
  · next out =>
    have silent : (blocksReset k s).serviceOk = true := by
      rw [serviceOk_iff, serviceNow_of_out out, blocksReset_osl, out]
      rfl
    have stage := startStage_selection (startConditions (blocksReset k s))
    exact ⟨stage.selection selection, stage.service (conditions.service silent)⟩
  · have statuses (t : State) : SelectionKept t (startStatuses t) := Apart.kept (by simp [Apart])
    have rest := (startStage_selection (listenStart (startConditions (blocksReset k s)))).trans <|
      (sample_selection _ l r).trans (statuses _)
    exact ⟨rest.selection ((listenStart_selection _).selection selection),
      rest.service (evalService_serviceOk _)⟩

/-- A millisecond starts and ends no listen period (log 3). -/
theorem tick_selection : SelectionKept s (tick s) :=
  .of_same (by simp [SameChoice, SameSlots, tick, advanceClocks])
    (by simp [SameService, tick, advanceClocks, tickTimer])

/-- A command keeps the selection and the service state, or is a reset and makes them anew. -/
theorem exec_keeps_selection (c : Instr) : ∃ t, exec c s = .next t ∧ SelectionKept s t := by
  have anew (k : ResetKind) (l r : EncoderRead) : SelectionKept s (reset k l r s) :=
    ⟨fun _ => (reset_selectionOk k s l r).1, fun _ => (reset_selectionOk k s l r).2⟩
  cases hc : isReset c with
  | false => exact exec_selection s hc
  | true =>
    cases c with
    | powerOnReset l r => exact ⟨_, rfl, anew _ l r⟩
    | pinReset l r => exact ⟨_, rfl, anew _ l r⟩
    | restart b l r =>
      rcases restart_cases b l r s with run | run
      · exact ⟨_, run, anew _ l r⟩
      · exact ⟨_, run, (latchCommand_selection s _ _).trans (answerCommand_selection _ _ _ _)⟩
    | _ => cases hc

theorem step_selection {s t : State} (h : step s = .next t) : SelectionKept s t := by
  cases hp : s.pending with
  | nil =>
    obtain rfl : tick s = t := by simpa [step, hp] using h
    exact tick_selection s
  | cons c rest =>
    obtain ⟨u, run, kept⟩ := exec_keeps_selection (s.setPending rest) c
    obtain rfl : u = t := by simpa [step, hp, run] using h
    have queue : SelectionKept s (s.setPending rest) := Apart.kept (by simp [Apart])
    exact queue.trans kept

end

/-- Settles O40: every step keeps the selection of R92 and, of itself, the service state of R95. -/
theorem everyStepKeepsTheSelection : Obligations.EveryStepKeepsTheSelection :=
  fun _ _ selection service h =>
    ⟨(step_selection h).selection selection, (step_selection h).service service⟩

end Sys2Proof.OrderSelection

namespace Sys2Proof.OrderSelection

open Sys2Proof Sys2Proof.Machine Sys2Proof.BayLine Sys2Proof.PeerTable

/-! ## SET LOCAL ORDER, WITHDRAW LOCAL ORDER and SET FLOOR (R88, R89, R91) -/

section
variable {s : State}

/-- An answer as RESULT holds it (R187). -/
theorem answerCommand_lpt (code : Byte) (a : Answer) (clamped : Bool) (s : State) :
    (answerCommand code a clamped s).lpt =
      { s.lpt with resultCode := code, clamped := clamped, answer := a } := by
  unfold answerCommand
  dsimp only
  split <;> simp

/-- The LOCAL slot holds the target, pending before or not (R88). -/
theorem setLocal_localTarget (target : Nat) (s : State) :
    (setLocal target s).osl.localTarget = some target := by
  unfold setLocal
  cases h : s.osl.localTarget with
  | none => simp
  | some old =>
    dsimp only
    split
    · next same => rw [h, same]
    · split
      · simp
      · rfl

/-- What SET LOCAL ORDER does where it is accepted: the operand is clamped to OPEN_MAX (R88). -/
theorem ownSetLocal_accepts (hout : s.cfs.out = false) (hcom : s.commissioning = false) :
    ownSetLocal s = Reply.mk (setLocal (min s.op0 s.openMax) s) .done (decide (s.openMax < s.op0)) := by
  by_cases above : s.openMax < s.op0
  · simp [ownSetLocal, hout, hcom, above, Nat.le_of_lt above]
  · simp [ownSetLocal, hout, hcom, above, Nat.le_of_not_lt above, done]

theorem ownSetLocal_refused (h : s.cfs.out = true ∨ s.commissioning = true) :
    ownSetLocal s = refuse .refusedState s := by
  simp [ownSetLocal, h]

theorem ownWithdrawLocal_refused
    (h : s.cfs.out = true ∨ s.commissioning = true ∨ s.osl.localTarget = none) :
    ownWithdrawLocal s = refuse .refusedState s := by
  simp [ownWithdrawLocal, or_assoc, h]

/-- The LOCAL slot is withdrawn, and OSL re-selects (R89). -/
def localWithdrawn (s : State) : State := reselect (s.setOsl { s.osl with localTarget := none })

theorem ownWithdrawLocal_accepts (hout : s.cfs.out = false) (hcom : s.commissioning = false)
    (pending : s.osl.localTarget.isSome = true) : ownWithdrawLocal s = done (localWithdrawn s) := by
  have present : s.osl.localTarget.isNone = false := by simpa using pending
  simp [ownWithdrawLocal, localWithdrawn, hout, hcom, present]

theorem localWithdrawn_frame (s : State) : (localWithdrawn s).osl.localTarget = none ∧
    (localWithdrawn s).ptb = s.ptb ∧ (localWithdrawn s).shu = s.shu ∧ (localWithdrawn s).stm = s.stm ∧
    (localWithdrawn s).fmn = s.fmn ∧ (localWithdrawn s).cfs = s.cfs := by
  simp [localWithdrawn]

/-- A withdrawn LOCAL slot is not selected (R92). -/
theorem localWithdrawn_selected (s : State) : (localWithdrawn s).osl.selected ≠ .localOrder := by
  rw [localWithdrawn, reselect_chosen]
  exact choose_ne_localOrder (by simp) _

/-- The floor is written, and OSL re-selects (R91). -/
def floorSet (floor : Nat) (s : State) : State := reselect (s.setOsl { s.osl with floor := floor })

theorem ownSetFloor_accepts {floor : Nat} (hout : s.cfs.out = false) (h : floor ≤ 6) :
    ownSetFloor floor s = done (floorSet floor s) := by
  simp [ownSetFloor, floorSet, hout, Nat.not_lt.2 h]

theorem floorSet_frame (floor : Nat) (s : State) : (floorSet floor s).osl.floor = floor ∧
    (floorSet floor s).osl.localTarget = s.osl.localTarget ∧
    (floorSet floor s).osl.weirTarget = s.osl.weirTarget ∧ (floorSet floor s).ptb = s.ptb ∧
    (floorSet floor s).shu = s.shu ∧ (floorSet floor s).stm = s.stm ∧ (floorSet floor s).fmn = s.fmn ∧
    (floorSet floor s).cfs = s.cfs := by
  simp [floorSet]

/-- A new floor chooses again (R91, R92). -/
theorem floorSet_selected (floor : Nat) (hout : s.cfs.out = false) :
    (floorSet floor s).osl.selected = (floorSet floor s).osl.choose s.cfs.working := by
  have levels : (s.setOsl { s.osl with floor := floor }).levels = s.cfs.working :=
    levels_of_running hout
  rw [floorSet, reselect_chosen, levels]

/-! Each command taken: its owner's change, and then the answer (R187). -/

variable {b : Byte}

theorem setLocalOrder_accepted (idle : s.cfs.storeBusy = false) (hout : s.cfs.out = false)
    (hcom : s.commissioning = false) : exec (.setLocalOrder b) s = .next (answerCommand 0x01 .done
      (decide (Param.openMax s.cfs.working < s.lpt.operand0.toNat))
      (setLocal (min s.lpt.operand0.toNat (Param.openMax s.cfs.working)) (latchCommand 0x01 b s))) := by
  have owner := ownSetLocal_accepts (s := latchCommand 0x01 b s) hout hcom
  have run := command_idle idle 0x01 b ownSetLocal
  rw [owner] at run
  exact congrArg _ run

theorem withdrawLocalOrder_accepted (idle : s.cfs.storeBusy = false) (hout : s.cfs.out = false)
    (hcom : s.commissioning = false) (pending : s.osl.localTarget.isSome = true) :
    exec (.withdrawLocalOrder b) s =
      .next (answerCommand 0x02 .done false (localWithdrawn (latchCommand 0x02 b s))) :=
  congrArg _ (command_done idle (ownWithdrawLocal_accepts hout hcom pending))

theorem setFloor_accepted (idle : s.cfs.storeBusy = false) (hout : s.cfs.out = false) (range : b.toNat ≤ 6) :
    exec (.setFloor b) s =
      .next (answerCommand 0x06 .done false (floorSet b.toNat (latchCommand 0x06 b s))) :=
  congrArg _ (command_done idle (ownSetFloor_accepts hout range))

end

/-- Settles O49: each owner refuses by its table, or changes its slot or the floor, and the answer follows. -/
theorem localOrdersAndTheFloor : Obligations.LocalOrdersAndTheFloor := by
  intro s b idle
  refine ⟨fun h => ⟨?_, ?_⟩, fun hout hcom => ?_, fun hout hcom absent => ?_, fun hout hcom pending => ?_,
    fun hout => ?_, fun hout range => ?_, fun hout range => ?_⟩
  · exact congrArg _ (command_refused idle (ownSetLocal_refused h))
  · exact congrArg _ (command_refused idle (ownWithdrawLocal_refused (h.imp_right .inl)))
  · refine ⟨_, setLocalOrder_accepted idle hout hcom, ?_⟩
    simp [setLocal_localTarget, answerCommand_lpt]
  · exact congrArg _ (command_refused idle (ownWithdrawLocal_refused (.inr (.inr absent))))
  · refine ⟨_, withdrawLocalOrder_accepted idle hout hcom pending, ?_⟩
    simp [answerCommand_lpt, localWithdrawn_frame, localWithdrawn_selected]
  · exact congrArg _ (command_refused idle (by simp [ownSetFloor, hout]))
  · exact congrArg _ (command_refused idle (by simp [ownSetFloor, hout, range]))
  · have selected := floorSet_selected (s := latchCommand 0x06 b s) b.toNat hout
    refine ⟨_, setFloor_accepted idle hout range, ?_⟩
    simpa [answerCommand_lpt, floorSet_frame] using selected

end Sys2Proof.OrderSelection

namespace Sys2Proof.StageTideSurge

open Sys2Proof Sys2Proof.Machine Sys2Proof.BayLine Sys2Proof.PeerTable Sys2Proof.Stagger
open Sys2Proof.OrderSelection

/-! ## A change of the epoch and its effects (R113) -/

section
variable {s : State} {e : Nat}

theorem epochOdd_of_even (h : s.stm.epoch % 2 = 0) : s.epochOdd = false := by simp [State.epochOdd, h]

theorem epochOdd_of_odd (h : s.stm.epoch % 2 = 1) : s.epochOdd = true := by simp [State.epochOdd, h]

/-- An even epoch becomes odd: OSL re-selects, then CLU acts on its claim (R55, R113). -/
theorem changeEpoch_of_odd (out : s.cfs.out = false) (even : s.stm.epoch % 2 = 0) (odd : e % 2 = 1) :
    changeEpoch e s = surgeAbandon (reselect (epochAdopted e s)) := by
  have running : (reselect (epochAdopted e s)).cfs.out = false := by simpa using out
  rw [changeEpoch_eq, if_neg (by rintro rfl; omega), if_neg (by omega), running, if_neg (by decide),
    if_pos (beq_iff_eq.2 odd)]

/-- An odd epoch becomes even: OSL re-selects, then CLU tests its claim conditions (R40, R113). -/
theorem changeEpoch_of_even (out : s.cfs.out = false) (odd : s.stm.epoch % 2 = 1) (even : e % 2 = 0) :
    changeEpoch e s = endClosureRow (testClaim (reselect (epochAdopted e s))) := by
  have running : (reselect (epochAdopted e s)).cfs.out = false := by simpa using out
  rw [changeEpoch_eq, if_neg (by rintro rfl; omega), if_neg (by omega), running, if_neg (by decide),
    if_neg (by simp [even])]

/-- Every change of the epoch sets SURGE_CHANGE (R113, R206). -/
theorem changeEpoch_sets (ne : e ≠ s.stm.epoch) : (changeEpoch e s).act.causes &&& 0x002 = 0x002 := by
  have adopted : (epochAdopted e s).act = (setAttention .surgeChange s).act := rfl
  have causes : (changeEpoch e s).act = (setAttention .surgeChange s).act := by
    rw [changeEpoch_eq, if_neg ne, ← adopted]
    split
    · rfl
    · split
      · simp
      · split <;> simp
  rw [causes]
  exact setAttention_sets .surgeChange s

/-- The SURGE slot is withdrawn with an even epoch, and another slot selected (R86, R92). -/
theorem changeEpoch_deselects (out : s.cfs.out = false) (odd : s.stm.epoch % 2 = 1) (even : e % 2 = 0) :
    (changeEpoch e s).osl.surge = false ∧ (changeEpoch e s).osl.selected ≠ .surge := by
  have slot : (epochAdopted e s).osl.surge = false := by simp [even]
  obtain ⟨chosen, pending⟩ := reselect_selected (epochAdopted e s)
  have osl : (changeEpoch e s).osl = (reselect (epochAdopted e s)).osl := by
    simp [changeEpoch_of_even out odd even, endClosureRow]
  rw [osl, pending, chosen, Ne, choose_surge_iff, slot]
  exact ⟨rfl, Bool.false_ne_true⟩

/-- The SURGE slot is pending with an odd epoch, and it is selected (R86, R92). -/
theorem changeEpoch_selects (out : s.cfs.out = false) (even : s.stm.epoch % 2 = 0) (odd : e % 2 = 1) :
    (changeEpoch e s).osl.surge = true ∧ (changeEpoch e s).osl.selected = .surge := by
  have slot : (epochAdopted e s).osl.surge = true := by simp [odd]
  obtain ⟨chosen, pending⟩ := reselect_selected (epochAdopted e s)
  have osl : (changeEpoch e s).osl = (reselect (epochAdopted e s)).osl := by
    simp [changeEpoch_of_odd out even odd]
  rw [osl, pending, chosen, choose_surge_iff]
  exact ⟨slot, slot⟩

/-- SURGE becoming selected reports nothing to CLU while a claim is on its way (R97, R99). -/
theorem reselect_clu_of_surge (pending : s.osl.surge = true)
    (active : s.clu.state = .asking ∨ s.clu.state = .pending) : (reselect s).clu = s.clu := by
  have chosen : s.osl.choose s.levels = .surge := (choose_surge_iff _ _).2 pending
  rcases reselect_cases s with ⟨-, run⟩ | ⟨x, run, -, selected, -, -, clu, -, -, -⟩
  · rw [run]
  · have silent : targetReport x = x := by
      unfold targetReport
      rcases active with h | h <;> simp [clu, h]
    rw [run, silent, ← clu]
    unfold surgeReport
    split
    · rfl
    · simp [selected, chosen]

/-- A claim that is ASKING or PENDING is abandoned, with no backoff (R55). -/
theorem surgeAbandon_clu (active : s.clu.state = .asking ∨ s.clu.state = .pending) :
    (surgeAbandon s).clu.state = .still ∧ (surgeAbandon s).clu.lastOutcome = .abandoned ∧
      (surgeAbandon s).clu.lastNumber = s.clu.number ∧
      (surgeAbandon s).clu.backoff = s.clu.backoff := by
  have resolved (x : State) (clu : x.clu = s.clu) (run : surgeAbandon s = resolveClaim .abandoned x) :
      (surgeAbandon s).clu.state = .still ∧ (surgeAbandon s).clu.lastOutcome = .abandoned ∧
        (surgeAbandon s).clu.lastNumber = s.clu.number ∧
        (surgeAbandon s).clu.backoff = s.clu.backoff := by
    obtain ⟨state, -, -, number, outcome, -⟩ := resolveClaim_writes x .abandoned
    obtain ⟨-, -, -, -, -, backoff, -⟩ := resolveClaim_leaves x .abandoned
    rw [run, ← clu]
    exact ⟨state, outcome, number, backoff⟩
  rcases active with asking | pending
  · exact resolved (withdrawClaim s) (by simp) (by simp [surgeAbandon, asking])
  · exact resolved s rfl (by simp [surgeAbandon, pending])

/-- An odd epoch abandons a claim that is ASKING or PENDING (R55, R113). -/
theorem changeEpoch_abandons (out : s.cfs.out = false) (even : s.stm.epoch % 2 = 0) (odd : e % 2 = 1)
    (active : s.clu.state = .asking ∨ s.clu.state = .pending) :
    (changeEpoch e s).clu.state = .still ∧ (changeEpoch e s).clu.lastOutcome = .abandoned ∧
      (changeEpoch e s).clu.lastNumber = s.clu.number ∧
      (changeEpoch e s).clu.backoff = s.clu.backoff := by
  obtain ⟨-, -, state, -, -, slot, -, -⟩ := epochAdopted_frame e s
  have kept : (reselect (epochAdopted e s)).clu = (epochAdopted e s).clu :=
    reselect_clu_of_surge (by rw [slot, odd]; rfl) (by rwa [state])
  rw [changeEpoch_of_odd out even odd]
  obtain ⟨still, outcome, number, backoff⟩ :=
    surgeAbandon_clu (s := reselect (epochAdopted e s)) (by rwa [kept, state])
  rw [kept] at number backoff
  exact ⟨still, outcome, number, backoff⟩

/-! ## A SURGE frame queued (R7, R112) -/

/-- A request for a SURGE frame is taken while the line is not OFF, and dropped in OFF (R7, R17). -/
theorem queueSurge_surgeSlot (out : s.cfs.out = false) :
    (s.lif.line ≠ .off → (queueSurge e s).lif.surgeSlot = some e) ∧
      (s.lif.line = .off → (queueSurge e s).lif.surgeSlot = s.lif.surgeSlot) := by
  refine ⟨fun line => ?_, fun line => ?_⟩ <;> simp [queueSurge, State.lineAccepts, out, line]

/-- The SURGE frame asked for after a change of the epoch (R112). -/
theorem queueSurge_changeEpoch_surgeSlot (out : s.cfs.out = false) :
    (s.lif.line ≠ .off → (queueSurge e (changeEpoch e s)).lif.surgeSlot = some e) ∧
      (s.lif.line = .off → (queueSurge e (changeEpoch e s)).lif.surgeSlot = s.lif.surgeSlot) := by
  have changed := changeEpoch_inEvent e s
  have queued := queueSurge_surgeSlot (s := changeEpoch e s) (e := e) (by simpa using out)
  rwa [changed.line, changed.surgeSlot] at queued

/-! ## A raise (R112) -/

theorem raiseEpoch_of_odd (odd : s.stm.epoch % 2 = 1) : raiseEpoch s = s := by
  simp [raiseEpoch, epochOdd_of_odd odd]

theorem raiseEpoch_of_even (even : s.stm.epoch % 2 = 0) :
    raiseEpoch s = queueSurge (s.stm.epoch + 1) (changeEpoch (s.stm.epoch + 1) s) := by
  simp [raiseEpoch, epochOdd_of_even even]

/-- STM is left as it was but for the epoch. -/
theorem raiseEpoch_stm (even : s.stm.epoch % 2 = 0) :
    (raiseEpoch s).stm = { s.stm with epoch := s.stm.epoch + 1 } := by
  simp [raiseEpoch_of_even even, changeEpoch_stm]

/-- What an event that raises an even epoch makes of it, of OSL, ACT and the SURGE slot of LIF (R112,
R113). -/
structure Raised (s t : State) : Prop where
  epoch : t.stm.epoch = s.stm.epoch + 1
  pending : t.osl.surge = true
  selected : t.osl.selected = .surge
  causes : t.act.causes &&& 0x002 = 0x002
  queued : s.lif.line ≠ .off → t.lif.surgeSlot = some (s.stm.epoch + 1)
  dropped : s.lif.line = .off → t.lif.surgeSlot = s.lif.surgeSlot

theorem raiseEpoch_raises (out : s.cfs.out = false) (even : s.stm.epoch % 2 = 0) :
    Raised s (raiseEpoch s) := by
  obtain ⟨pending, selected⟩ := changeEpoch_selects (e := s.stm.epoch + 1) out even (by omega)
  obtain ⟨queued, dropped⟩ := queueSurge_changeEpoch_surgeSlot (e := s.stm.epoch + 1) out
  rw [raiseEpoch_of_even even]
  exact {
    epoch := by simp [changeEpoch_stm]
    pending := by simpa using pending
    selected := by simpa using selected
    causes := by simpa using changeEpoch_sets (s := s) (e := s.stm.epoch + 1) (by omega)
    queued := queued
    dropped := dropped }

/-- A raise of an even epoch abandons a claim that is ASKING or PENDING (R55). -/
theorem raiseEpoch_abandons (out : s.cfs.out = false) (even : s.stm.epoch % 2 = 0)
    (active : s.clu.state = .asking ∨ s.clu.state = .pending) :
    (raiseEpoch s).clu.state = .still ∧ (raiseEpoch s).clu.lastOutcome = .abandoned ∧
      (raiseEpoch s).clu.lastNumber = s.clu.number ∧
      (raiseEpoch s).clu.backoff = s.clu.backoff := by
  have clu : (raiseEpoch s).clu = (changeEpoch (s.stm.epoch + 1) s).clu := by
    simp [raiseEpoch_of_even even]
  rw [clu]
  exact changeEpoch_abandons out even (by omega) active

/-! ## A clear (R112) -/

/-- A clear of an odd epoch, with no condition to raise for again (R112). -/
theorem clearEpoch_of_odd (odd : s.stm.epoch % 2 = 1) (pin : s.pins.surgeIn = false)
    (stage : s.stageCondition = false) : clearEpoch s =
      queueSurge ((s.stm.epoch + 1) % 16) (changeEpoch ((s.stm.epoch + 1) % 16) s) := by
  simp only [clearEpoch, epochOdd_of_odd odd, if_true]
  refine raiseTests_of_quiet (by simpa using pin) ?_
  rw [← stage, stageCondition_congr (s := s)] <;> simp

/-- What a clear of an odd epoch makes of it, of OSL, ACT and the SURGE slot of LIF (R112, R113). -/
structure Cleared (s t : State) : Prop where
  epoch : t.stm.epoch = (s.stm.epoch + 1) % 16
  withdrawn : t.osl.surge = false
  selected : t.osl.selected ≠ .surge
  causes : t.act.causes &&& 0x002 = 0x002
  queued : s.lif.line ≠ .off → t.lif.surgeSlot = some ((s.stm.epoch + 1) % 16)

theorem clearEpoch_clears (out : s.cfs.out = false) (odd : s.stm.epoch % 2 = 1)
    (pin : s.pins.surgeIn = false) (stage : s.stageCondition = false) : Cleared s (clearEpoch s) := by
  have even : (s.stm.epoch + 1) % 16 % 2 = 0 := by omega
  obtain ⟨withdrawn, selected⟩ := changeEpoch_deselects out odd even
  rw [clearEpoch_of_odd odd pin stage]
  exact {
    epoch := by simp [changeEpoch_stm]
    withdrawn := by simpa using withdrawn
    selected := by simpa using selected
    causes := by
      simpa using changeEpoch_sets (s := s) (e := (s.stm.epoch + 1) % 16) (fun same => by omega)
    queued := (queueSurge_changeEpoch_surgeSlot out).1 }

end

/-! ## The answers of the host's two commands (R187) -/

section
variable {s : State}

/-- The answer DONE sets COMMAND_DONE beside SURGE_CHANGE (R187, R206). -/
theorem answerCommand_done_causes (code : Byte) (h : s.act.causes &&& 0x002 = 0x002) :
    (answerCommand code .done false s).act.causes &&& 0x202 = 0x202 := by
  have causes : (answerCommand code .done false s).act.causes = s.act.causes ||| 0x200 := rfl
  have bits : (0x202 : BitVec 10) = 0x002 ||| 0x200 := rfl
  rw [causes, bits, BitVec.and_or_distrib_left, BitVec.and_or_distrib_right, h]
  ext i
  simp only [BitVec.getElem_or, BitVec.getElem_and]
  grind

/-- RAISE SURGE is refused while the station is unsettled (R116). -/
theorem ownRaise_refused (unsettled : s.stm.settled = false) : ownRaise s = refuse .refusedState s := by
  cases h : s.cfs.out <;> simp [ownRaise, h, unsettled]

theorem ownRaise_raises (out : s.cfs.out = false) (settled : s.stm.settled = true) :
    ownRaise s = done (raiseEpoch s) := by
  simp [ownRaise, out, settled]

/-- The first four rows of the table of R117. -/
theorem ownClear_refusedState
    (h : s.cfs.out = true ∨ s.stm.settled = false ∨ s.stm.epoch % 2 = 0 ∨ s.lif.line = .off) :
    ownClear s = refuse .refusedState s := by
  simp only [ownClear, State.epochOdd]
  rcases h with out | unsettled | even | off
  · simp [out]
  · simp [unsettled]
  · simp [even]
  · simp [off]

/-- The D mean persists exactly from the surge level less its hysteresis up (R117). -/
theorem surgePersists_iff : s.surgePersists = true ↔ ∃ m, ringMean s.stm.ringD = some m ∧
    Param.surgeLevel s.cfs.working - Param.surgeHyst s.cfs.working ≤ m := by
  simp only [State.surgePersists, Option.any_eq_true, decide_eq_true_eq]

/-- Past its first four rows, R117 looks at SURGE_IN and the D mean. -/
theorem ownClear_of_clearable (out : s.cfs.out = false) (settled : s.stm.settled = true)
    (odd : s.stm.epoch % 2 = 1) (line : s.lif.line ≠ .off) : ownClear s =
      if s.pins.surgeIn = true ∨ s.surgePersists = true then refuse .refusedCausePersists s
      else done (clearEpoch s) := by
  have awake : ¬ s.cfs.out = true := by simp [out]
  have known : ¬ (!s.stm.settled) = true := by simp [settled]
  have raised : ¬ (!s.epochOdd) = true := by simp [epochOdd_of_odd odd]
  rw [ownClear, if_neg awake, if_neg known, if_neg raised, if_neg line]
  cases s.pins.surgeIn <;> simp

/-- The rows of R117 that find the cause persisting: SURGE_IN, or the D mean. -/
theorem ownClear_refusedCause (out : s.cfs.out = false) (settled : s.stm.settled = true)
    (odd : s.stm.epoch % 2 = 1) (line : s.lif.line ≠ .off)
    (persists : s.pins.surgeIn = true ∨ ∃ m, ringMean s.stm.ringD = some m ∧
      Param.surgeLevel s.cfs.working - Param.surgeHyst s.cfs.working ≤ m) :
    ownClear s = refuse .refusedCausePersists s := by
  rw [ownClear_of_clearable out settled odd line, if_pos (persists.imp_right surgePersists_iff.2)]

/-- The last row of R117: no cause persists. -/
theorem ownClear_clears (out : s.cfs.out = false) (settled : s.stm.settled = true)
    (odd : s.stm.epoch % 2 = 1) (line : s.lif.line ≠ .off) (pin : s.pins.surgeIn = false)
    (below : ∀ m, ringMean s.stm.ringD = some m →
      m < Param.surgeLevel s.cfs.working - Param.surgeHyst s.cfs.working) :
    ownClear s = done (clearEpoch s) := by
  have gone : ¬ (s.pins.surgeIn = true ∨ s.surgePersists = true) := by
    rw [surgePersists_iff, pin]
    rintro (active | ⟨m, mean, persists⟩)
    · exact Bool.false_ne_true active
    · exact absurd (below m mean) (Int.not_lt.2 persists)
  rw [ownClear_of_clearable out settled odd line, if_neg gone]

end

/-! ## A SURGE frame of another bay (R119, R121) -/

section
variable {s : State} {bay : BitVec 6} {e : BitVec 4}

/-- A frame of another bay that spells its content goes to its owner, in OUT too (R3, R4, R18). -/
theorem receiveFrame_frameOf {k : Nat} {data : List Byte} {f : Frame}
    (other : s.cfs.out = true ∨ s.own ≠ bay.toNat) (lo : s.firstBay ≤ bay.toNat)
    (hi : bay.toNat ≤ s.lastBay) (hk : 1 ≤ k ∧ k ≤ 6) (payload : parsePayload k data = some f)
    (claimant : claimantInRange s.firstBay s.lastBay f = true) :
    receiveFrame (frameOf k bay data) s = deliver bay.toNat f (received bay.toNat s) := by
  have id : (frameOf k bay data).id.toNat = 64 * k + bay.toNat := by
    simp only [frameOf, BitVec.toNat_ofNat]
    omega
  have kind : rawKind (frameOf k bay data) = k := by rw [rawKind, id]; omega
  have sender : rawSender (frameOf k bay data) = bay.toNat := by rw [rawSender, id]; omega
  have parsed : parseFrame s.firstBay s.lastBay (frameOf k bay data) = some f := by
    have content : parsePayload k (frameOf k bay data).data = some f := payload
    simp [parseFrame, kind, content, claimant]
  have foreign : s.isDuplicate (frameOf k bay data) = false := by
    rcases other with out | ne
    · simp [State.isDuplicate, out]
    · simp [State.isDuplicate, sender, Ne.symm ne]
  have valid : s.frameValid (frameOf k bay data) = true := by
    simp [State.frameValid, kindAndBayOk, kind, sender, parsed, lo, hi, hk, foreign]
  rw [receiveFrame_of_valid valid parsed, sender]

/-- A SURGE frame goes to STM once its bay has been heard. -/
theorem surgeFrame_run (other : s.cfs.out = true ∨ s.own ≠ bay.toNat) (lo : s.firstBay ≤ bay.toNat)
    (hi : bay.toNat ≤ s.lastBay) : exec (.surgeFrame bay [e.setWidth 8]) s =
      .next (surgeFromPeer e.toNat (received bay.toNat s)) := by
  have payload : parsePayload 1 [e.setWidth 8] = some (.surge e.toNat) := by
    simp only [parsePayload, BitVec.toNat_setWidth]
    congr 2
    omega
  exact congrArg _ (receiveFrame_frameOf other lo hi (by decide) payload rfl)

/-- With no condition of its own, what a SURGE frame leaves of STM: a settled station takes a newer epoch,
an unsettled one any, and it is settled (R119, R121). -/
theorem surgeFromPeer_stm (n : Nat) (pin : s.pins.surgeIn = false) (stage : s.stageCondition = false) :
    (surgeFromPeer n s).stm.settled = true ∧ (surgeFromPeer n s).stm.epoch =
      if s.stm.settled = false ∨
        (1 ≤ (n + 16 - s.stm.epoch) % 16 ∧ (n + 16 - s.stm.epoch) % 16 ≤ 7) then n else s.stm.epoch := by
  cases settled : s.stm.settled with
  | false =>
    have run : surgeFromPeer n s = adoptEpoch n (settleNow s) := by simp [surgeFromPeer, settled]
    rw [run, adoptEpoch_stm (s := settleNow s) n pin stage]
    exact ⟨rfl, by simp⟩
  | true =>
    have newer : epochNewer n s.stm.epoch = true ↔
        1 ≤ (n + 16 - s.stm.epoch) % 16 ∧ (n + 16 - s.stm.epoch) % 16 ≤ 7 := decide_eq_true_iff
    simp only [surgeFromPeer, settled, if_true, newer, Bool.true_eq_false, false_or]
    split
    · rw [adoptEpoch_stm n pin stage]
      exact ⟨settled, rfl⟩
    · exact ⟨settled, rfl⟩

end

/-- Settles O10: the frame is heard, and STM takes its epoch or leaves it. -/
theorem surgeFramesSpreadTheEpoch : Obligations.SurgeFramesSpreadTheEpoch := by
  intro s bay e hother lo hi pin stage
  have stage' : (received bay.toNat s).stageCondition = false := by
    rw [← stage]
    exact stageCondition_congr (by simp [received]) (by simp [received]) (by simp [received])
  obtain ⟨settled, epoch⟩ :=
    surgeFromPeer_stm (s := received bay.toNat s) e.toNat (by simpa [received] using pin) stage'
  have settledBefore : (received bay.toNat s).stm.settled = s.stm.settled := by simp [received]
  have epochBefore : (received bay.toNat s).stm.epoch = s.stm.epoch := by simp [received]
  rw [settledBefore, epochBefore] at epoch
  exact ⟨_, surgeFrame_run hother lo hi, epoch, settled, by simp [received]⟩

/-! ## RAISE SURGE, CLEAR SURGE and SURGE_IN -/

section
variable {s : State} {b : Byte}

/-- SURGE_IN going active at an odd epoch changes its level only (R115). -/
theorem surgeInActive_of_odd (odd : s.stm.epoch % 2 = 1) :
    exec .surgeInActive s = .next (s.setPins { s.pins with surgeIn := true }) := by
  have raised : raiseEpoch (s.setPins { s.pins with surgeIn := true }) =
      s.setPins { s.pins with surgeIn := true } := raiseEpoch_of_odd odd
  simp only [exec, execSurgeInActive, raised, ite_self]
  split
  · next active =>
    rw [← active]
    rfl
  · rfl

/-- SURGE_IN going active at an even epoch raises it (R115). -/
theorem surgeInActive_of_even (out : s.cfs.out = false) (pin : s.pins.surgeIn = false) :
    exec .surgeInActive s = .next (raiseEpoch (s.setPins { s.pins with surgeIn := true })) := by
  simp [exec, execSurgeInActive, pin, out]

theorem raiseSurge_done (idle : s.cfs.storeBusy = false) (out : s.cfs.out = false)
    (settled : s.stm.settled = true) : exec (.raiseSurge b) s =
      .next (answerCommand 0x04 .done false (raiseEpoch (latchCommand 0x04 b s))) :=
  congrArg _ (command_done idle (ownRaise_raises out settled))

theorem clearSurge_done (idle : s.cfs.storeBusy = false) (out : s.cfs.out = false)
    (settled : s.stm.settled = true) (odd : s.stm.epoch % 2 = 1) (line : s.lif.line ≠ .off)
    (pin : s.pins.surgeIn = false)
    (below : ∀ m, ringMean s.stm.ringD = some m →
      m < Param.surgeLevel s.cfs.working - Param.surgeHyst s.cfs.working) :
    exec (.clearSurge b) s =
      .next (answerCommand 0x05 .done false (clearEpoch (latchCommand 0x05 b s))) :=
  congrArg _ (command_done idle
    (ownClear_clears (s := latchCommand 0x05 b s) out settled odd line pin below))

end

/-- Settles O47: each event raises by way of raiseEpoch, and its row says what stands beside. -/
theorem raisesMakeAnEvenEpochOdd : Obligations.RaisesMakeAnEvenEpochOdd := by
  intro s b out
  refine ⟨fun pin even => ?_, surgeInActive_of_odd, rfl,
    fun runs => by simp [exec, execSettleTimer, runs, settleNow],
    fun idle unsettled => congrArg _ (command_refused idle (ownRaise_refused unsettled)),
    fun idle settled odd => ?_, fun idle settled even => ?_⟩
  · have raised := raiseEpoch_raises (s := s.setPins { s.pins with surgeIn := true }) out even
    refine ⟨_, surgeInActive_of_even out pin, raiseEpoch_stm even, by simp, raised.pending, raised.selected,
      raised.causes, raised.queued, fun active => raiseEpoch_abandons out even active, by simp⟩
  · rw [raiseSurge_done idle out settled, raiseEpoch_of_odd (by simpa using odd)]
  · have raised := raiseEpoch_raises (s := latchCommand 0x04 b s) out even
    exact ⟨_, raiseSurge_done idle out settled, by simpa using raised.epoch, by simpa using raised.pending,
      by simpa using raised.selected, by simpa using raised.queued, by simpa using raised.dropped,
      answerCommand_done_causes _ raised.causes, rfl, rfl, rfl, by simp⟩

/-- Settles O48: the rows of R117 in their order, the last with the clear of the epoch. -/
theorem clearSurgeAnswersByState : Obligations.ClearSurgeAnswersByState := by
  intro s b idle
  refine ⟨fun h => congrArg _ (command_refused idle (ownClear_refusedState (by simpa using h))),
    fun out settled odd line persists => congrArg _ (command_refused idle
      (ownClear_refusedCause (s := latchCommand 0x05 b s) out settled odd line persists)),
    fun out settled odd line pin below stage => ?_⟩
  have cleared := clearEpoch_clears (s := latchCommand 0x05 b s) out odd pin stage
  exact ⟨_, clearSurge_done idle out settled odd line pin below, by simpa using cleared.epoch,
    by simpa using cleared.withdrawn, by simpa using cleared.queued line, by simpa using cleared.selected,
    answerCommand_done_causes _ cleared.causes, rfl, rfl, by simp⟩

end Sys2Proof.StageTideSurge

namespace Sys2Proof.StageTideSurge

open Sys2Proof Sys2Proof.Machine Sys2Proof.PeerTable

/-! ## The nearest lender of a stage (R105) -/

section
variable {own k : Nat} {l : List Nat}

/-- The first bay of a list is the nearest so far. -/
theorem nearestBay_concat_of_none (h : nearestBay own l = none) : nearestBay own (l ++ [k]) = some k := by
  rw [nearestBay] at h
  simp [nearestBay, h]

/-- The nearest bay so far stays so unless the next one is nearer. -/
theorem nearestBay_concat_of_some {b : Nat} (h : nearestBay own l = some b) :
    nearestBay own (l ++ [k]) = some (if bayDistance own k < bayDistance own b then k else b) := by
  rw [nearestBay] at h
  simp only [nearestBay, List.foldl_append, List.foldl_cons, List.foldl_nil, h]
  split <;> rfl

/-- k is the nearest bay of the list, of two equally near the lower. -/
def IsNearest (own : Nat) (l : List Nat) (k : Nat) : Prop :=
  k ∈ l ∧ ∀ b, b ∈ l → bayDistance own k < bayDistance own b ∨
    (bayDistance own k = bayDistance own b ∧ k ≤ b)

theorem IsNearest.append_farther {b : Nat} (h : IsNearest own l b)
    (far : bayDistance own b < bayDistance own k ∨ (bayDistance own b = bayDistance own k ∧ b ≤ k)) :
    IsNearest own (l ++ [k]) b := by
  obtain ⟨member, least⟩ := h
  refine ⟨List.mem_append_left _ member, fun c hc => ?_⟩
  rcases List.mem_append.1 hc with old | new
  · exact least c old
  · obtain rfl := List.mem_singleton.1 new
    exact far

theorem IsNearest.append_nearer {b : Nat} (h : IsNearest own l b)
    (near : bayDistance own k < bayDistance own b) : IsNearest own (l ++ [k]) k := by
  obtain ⟨-, least⟩ := h
  refine ⟨by simp, fun c hc => ?_⟩
  rcases List.mem_append.1 hc with old | new
  · have := least c old
    exact .inl (by omega)
  · obtain rfl := List.mem_singleton.1 new
    exact .inr ⟨rfl, le_rfl⟩

/-- A list without a nearest bay is empty; in a list of rising bays the one found is the nearest, of two
equally near the lower (R105). -/
theorem nearestBay_spec (rising : l.Pairwise (· < ·)) : (nearestBay own l = none → l = []) ∧
    ∀ k, nearestBay own l = some k → IsNearest own l k := by
  induction l using List.reverseRecOn with
  | nil => exact ⟨fun _ => rfl, fun k h => by cases h⟩
  | append_singleton l k ih =>
    obtain ⟨before, -, below⟩ := List.pairwise_append.1 rising
    obtain ⟨empty, nearest⟩ := ih before
    cases found : nearestBay own l with
    | none =>
      rw [nearestBay_concat_of_none found, empty found]
      exact ⟨nofun, fun c hc => by simp [IsNearest, Option.some.inj hc]⟩
    | some b =>
      rw [nearestBay_concat_of_some found]
      refine ⟨nofun, fun c hc => ?_⟩
      rw [← Option.some.inj hc]
      split
      · next near => exact (nearest b found).append_nearer near
      · next far =>
        have lower : b < k := below b (nearest b found).1 k (by simp)
        exact (nearest b found).append_farther (by omega)

end

/-! ## The source of a channel (R105, R106) -/

section
variable {s x : State} {stage : Entry → Option Int} {ring : List Sample}

theorem mem_lenders_iff {k : Nat} : k ∈ s.lenders stage ↔
    ∃ e, e ∈ s.ptb.entries ∧ e.bay = k ∧ s.lends stage e := by
  simp only [State.lenders, State.lends, List.mem_map, List.mem_filter, Bool.and_eq_true, beq_iff_eq,
    bne_iff_ne]
  grind

/-- The lenders stand in the order of the table, which is that of their bays (R19). -/
theorem lenders_rising (table : s.tableOk = true) : (s.lenders stage).Pairwise (· < ·) := by
  have bays : (s.ptb.entries.map fun e => e.bay).Pairwise (· < ·) := by
    rw [beq_iff_eq.1 table, List.pairwise_map]
    exact List.pairwise_lt_range.imp (by omega)
  exact bays.sublist (List.filter_sublist.map _)

/-- What a channel lends rests on the peer table and the own bay. -/
theorem sourceFor_congr (ptb : x.ptb = s.ptb) (cfs : x.cfs = s.cfs) :
    x.sourceFor ring stage = s.sourceFor ring stage := by
  simp only [State.sourceFor, State.lenders, State.own, ptb, cfs]

/-- The chosen source is the one of R105. -/
theorem sourceFor_fits (table : s.tableOk = true) :
    s.sourceFits (ringValid ring) stage (s.sourceFor ring stage) := by
  unfold State.sourceFor
  split
  · next valid => exact valid
  · next invalid =>
    have invalid' : ringValid ring = false := by simpa using invalid
    obtain ⟨empty, nearest⟩ := nearestBay_spec (own := s.own) (lenders_rising (stage := stage) table)
    cases found : nearestBay s.own (s.lenders stage) with
    | none =>
      refine ⟨invalid', fun e he lends => ?_⟩
      have member := mem_lenders_iff.2 ⟨e, he, rfl, lends⟩
      simp [empty found] at member
    | some k =>
      obtain ⟨member, least⟩ := nearest k found
      exact ⟨invalid', mem_lenders_iff.1 member,
        fun e he lends => least e.bay (mem_lenders_iff.2 ⟨e, he, rfl, lends⟩)⟩

/-- What STM's choice of its sources writes (R106). -/
theorem chooseSources_sources (out : s.cfs.out = false) :
    (chooseSources s).stm.sourceU = s.sourceFor s.stm.ringU Entry.up ∧
      (chooseSources s).stm.sourceD = s.sourceFor s.stm.ringD Entry.down := by
  unfold chooseSources
  simp only [out, Bool.false_eq_true, if_false]
  split <;> exact ⟨rfl, rfl⟩

/-- A source lost by the choice sets STAGE_LOST (R106). -/
theorem chooseSources_lost (out : s.cfs.out = false)
    (lost : s.stm.sourceU ≠ .unavailable ∧ (chooseSources s).stm.sourceU = .unavailable ∨
      s.stm.sourceD ≠ .unavailable ∧ (chooseSources s).stm.sourceD = .unavailable) :
    (chooseSources s).act.causes &&& 0x040 = 0x040 := by
  obtain ⟨sourceU, sourceD⟩ := chooseSources_sources out
  rw [sourceU, sourceD] at lost
  have reported : chooseSources s = setAttention .stageLost (s.setStm { s.stm with
      sourceU := s.sourceFor s.stm.ringU Entry.up, sourceD := s.sourceFor s.stm.ringD Entry.down }) := by
    simp only [chooseSources, out, Bool.false_eq_true, if_false]
    refine if_pos ?_
    simpa [sourceLost] using lost
  rw [reported]
  exact setAttention_sets .stageLost _

end

end Sys2Proof.StageTideSurge

namespace Sys2Proof.StageTideSurge

open Sys2Proof Sys2Proof.Machine Sys2Proof.BayLine Sys2Proof.PeerTable Sys2Proof.Stagger

/-! ## The rings (R102, R103) -/

section
variable {s : State} {u d : BitVec 12}

/-- The scaling of R102, with its limits and its clamp. -/
theorem sampleOf_cases (c : Scaling) (x : BitVec 12) :
    (((x.toNat : Int) < c.raw4 - ((c.raw20 : Int) - c.raw4) / 40 ∨
      c.raw20 + ((c.raw20 : Int) - c.raw4) / 16 < (x.toNat : Int)) → c.sampleOf x = .rejected) ∧
    ((c.raw4 - ((c.raw20 : Int) - c.raw4) / 40 ≤ (x.toNat : Int) ∧
      (x.toNat : Int) ≤ c.raw20 + ((c.raw20 : Int) - c.raw4) / 16) →
      c.sampleOf x = .accepted (max (-10000) (min 20000 (c.st4 +
        ((x.toNat : Int) - c.raw4) * (c.st20 - c.st4) / ((c.raw20 : Int) - c.raw4))))) :=
  ⟨fun outside => if_pos outside,
    fun ⟨low, high⟩ => if_neg (not_or.2 ⟨Int.not_lt.2 low, Int.not_lt.2 high⟩)⟩

/-- A ring of 32 drops its oldest sample for the new one (R103). -/
theorem pushSample_eq (ring : List Sample) (x : Sample) :
    pushSample ring x = (ring ++ [x]).drop (ring.length - 31) := by
  have length : (ring ++ [x]).length - 32 = ring.length - 31 := by simp
  rw [pushSample, length]

/-- STM after a sample's ring write. -/
theorem writeRings_stm (u d : BitVec 12) (s : State) : (writeRings u d s).stm = { s.stm with
    ringU := pushSample s.stm.ringU ((Param.scalingU s.cfs.working).sampleOf u),
    ringD := pushSample s.stm.ringD ((Param.scalingD s.cfs.working).sampleOf d) } := by
  simp [writeRings]

theorem stageSample_of_running (out : s.cfs.out = false) :
    stageSample u d s = tidalStep (surgeStep (validityStep s.stm (writeRings u d s))) := by
  simp [stageSample, out]

theorem stageSample_rings (out : s.cfs.out = false) :
    (stageSample u d s).stm.ringU =
        pushSample s.stm.ringU ((Param.scalingU s.cfs.working).sampleOf u) ∧
      (stageSample u d s).stm.ringD =
        pushSample s.stm.ringD ((Param.scalingD s.cfs.working).sampleOf d) := by
  simp [stageSample_of_running out, writeRings_stm]

/-- A ring with a mean is valid (R103). -/
theorem ringValid_of_mean {ring : List Sample} {m : Int} (h : ringMean ring = some m) :
    ringValid ring = true := by
  by_contra invalid
  simp [ringMean, invalid] at h

end

/-- Settles O45: the rings are written by the scaling, and the steps after them leave the rings. -/
theorem stageSamplesEnterTheRings : Obligations.StageSamplesEnterTheRings := by
  intro s u d out
  obtain ⟨ringU, ringD⟩ := stageSample_rings (u := u) (d := d) out
  refine ⟨stageSample u d s, _, _, rfl, ringU.trans (pushSample_eq _ _), ringD.trans (pushSample_eq _ _),
    ?_, ?_, by simp⟩
  · rintro c rfl
    exact sampleOf_cases _ u
  · rintro c rfl
    exact sampleOf_cases _ d

/-! ## The three steps after the ring write (R104, R108, R114) -/

section
variable {s : State} {before : Stm}

/-- A sample that changes no channel's own validity leaves the sources (R104). -/
theorem validityStep_of_same (hu : ringValid s.stm.ringU = ringValid before.ringU)
    (hd : ringValid s.stm.ringD = ringValid before.ringD) : validityStep before s = s := by
  simp [validityStep, hu, hd]

/-- A sample that changes a channel's own validity chooses both sources again (R104). -/
theorem validityStep_of_changed (h : ringValid s.stm.ringU ≠ ringValid before.ringU ∨
    ringValid s.stm.ringD ≠ ringValid before.ringD) : validityStep before s = chooseSources s := by
  simp [validityStep, h]

/-- The run that a sample fills raises the epoch (R112, R114). -/
theorem surgeStep_of_full {m : Int} (mean : ringMean s.stm.ringD = some m)
    (high : Param.surgeLevel s.cfs.working ≤ m) (run : s.stm.surgeRun + 1 = Param.nSurge s.cfs.working) :
    surgeStep s = raiseEpoch (s.setStm { s.stm with surgeRun := Param.nSurge s.cfs.working }) := by
  have next : s.stm.nextRun s.cfs.working = Param.nSurge s.cfs.working := by
    simp [Stm.nextRun, mean, high, run]
  have condition : (s.setStm { s.stm with
      surgeRun := Param.nSurge s.cfs.working }).stageCondition = true := by
    simp [State.stageCondition, ringValid_of_mean mean]
  simp only [surgeStep, next, condition, if_true]

/-- A raise reports to ACT as every change of the epoch does. -/
theorem raiseEpoch_act (s : State) : ActKept s.act (raiseEpoch s).act := by
  rcases Nat.mod_two_eq_zero_or_one s.stm.epoch with even | odd
  · rw [raiseEpoch_of_even even]
    have queued : (queueSurge (s.stm.epoch + 1) (changeEpoch (s.stm.epoch + 1) s)).act =
        (changeEpoch (s.stm.epoch + 1) s).act := by simp
    rw [queued]
    exact (changeEpoch_inEvent _ s).act
  · rw [raiseEpoch_of_odd odd]
    exact .refl _

theorem surgeStep_act (s : State) : ActKept s.act (surgeStep s).act := by
  have counted : s.act = (s.setStm { s.stm with surgeRun := s.stm.nextRun s.cfs.working }).act := rfl
  rw [counted, surgeStep]
  split
  · exact raiseEpoch_act _
  · exact .refl _

/-- With both sources OWN the head is the difference of the own means (R105, R108). -/
theorem head_of_own {mu md : Int} (hu : s.stm.sourceU = .own) (hd : s.stm.sourceD = .own)
    (meanU : ringMean s.stm.ringU = some mu) (meanD : ringMean s.stm.ringD = some md) :
    s.head = some (mu - md) := by
  simp [State.head, State.channelValue, hu, hd, meanU, meanD]

theorem tidalStep_of_head {h : Int} (head : s.head = some h) : tidalStep s = tidalRules h s := by
  simp [tidalStep, head]

/-- The first head gives the tidal state (R109). -/
theorem tidalRules_of_unknown {h : Int} (tidal : s.stm.tidal = .unknown) :
    tidalRules h s = changeTide (if 0 ≤ h then .ebb else .flood) s := by
  simp [tidalRules, tidal]

/-- A head that points to the other state and fills the confirm run changes the tidal state (R110). -/
theorem tidalRules_of_full {h : Int} (run : Param.nConfirm s.cfs.working ≤ s.stm.confirmRun + 1)
    (away : s.stm.tidal = .ebb ∧ h ≤ -(Param.hFlood s.cfs.working : Int) ∨
      s.stm.tidal = .flood ∧ (Param.hEbb s.cfs.working : Int) ≤ h) :
    tidalRules h s = changeTide (if s.stm.tidal = .ebb then .flood else .ebb) s := by
  rcases away with ⟨tidal, points⟩ | ⟨tidal, points⟩ <;> simp [tidalRules, tidal, pointsAway, points, run]

/-- Everything the tidal rules can do to OSL: nothing, or the effects of a change of the tidal state. -/
theorem tidalStep_osl (s : State) : (tidalStep s).osl = s.osl ∨ ∃ t, tidalStep s = changeTide t s := by
  unfold tidalStep
  split
  · unfold tidalRules
    dsimp only
    split
    · exact .inr ⟨_, rfl⟩
    · split
      · split
        · exact .inr ⟨_, rfl⟩
        · exact .inl rfl
      · exact .inl rfl
  · exact .inl rfl

/-- What a change of the tidal state writes (R111). -/
theorem changeTide_writes (t : Tidal) (s : State) : (changeTide t s).stm.tidal = t ∧
    (changeTide t s).stm.confirmRun = 0 ∧ (changeTide t s).osl.tidal = (t == .flood) ∧
    (changeTide t s).act.causes &&& 0x004 = 0x004 := by
  refine ⟨by simp [changeTide], by simp [changeTide], ?_, ?_⟩
  · unfold changeTide setTidalSlot
    dsimp only
    split
    · next same => exact same
    · simp
  · have act : (changeTide t s).act = (setAttention .tideChange s).act := by
      simp only [changeTide, setTidalSlot_frame]
      rfl
    rw [act]
    exact setAttention_sets .tideChange s

/-- The SURGE slot, pending and selected, stays so when the tide changes (R92). -/
theorem tidalStep_selected (pending : s.osl.surge = true) (selected : s.osl.selected = .surge) :
    (tidalStep s).osl.selected = .surge := by
  rcases tidalStep_osl s with same | ⟨t, run⟩
  · rw [same, selected]
  · rw [run]
    unfold changeTide setTidalSlot
    dsimp only
    split
    · exact selected
    · obtain ⟨chosen, -⟩ := reselect_selected ((setAttention .tideChange (s.setStm { s.stm with
        tidal := t, confirmRun := 0 })).setOsl { s.osl with tidal := t == .flood })
      exact chosen.trans ((choose_surge_iff _ _).2 pending)

end

/-! ## A sample with both own channels valid before and after (R109 to R114) -/

/-- Both own channels are valid before a sample, and after it they have these means. -/
structure ValidThroughout (s : State) (u d : BitVec 12) (mu md : Int) : Prop where
  running : s.cfs.out = false
  validU : ringValid s.stm.ringU = true
  validD : ringValid s.stm.ringD = true
  meanU : ringMean (pushSample s.stm.ringU ((Param.scalingU s.cfs.working).sampleOf u)) = some mu
  meanD : ringMean (pushSample s.stm.ringD ((Param.scalingD s.cfs.working).sampleOf d)) = some md

section
variable {s : State} {u d : BitVec 12} {mu md : Int}

/-- Such a sample leaves the sources (R104). -/
theorem stageSample_of_valid (h : ValidThroughout s u d mu md) :
    stageSample u d s = tidalStep (surgeStep (writeRings u d s)) := by
  have sameU : ringValid (writeRings u d s).stm.ringU = ringValid s.stm.ringU := by
    rw [h.validU, writeRings_stm]
    exact ringValid_of_mean h.meanU
  have sameD : ringValid (writeRings u d s).stm.ringD = ringValid s.stm.ringD := by
    rw [h.validD, writeRings_stm]
    exact ringValid_of_mean h.meanD
  rw [stageSample_of_running h.running, validityStep_of_same sameU sameD]

/-- With both sources OWN the tidal rules see the difference of the means (R108). -/
theorem stageSample_of_own (h : ValidThroughout s u d mu md) (hu : s.stm.sourceU = .own)
    (hd : s.stm.sourceD = .own) :
    stageSample u d s = tidalRules (mu - md) (surgeStep (writeRings u d s)) := by
  have head : (surgeStep (writeRings u d s)).head = some (mu - md) :=
    head_of_own (by simpa using hu) (by simpa using hd)
      (by simpa [writeRings_stm] using h.meanU) (by simpa [writeRings_stm] using h.meanD)
  rw [stageSample_of_valid h, tidalStep_of_head head]

/-- R109: the first head gives the tidal state and the TIDAL slot. -/
theorem ValidThroughout.firstHead (h : ValidThroughout s u d mu md) (hu : s.stm.sourceU = .own)
    (hd : s.stm.sourceD = .own) (unknown : s.stm.tidal = .unknown) :
    (stageSample u d s).stm.tidal = (if 0 ≤ mu - md then .ebb else .flood) ∧
      (stageSample u d s).stm.confirmRun = 0 ∧
      (stageSample u d s).osl.tidal = decide (mu - md < 0) ∧
      (stageSample u d s).act.causes &&& 0x004 = 0x004 := by
  have slot : ((if 0 ≤ mu - md then Tidal.ebb else .flood) == .flood) = decide (mu - md < 0) := by
    by_cases ebb : 0 ≤ mu - md
    · rw [if_pos ebb, decide_eq_false (Int.not_lt.2 ebb)]
      rfl
    · rw [if_neg ebb, decide_eq_true (Int.not_le.1 ebb)]
      rfl
  rw [stageSample_of_own h hu hd, tidalRules_of_unknown (by simpa using unknown), ← slot]
  exact changeTide_writes _ _

/-- R110, R111: the head sample that fills the confirm run changes the tidal state and the TIDAL slot. -/
theorem ValidThroughout.tideChanged (h : ValidThroughout s u d mu md) (hu : s.stm.sourceU = .own)
    (hd : s.stm.sourceD = .own) (run : Param.nConfirm s.cfs.working ≤ s.stm.confirmRun + 1)
    (away : s.stm.tidal = .ebb ∧ mu - md ≤ -(Param.hFlood s.cfs.working : Int) ∨
      s.stm.tidal = .flood ∧ (Param.hEbb s.cfs.working : Int) ≤ mu - md) :
    (stageSample u d s).stm.tidal = (if s.stm.tidal = .ebb then .flood else .ebb) ∧
      (stageSample u d s).stm.confirmRun = 0 ∧
      (stageSample u d s).osl.tidal = (s.stm.tidal == .ebb) ∧
      (stageSample u d s).act.causes &&& 0x004 = 0x004 := by
  have tidal : (surgeStep (writeRings u d s)).stm.tidal = s.stm.tidal := by simp
  have slot : ((if s.stm.tidal = .ebb then Tidal.flood else .ebb) == .flood) = (s.stm.tidal == .ebb) := by
    cases s.stm.tidal <;> rfl
  rw [stageSample_of_own h hu hd, tidalRules_of_full (by simpa using run) (by simpa using away), tidal,
    ← slot]
  exact changeTide_writes _ _

/-- TIDAL_STATE_CHANGE is the sample at which the tidal state changes (R110; log 2). -/
theorem tidalStateChange_of_changed (known : s.stm.tidal = .ebb ∨ s.stm.tidal = .flood)
    (changed : (stageSample u d s).stm.tidal = if s.stm.tidal = .ebb then .flood else .ebb) :
    exec (.tidalStateChange u d) s = .next (stageSample u d s) := by
  rcases known with tidal | tidal <;> simp [exec, execTidalStateChange, tidal, changed]

/-- The station as the sample that fills the surge run leaves it to the raise. -/
def runFilled (u d : BitVec 12) (s : State) : State :=
  (writeRings u d s).setStm { (writeRings u d s).stm with surgeRun := Param.nSurge s.cfs.working }

/-- The tidal rules leave what a raise has made of the epoch, the SURGE slots and ACT. -/
theorem Raised.tidalStep {t : State} (h : Raised s t) : Raised s (tidalStep t) := by
  have told := tidalStep_inEvent t
  exact {
    epoch := by simp [h.epoch]
    pending := by simp [h.pending]
    selected := tidalStep_selected h.pending h.selected
    causes := causes_kept told.act h.causes
    queued := fun line => told.surgeSlot.trans (h.queued line)
    dropped := fun line => told.surgeSlot.trans (h.dropped line) }

/-- R112, R114: the sample that fills the surge run raises the epoch before the tidal rules. -/
theorem ValidThroughout.surgeRaised (h : ValidThroughout s u d mu md)
    (run : s.stm.surgeRun + 1 = Param.nSurge s.cfs.working)
    (high : Param.surgeLevel s.cfs.working ≤ md) (even : s.stm.epoch % 2 = 0) :
    (stageSample u d s).stm.surgeRun = Param.nSurge s.cfs.working ∧ Raised s (stageSample u d s) := by
  have full := surgeStep_of_full (s := writeRings u d s) (m := md)
    (by simpa [writeRings_stm] using h.meanD) (by simpa using high) (by simpa using run)
  have sampled : stageSample u d s = Machine.tidalStep (raiseEpoch (runFilled u d s)) := by
    have cfs : (writeRings u d s).cfs = s.cfs := by simp
    rw [stageSample_of_valid h, full, cfs]
    rfl
  have raised := raiseEpoch_raises (s := runFilled u d s) (by simpa [runFilled] using h.running)
    (by simpa [runFilled] using even)
  have raised' : Raised s (raiseEpoch (runFilled u d s)) := { raised with
    epoch := by simpa [runFilled] using raised.epoch
    queued := by simpa [runFilled] using raised.queued
    dropped := by simpa [runFilled] using raised.dropped }
  rw [sampled]
  exact ⟨by simp [runFilled], raised'.tidalStep⟩

/-- SURGE_RUN_COMPLETE is the sample that fills the surge run (R114; log 2). -/
theorem surgeRunComplete_of_filled (short : s.stm.surgeRun ≠ Param.nSurge s.cfs.working)
    (full : (stageSample u d s).stm.surgeRun = Param.nSurge s.cfs.working) :
    exec (.surgeRunComplete u d) s = .next (stageSample u d s) := by
  simp [exec, execSurgeRunComplete, short, full]

end

/-! ## The sources after a sample (R104 to R106) -/

section
variable {s : State} {u d : BitVec 12}

/-- A sample that leaves both validities leaves both sources (R104). -/
theorem stageSample_sources_of_same (out : s.cfs.out = false)
    (hu : ringValid (stageSample u d s).stm.ringU = ringValid s.stm.ringU)
    (hd : ringValid (stageSample u d s).stm.ringD = ringValid s.stm.ringD) :
    (stageSample u d s).stm.sourceU = s.stm.sourceU ∧
      (stageSample u d s).stm.sourceD = s.stm.sourceD := by
  rw [stageSample_of_running out] at hu hd ⊢
  have same : validityStep s.stm (writeRings u d s) = writeRings u d s :=
    validityStep_of_same (by simpa using hu) (by simpa using hd)
  simp [same]

/-- A sample that changes a validity chooses both sources, by the rings and the table as it leaves them, and
sets STAGE_LOST where one is lost (R104 to R106). -/
theorem stageSample_sources_of_changed (out : s.cfs.out = false)
    (changed : ringValid (stageSample u d s).stm.ringU ≠ ringValid s.stm.ringU ∨
      ringValid (stageSample u d s).stm.ringD ≠ ringValid s.stm.ringD) :
    (stageSample u d s).stm.sourceU = s.sourceFor (stageSample u d s).stm.ringU Entry.up ∧
      (stageSample u d s).stm.sourceD = s.sourceFor (stageSample u d s).stm.ringD Entry.down ∧
      (s.stm.sourceU ≠ .unavailable ∧ (stageSample u d s).stm.sourceU = .unavailable ∨
        s.stm.sourceD ≠ .unavailable ∧ (stageSample u d s).stm.sourceD = .unavailable →
        (stageSample u d s).act.causes &&& 0x040 = 0x040) := by
  rw [stageSample_of_running out] at changed ⊢
  have chosen : validityStep s.stm (writeRings u d s) = chooseSources (writeRings u d s) :=
    validityStep_of_changed (by simpa using changed)
  obtain ⟨sourceU, sourceD⟩ := chooseSources_sources (s := writeRings u d s) (by simpa using out)
  have lookup (ring : List Sample) (stage : Entry → Option Int) :
      (writeRings u d s).sourceFor ring stage = s.sourceFor ring stage :=
    sourceFor_congr (by simp) (by simp)
  have told : ActKept (chooseSources (writeRings u d s)).act
      (tidalStep (surgeStep (chooseSources (writeRings u d s)))).act :=
    (surgeStep_act _).trans (tidalStep_inEvent _).act
  rw [chosen]
  refine ⟨by simp [sourceU, lookup], by simp [sourceD, lookup], fun lost => causes_kept told ?_⟩
  exact chooseSources_lost (by simpa using out) (by simpa using lost)

/-- A lost source sets STAGE_LOST (R106): without a change of validity none is lost. -/
theorem stageSample_lost (out : s.cfs.out = false)
    (lost : s.stm.sourceU ≠ .unavailable ∧ (stageSample u d s).stm.sourceU = .unavailable ∨
      s.stm.sourceD ≠ .unavailable ∧ (stageSample u d s).stm.sourceD = .unavailable) :
    (stageSample u d s).act.causes &&& 0x040 = 0x040 := by
  by_cases same : ringValid (stageSample u d s).stm.ringU = ringValid s.stm.ringU ∧
      ringValid (stageSample u d s).stm.ringD = ringValid s.stm.ringD
  · obtain ⟨sourceU, sourceD⟩ := stageSample_sources_of_same out same.1 same.2
    rw [sourceU, sourceD] at lost
    rcases lost with ⟨present, absent⟩ | ⟨present, absent⟩ <;> exact absurd absent present
  · obtain ⟨-, -, reported⟩ := stageSample_sources_of_changed out (not_and_or.1 same)
    exact reported lost

end

/-- Settles O46: each full run, then the sources where a validity changed and where none did. -/
theorem fullRunsChangeTideAndSurge : Obligations.FullRunsChangeTideAndSurge := by
  intro s u d out
  refine ⟨fun mu md validU validD meanU meanD => ?_, fun table => ⟨_, rfl, ?_, fun changed => ?_, ?_⟩⟩
  · have valid : ValidThroughout s u d mu md := ⟨out, validU, validD, meanU, meanD⟩
    refine ⟨fun hu hd unknown => ⟨_, rfl, valid.firstHead hu hd unknown⟩, fun hu hd run away => ?_,
      fun run high even => ?_⟩
    · obtain ⟨tidal, confirm, slot, causes⟩ := valid.tideChanged hu hd run away
      exact ⟨_, tidalStateChange_of_changed (away.imp And.left And.left) tidal, tidal, confirm, slot,
        causes, by simp⟩
    · obtain ⟨filled, raised⟩ := valid.surgeRaised run high even
      exact ⟨_, surgeRunComplete_of_filled (by omega) filled, filled, raised.epoch, raised.pending,
        raised.selected, raised.causes, raised.queued, by simp⟩
  · exact stageSample_sources_of_same out
  · obtain ⟨sourceU, sourceD, -⟩ := stageSample_sources_of_changed out changed
    rw [sourceU, sourceD]
    exact ⟨sourceFor_fits table, sourceFor_fits table⟩
  · exact stageSample_lost out

end Sys2Proof.StageTideSurge

namespace Sys2Proof.OpeningGeometry

open Sys2Proof Sys2Proof.Machine

/-! ## A point table read along one of its columns (R125, R126)

The two conversions read the same table, one by its strokes and one by its openings. -/

/-- The value at x along a list of points with column `key`: `on` between two points, `val` at the last. -/
def along (key val : Nat × Nat → Nat) (on : Nat × Nat → Nat × Nat → Nat → Nat) :
    List (Nat × Nat) → Nat → Nat
  | a :: b :: rest, x => if x < key b then on a b x else along key val on (b :: rest) x
  | [a], _ => val a
  | [], _ => 0

/-- The forward conversion between two points (R125). -/
def forwardOn (a b : Nat × Nat) (x : Nat) : Nat := a.2 + (x - a.1) * (b.2 - a.2) / (b.1 - a.1)

/-- The inverse conversion between two points, rounding half up (R126). -/
def inverseOn (a b : Nat × Nat) (t : Nat) : Nat :=
  a.1 + ((t - a.2) * (b.1 - a.1) * 2 + (b.2 - a.2)) / (2 * (b.2 - a.2))

theorem forwardAlong_eq_along (l : List (Nat × Nat)) (x : Nat) :
    forwardAlong l x = along Prod.fst Prod.snd forwardOn l x := by
  induction l with
  | nil => rfl
  | cons a l ih =>
    cases l with
    | nil => rfl
    | cons b rest => simp only [forwardAlong, along, forwardOn, ih]

theorem inverseAlong_eq_along (l : List (Nat × Nat)) (t : Nat) :
    inverseAlong l t = along Prod.snd Prod.fst inverseOn l t := by
  induction l with
  | nil => rfl
  | cons a l ih =>
    cases l with
    | nil => rfl
    | cons b rest => simp only [inverseAlong, along, inverseOn, ih]

section
variable {key val : Nat × Nat → Nat} {on : Nat × Nat → Nat × Nat → Nat → Nat} {l : List (Nat × Nat)}
  {a b : Nat × Nat} {k x : Nat}

/-- Between two neighbouring points the value is theirs. -/
theorem along_of_segment (rises : l.Pairwise fun p q => key p < key q) (ha : l[k]? = some a)
    (hb : l[k + 1]? = some b) (low : key a ≤ x) (high : x < key b) : along key val on l x = on a b x := by
  induction l generalizing k with
  | nil => simp at ha
  | cons p l ih =>
    cases l with
    | nil => simp at hb
    | cons q rest =>
      cases k with
      | zero =>
        simp only [List.getElem?_cons_zero, Option.some.injEq, Nat.zero_add, List.getElem?_cons_succ] at ha hb
        simp [along, ha, hb, high]
      | succ k =>
        have tail := (List.pairwise_cons.1 rises).2
        have reached : key q ≤ key a := by
          cases k with
          | zero => simp_all
          | succ k => exact ((List.pairwise_cons.1 tail).1 a (List.mem_of_getElem? (by simpa using ha))).le
        rw [along, if_neg (by omega)]
        exact ih tail (by simpa using ha) (by simpa using hb)

/-- At a point of the table the value is the point's own. -/
theorem along_at_point (rises : l.Pairwise fun p q => key p < key q)
    (start : ∀ p q, on p q (key p) = val p) (hb : b ∈ l) : along key val on l (key b) = val b := by
  induction l with
  | nil => cases hb
  | cons p l ih =>
    obtain ⟨first, tail⟩ := List.pairwise_cons.1 rises
    cases l with
    | nil => simp_all [along]
    | cons q rest =>
      rcases List.mem_cons.1 hb with rfl | later
      · rw [along, if_pos (first q (by simp)), start]
      · have reached : key q ≤ key b := by
          rcases List.mem_cons.1 later with rfl | beyond
          · exact le_rfl
          · exact ((List.pairwise_cons.1 tail).1 b beyond).le
        rw [along, if_neg (by omega)]
        exact ih tail later

/-- A value from the first point up to the last lies between two neighbouring points. -/
theorem exists_segment (p : Nat × Nat) (low : key p ≤ x) (high : x < key ((p :: l).getLast (by simp))) :
    ∃ k a b, (p :: l)[k]? = some a ∧ (p :: l)[k + 1]? = some b ∧ key a ≤ x ∧ x < key b := by
  induction l generalizing p with
  | nil => exact absurd high (by simpa using low)
  | cons q rest ih =>
    by_cases h : x < key q
    · exact ⟨0, p, q, rfl, rfl, low, h⟩
    · obtain ⟨k, a, b, ha, hb, found⟩ := ih q (by omega) (by simpa using high)
      exact ⟨k + 1, a, b, ha, hb, found⟩

end

/-! ## Tables that pass R124 -/

/-- From one point to a later one both columns rise, the strokes by at least a count per millimetre (R124). -/
def Steeper (p q : Nat × Nat) : Prop := p.1 < q.1 ∧ p.2 < q.2 ∧ q.2 - p.2 ≤ q.1 - p.1

theorem Steeper.trans {p q r : Nat × Nat} (h : Steeper p q) (k : Steeper q r) : Steeper p r := by
  unfold Steeper at *
  omega

section
variable {a b : Nat × Nat} {x t : Nat}

theorem forwardOn_start (a b : Nat × Nat) : forwardOn a b a.1 = a.2 := by simp [forwardOn]

theorem inverseOn_start (a b : Nat × Nat) : inverseOn a b a.2 = a.1 := by
  have half : (b.2 - a.2) / (2 * (b.2 - a.2)) = 0 := by
    rcases Nat.eq_zero_or_pos (b.2 - a.2) with zero | pos
    · simp [zero]
    · exact Nat.div_eq_of_lt (by omega)
  simp [inverseOn, half]

theorem forwardOn_end (h : Steeper a b) : forwardOn a b b.1 = b.2 := by
  obtain ⟨strokes, openings, -⟩ := h
  rw [forwardOn, Nat.mul_div_cancel_left _ (by omega)]
  omega

theorem inverseOn_end (h : Steeper a b) : inverseOn a b b.2 = b.1 := by
  obtain ⟨strokes, openings, -⟩ := h
  have whole : ((b.2 - a.2) * (b.1 - a.1) * 2 + (b.2 - a.2)) / (2 * (b.2 - a.2)) = b.1 - a.1 :=
    Nat.div_eq_of_lt_le (by nlinarith) (by nlinarith [Nat.sub_pos_of_lt openings])
  rw [inverseOn, whole]
  omega

/-- Below the end of a segment the forward conversion stays below its opening (R125). -/
theorem forwardOn_bounds (h : Steeper a b) (low : a.1 ≤ x) (high : x < b.1) :
    a.2 ≤ forwardOn a b x ∧ forwardOn a b x < b.2 := by
  obtain ⟨strokes, openings, -⟩ := h
  have below : (x - a.1) * (b.2 - a.2) / (b.1 - a.1) < b.2 - a.2 := by
    rw [Nat.div_lt_iff_lt_mul (by omega), Nat.mul_comm]
    exact Nat.mul_lt_mul_of_pos_left (by omega) (by omega)
  rw [forwardOn]
  exact ⟨Nat.le_add_right _ _, by omega⟩

/-- How far the inverse of a segment rounds: at most half an opening step either way (R126). -/
theorem inverseOn_rounds (h : Steeper a b) (t : Nat) : ∃ m, inverseOn a b t = a.1 + m ∧
    2 * (m * (b.2 - a.2)) ≤ 2 * ((t - a.2) * (b.1 - a.1)) + (b.2 - a.2) ∧
    2 * ((t - a.2) * (b.1 - a.1)) < 2 * (m * (b.2 - a.2)) + (b.2 - a.2) := by
  have step : 0 < 2 * (b.2 - a.2) := by
    obtain ⟨-, openings, -⟩ := h
    omega
  refine ⟨_, rfl, ?_, ?_⟩
  · have floor := Nat.div_mul_le_self ((t - a.2) * (b.1 - a.1) * 2 + (b.2 - a.2)) (2 * (b.2 - a.2))
    linarith
  · have ceil := Nat.lt_div_mul_add (a := (t - a.2) * (b.1 - a.1) * 2 + (b.2 - a.2)) step
    linarith

theorem inverseOn_bounds (h : Steeper a b) (high : t ≤ b.2) :
    a.1 ≤ inverseOn a b t ∧ inverseOn a b t ≤ b.1 := by
  obtain ⟨m, value, up, -⟩ := inverseOn_rounds h t
  obtain ⟨strokes, openings, -⟩ := h
  have rise := Nat.mul_le_mul_right (b.1 - a.1) (Nat.sub_le_sub_right high a.2)
  have short : m < b.1 - a.1 + 1 := by
    by_contra past
    have far := Nat.mul_le_mul_right (b.2 - a.2) (not_lt.1 past)
    have pos := Nat.sub_pos_of_lt openings
    nlinarith
  omega

/-- The inverse rounded up or met a whole count: its stroke converts back to the opening (R127). -/
theorem forwardOn_inverseOn (h : Steeper a b) (low : a.2 ≤ t)
    (up : (t - a.2) * (b.1 - a.1) ≤ (inverseOn a b t - a.1) * (b.2 - a.2)) :
    forwardOn a b (inverseOn a b t) = t := by
  obtain ⟨m, value, ceil, -⟩ := inverseOn_rounds h t
  obtain ⟨strokes, openings, steep⟩ := h
  simp only [value, Nat.add_sub_cancel_left] at up
  have back : m * (b.2 - a.2) / (b.1 - a.1) = t - a.2 :=
    Nat.div_eq_of_lt_le up (by rw [Nat.succ_mul]; omega)
  rw [value, forwardOn, Nat.add_sub_cancel_left, back]
  omega

/-- The inverse rounded down: its stroke converts back to the opening below (R127). -/
theorem forwardOn_inverseOn_succ (h : Steeper a b) (low : a.2 ≤ t)
    (down : (inverseOn a b t - a.1) * (b.2 - a.2) < (t - a.2) * (b.1 - a.1)) :
    forwardOn a b (inverseOn a b t) + 1 = t := by
  obtain ⟨m, value, -, floor⟩ := inverseOn_rounds h t
  obtain ⟨strokes, openings, steep⟩ := h
  simp only [value, Nat.add_sub_cancel_left] at down
  obtain ⟨n, hn⟩ : ∃ n, t - a.2 = n + 1 :=
    Nat.exists_eq_succ_of_ne_zero fun zero => by simp [zero] at down
  rw [hn, Nat.succ_mul n] at down floor
  have back : m * (b.2 - a.2) / (b.1 - a.1) = n :=
    Nat.div_eq_of_lt_le (by omega) (by rw [Nat.succ_mul]; omega)
  rw [value, forwardOn, Nat.add_sub_cancel_left, back]
  omega

/-- A stroke converted forward and back never grows, and the next opening's stroke is not below it (R127). -/
theorem inverseOn_forwardOn (h : Steeper a b) (low : a.1 ≤ x) :
    inverseOn a b (forwardOn a b x) ≤ x ∧ x ≤ inverseOn a b (forwardOn a b x + 1) := by
  obtain ⟨m, value, up, -⟩ := inverseOn_rounds h (forwardOn a b x)
  obtain ⟨m', value', -, down⟩ := inverseOn_rounds h (forwardOn a b x + 1)
  obtain ⟨strokes, openings, -⟩ := h
  have floor := Nat.div_mul_le_self ((x - a.1) * (b.2 - a.2)) (b.1 - a.1)
  have ceil := Nat.lt_div_mul_add (a := (x - a.1) * (b.2 - a.2)) (b := b.1 - a.1) (by omega)
  rw [forwardOn, Nat.add_sub_cancel_left] at up
  rw [forwardOn, Nat.add_assoc, Nat.add_sub_cancel_left,
    Nat.succ_mul ((x - a.1) * (b.2 - a.2) / (b.1 - a.1))] at down
  have pos := Nat.sub_pos_of_lt openings
  constructor
  · have : m < x - a.1 + 1 := Nat.lt_of_mul_lt_mul_right (a := b.2 - a.2) (by rw [Nat.succ_mul]; omega)
    omega
  · have : x - a.1 < m' + 1 := Nat.lt_of_mul_lt_mul_right (a := b.2 - a.2) (by rw [Nat.succ_mul]; omega)
    omega

end

end Sys2Proof.OpeningGeometry

namespace Sys2Proof.OpeningGeometry

open Sys2Proof Sys2Proof.Machine

/-! ## The conversions along a table that passes R124 -/

section
variable {p z a b : Nat × Nat} {l : List (Nat × Nat)} {k x t : Nat}

theorem strokes_rise (h : l.Pairwise Steeper) : l.Pairwise fun p q => p.1 < q.1 := h.imp And.left

theorem openings_rise (h : l.Pairwise Steeper) : l.Pairwise fun p q => p.2 < q.2 := h.imp fun s => s.2.1

theorem steeper_of_segment (h : l.Pairwise Steeper) (ha : l[k]? = some a) (hb : l[k + 1]? = some b) :
    Steeper a b := by
  obtain ⟨hk, rfl⟩ := List.getElem?_eq_some_iff.1 ha
  obtain ⟨hk', rfl⟩ := List.getElem?_eq_some_iff.1 hb
  exact List.pairwise_iff_getElem.1 h k (k + 1) hk hk' (Nat.lt_succ_self k)

theorem forwardAlong_of_segment (h : l.Pairwise Steeper) (ha : l[k]? = some a) (hb : l[k + 1]? = some b)
    (low : a.1 ≤ x) (high : x ≤ b.1) : forwardAlong l x = forwardOn a b x := by
  rw [forwardAlong_eq_along]
  rcases high.lt_or_eq with inside | rfl
  · exact along_of_segment (strokes_rise h) ha hb low inside
  · rw [along_at_point (strokes_rise h) forwardOn_start (List.mem_of_getElem? hb),
      forwardOn_end (steeper_of_segment h ha hb)]

theorem inverseAlong_of_segment (h : l.Pairwise Steeper) (ha : l[k]? = some a) (hb : l[k + 1]? = some b)
    (low : a.2 ≤ t) (high : t ≤ b.2) : inverseAlong l t = inverseOn a b t := by
  rw [inverseAlong_eq_along]
  rcases high.lt_or_eq with inside | rfl
  · exact along_of_segment (openings_rise h) ha hb low inside
  · rw [along_at_point (openings_rise h) inverseOn_start (List.mem_of_getElem? hb),
      inverseOn_end (steeper_of_segment h ha hb)]

theorem forwardAlong_at_point (h : l.Pairwise Steeper) (hz : z ∈ l) : forwardAlong l z.1 = z.2 := by
  rw [forwardAlong_eq_along, along_at_point (strokes_rise h) forwardOn_start hz]

theorem inverseAlong_at_point (h : l.Pairwise Steeper) (hz : z ∈ l) : inverseAlong l z.2 = z.1 := by
  rw [inverseAlong_eq_along, along_at_point (openings_rise h) inverseOn_start hz]

/-- Every point of a table lies between its first and its last. -/
theorem first_le (h : (p :: l).Pairwise Steeper) (hb : b ∈ p :: l) : p.1 ≤ b.1 ∧ p.2 ≤ b.2 := by
  rcases List.mem_cons.1 hb with rfl | later
  · exact ⟨le_rfl, le_rfl⟩
  · obtain ⟨strokes, openings, -⟩ := (List.pairwise_cons.1 h).1 b later
    exact ⟨strokes.le, openings.le⟩

theorem le_last (h : (l ++ [z]).Pairwise Steeper) (hb : b ∈ l ++ [z]) : b.1 ≤ z.1 ∧ b.2 ≤ z.2 := by
  rcases List.mem_append.1 hb with earlier | last
  · obtain ⟨strokes, openings, -⟩ := (List.pairwise_append.1 h).2.2 b earlier z (List.mem_singleton_self z)
    exact ⟨strokes.le, openings.le⟩
  · obtain rfl := List.mem_singleton.1 last
    exact ⟨le_rfl, le_rfl⟩

end

/-- A table that passes R124, from its first point to its last. -/
structure Passes (l : List (Nat × Nat)) (p z : Nat × Nat) : Prop where
  steep : l.Pairwise Steeper
  first : ∃ m, l = p :: m
  last : ∃ m, l = m ++ [z]

section
variable {p z : Nat × Nat} {l : List (Nat × Nat)} (h : Passes l p z)
include h

theorem Passes.bounds {b : Nat × Nat} (hb : b ∈ l) : p.1 ≤ b.1 ∧ p.2 ≤ b.2 ∧ b.1 ≤ z.1 ∧ b.2 ≤ z.2 := by
  obtain ⟨m, hm⟩ := h.first
  obtain ⟨n, hn⟩ := h.last
  obtain ⟨strokeLow, openingLow⟩ := first_le (hm ▸ h.steep) (hm ▸ hb)
  obtain ⟨strokeHigh, openingHigh⟩ := le_last (hn ▸ h.steep) (hn ▸ hb)
  exact ⟨strokeLow, openingLow, strokeHigh, openingHigh⟩

theorem Passes.last_mem : z ∈ l := by
  obtain ⟨n, rfl⟩ := h.last
  simp

/-- A value from the first point to the last meets the last point, or lies in a segment below its end. -/
theorem Passes.last_or_segment (key : Nat × Nat → Nat) {x : Nat} (low : key p ≤ x) (high : x ≤ key z) :
    x = key z ∨ ∃ k a b, l[k]? = some a ∧ l[k + 1]? = some b ∧ key a ≤ x ∧ x < key b := by
  obtain ⟨m, hm⟩ := h.first
  obtain ⟨n, hn⟩ := h.last
  have last : (p :: m).getLast (by simp) = z := by
    simp only [← hm, hn, List.getLast_append_singleton]
  rcases high.eq_or_lt with atEnd | below
  · exact .inl atEnd
  · exact .inr (hm ▸ exists_segment p low (last ▸ below))

theorem Passes.forwardAlong_le {x : Nat} (low : p.1 ≤ x) (high : x ≤ z.1) : forwardAlong l x ≤ z.2 := by
  rcases h.last_or_segment Prod.fst low high with rfl | ⟨k, a, b, ha, hb, above, below⟩
  · exact (forwardAlong_at_point h.steep h.last_mem).le
  · have within := forwardOn_bounds (steeper_of_segment h.steep ha hb) above below
    obtain ⟨-, -, -, top⟩ := h.bounds (List.mem_of_getElem? hb)
    rw [forwardAlong_of_segment h.steep ha hb above below.le]
    omega

theorem Passes.inverseAlong_bounds {t : Nat} (low : p.2 ≤ t) (high : t ≤ z.2) :
    p.1 ≤ inverseAlong l t ∧ inverseAlong l t ≤ z.1 := by
  rcases h.last_or_segment Prod.snd low high with rfl | ⟨k, a, b, ha, hb, above, below⟩
  · obtain ⟨bottom, -⟩ := h.bounds h.last_mem
    exact ⟨(inverseAlong_at_point h.steep h.last_mem).symm ▸ bottom,
      (inverseAlong_at_point h.steep h.last_mem).le⟩
  · have within := inverseOn_bounds (steeper_of_segment h.steep ha hb) below.le
    obtain ⟨bottom, -⟩ := h.bounds (List.mem_of_getElem? ha)
    obtain ⟨-, -, top, -⟩ := h.bounds (List.mem_of_getElem? hb)
    rw [inverseAlong_of_segment h.steep ha hb above below.le]
    omega

/-- In a segment, the opening that its stroke converts back to turns on the rounding of the inverse (R127). -/
theorem Passes.forward_inverse {k t : Nat} {a b : Nat × Nat} (ha : l[k]? = some a) (hb : l[k + 1]? = some b)
    (low : a.2 ≤ t) (high : t < b.2) :
    ((t - a.2) * (b.1 - a.1) ≤ (inverseAlong l t - a.1) * (b.2 - a.2) →
      forwardAlong l (inverseAlong l t) = t) ∧
    ((inverseAlong l t - a.1) * (b.2 - a.2) < (t - a.2) * (b.1 - a.1) →
      forwardAlong l (inverseAlong l t) + 1 = t) := by
  have steep := steeper_of_segment h.steep ha hb
  obtain ⟨above, below⟩ := inverseOn_bounds steep high.le
  rw [inverseAlong_of_segment h.steep ha hb low high.le, forwardAlong_of_segment h.steep ha hb above below]
  exact ⟨forwardOn_inverseOn steep low, forwardOn_inverseOn_succ steep low⟩

/-- The inverse of a stroke's opening is at most the stroke, the inverse of the next opening at least (R127). -/
theorem Passes.inverse_forward {x : Nat} (low : p.1 ≤ x) (high : x ≤ z.1) :
    inverseAlong l (forwardAlong l x) ≤ x ∧
    (forwardAlong l x < z.2 → x ≤ inverseAlong l (forwardAlong l x + 1)) ∧
    (forwardAlong l x = z.2 → x = z.1) := by
  rcases h.last_or_segment Prod.fst low high with rfl | ⟨k, a, b, ha, hb, above, below⟩
  · rw [forwardAlong_at_point h.steep h.last_mem, inverseAlong_at_point h.steep h.last_mem]
    exact ⟨le_rfl, fun short => absurd short (lt_irrefl _), fun _ => rfl⟩
  · have steep := steeper_of_segment h.steep ha hb
    obtain ⟨from_a, below_b⟩ := forwardOn_bounds steep above below
    obtain ⟨back, next⟩ := inverseOn_forwardOn steep above
    obtain ⟨-, -, -, top⟩ := h.bounds (List.mem_of_getElem? hb)
    rw [forwardAlong_of_segment h.steep ha hb above below.le,
      inverseAlong_of_segment h.steep ha hb from_a below_b.le,
      inverseAlong_of_segment h.steep ha hb (by omega) below_b]
    exact ⟨back, fun _ => next, fun atEnd => by omega⟩

end

/-! ## The geometry table of a configuration -/

/-- The tests of R124 on strokes and openings make the table pass. -/
theorem steeper_zip {ss os : List Nat} (strokes : risesStrictly ss = true) (openings : risesStrictly os = true)
    (steep : segmentsSteep ss os = true) : (ss.zip os).IsChain Steeper := by
  induction ss generalizing os with
  | nil => simp
  | cons s ss ih =>
    match ss, os with
    | _, [] => simp
    | [], o :: _ => simp
    | _ :: _, [o] => simp
    | s' :: ss, o' :: o :: os =>
      simp only [risesStrictly, segmentsSteep, Bool.and_eq_true, decide_eq_true_eq] at strokes openings steep
      refine List.isChain_cons_cons.2 ⟨?_, ih strokes.2 openings.2 steep.2⟩
      simp only [Steeper]
      omega

theorem geometryPoints_passes {w : Words} (strokes : risesStrictly (geometryStrokes w) = true)
    (openings : risesStrictly (geometryOpenings w) = true)
    (steep : segmentsSteep (geometryStrokes w) (geometryOpenings w) = true) :
    Passes (geometryPoints w) (Param.strokeMin w, 0) (Param.strokeMax w, Param.openMax w) where
  steep := by
    have : IsTrans (Nat × Nat) Steeper := ⟨fun _ _ _ => Steeper.trans⟩
    exact List.isChain_iff_pairwise.1 (steeper_zip strokes openings steep)
  first := ⟨_, rfl⟩
  last := ⟨(geometryPoints w).take 8, rfl⟩

theorem clampNat_of_mem {lo hi x : Nat} (low : lo ≤ x) (high : x ≤ hi) : clampNat lo hi x = x := by
  rw [clampNat, if_neg (by omega), if_neg (by omega)]

theorem forward_eq {w : Words} {x : Nat} (low : Param.strokeMin w ≤ x) (high : x ≤ Param.strokeMax w) :
    forward w x = forwardAlong (geometryPoints w) x := by
  rw [forward, clampNat_of_mem low high]

theorem inverse_eq {w : Words} {t : Nat} (high : t ≤ Param.openMax w) :
    inverse w t = inverseAlong (geometryPoints w) t := by
  rw [inverse, clampNat_of_mem (Nat.zero_le t) high]

/-- Settles O28: the ranges, then the segment that an opening or a stroke lies in, or the end of the table. -/
theorem conversionsRoundTrip : Obligations.ConversionsRoundTrip := by
  intro w _ _ strokes openings steep
  have table := geometryPoints_passes strokes openings steep
  have ordered : Param.strokeMin w ≤ Param.strokeMax w := (table.bounds table.last_mem).1
  have range (t : Nat) : Param.strokeMin w ≤ inverse w t ∧ inverse w t ≤ Param.strokeMax w := by
    obtain ⟨low, high⟩ := Stagger.clampNat_mem t (Nat.zero_le (Param.openMax w))
    exact table.inverseAlong_bounds low high
  refine ⟨fun x => ⟨?_, range x⟩, fun t ht => ⟨?_, fun k sk ok sk1 ok1 ha hb low high => ?_⟩,
    fun x low high => ?_⟩
  · obtain ⟨low, high⟩ := Stagger.clampNat_mem x ordered
    exact table.forwardAlong_le low high
  · rintro rfl
    rw [inverse_eq le_rfl, inverseAlong_at_point table.steep table.last_mem, forward_eq ordered le_rfl,
      forwardAlong_at_point table.steep table.last_mem]
  · obtain ⟨above, below⟩ := range t
    rw [forward_eq above below, inverse_eq ht]
    exact table.forward_inverse ha hb low high
  · have top := table.forwardAlong_le low high
    rw [forward_eq low high, inverse_eq top]
    refine (table.inverse_forward low high).imp_right (And.imp_left fun next short => ?_)
    rw [inverse_eq short]
    exact next short

end Sys2Proof.OpeningGeometry

namespace Sys2Proof.OpeningGeometry

open Sys2Proof Sys2Proof.Machine Sys2Proof.BayLine

/-! ## A read and its judgement (R128 to R130) -/

/-- The read is not one that R128 judges VALID for a channel that holds `value`. -/
def BadRead (value : Option Nat) (r : EncoderRead) : Prop :=
  r = .noAnswer ∨ ∃ y c, r = .answer y c ∧ (evenParity y c = false ∨ 60000 < y.toNat ∨
    ∃ h, value = some h ∧ 200 < ((y.toNat : Int) - h).natAbs)

theorem judgeRead_of_valid {value : Option Nat} {x : BitVec 16} {check : Bool}
    (even : evenParity x check = true) (range : x.toNat ≤ 60000)
    (near : ∀ h, value = some h → ((x.toNat : Int) - h).natAbs ≤ 200) :
    judgeRead value (.answer x check) = some x.toNat := by
  cases value with
  | none => simp [judgeRead, even, range]
  | some h => simp [judgeRead, even, range, near h rfl]

theorem judgeRead_of_bad {value : Option Nat} {r : EncoderRead} (bad : BadRead value r) :
    judgeRead value r = none := by
  rcases bad with rfl | ⟨y, c, rfl, odd | far | ⟨h, rfl, jump⟩⟩
  · rfl
  · simp [judgeRead, odd]
  · simp [judgeRead, far.not_ge]
  · simp [judgeRead, jump]

theorem take_of_valid {c : Channel} {r : EncoderRead} {v : Nat} (h : judgeRead c.value r = some v) :
    c.take r = { value := some v, invalidRun := 0, lastRead := .valid } := by
  rw [Channel.take, h]

theorem take_of_invalid {c : Channel} {r : EncoderRead} (h : judgeRead c.value r = none) :
    c.take r = { c with invalidRun := min 65535 (c.invalidRun + 1), lastRead := .invalid } := by
  rw [Channel.take, h]

/-- Settles O25, by the record that a sample leaves of each read. -/
theorem readsAreJudgedValidOrInvalid : Obligations.ReadsAreJudgedValidOrInvalid := by
  intro s x check o bad
  refine ⟨fun even range near => ⟨_, rfl, ?_⟩, fun even range near => ⟨_, rfl, ?_⟩,
    fun h => ⟨_, rfl, ?_⟩, fun h => ⟨_, rfl, ?_⟩⟩
  · rw [(sample_channels _ _ s).1, take_of_valid (judgeRead_of_valid even range near)]
  · rw [(sample_channels _ _ s).2, take_of_valid (judgeRead_of_valid even range near)]
  · simp [(sample_channels _ _ s).1, take_of_invalid (judgeRead_of_bad h)]
  · simp [(sample_channels _ _ s).2, take_of_invalid (judgeRead_of_bad h)]

end Sys2Proof.OpeningGeometry

namespace Sys2Proof.OpeningGeometry

open Sys2Proof Sys2Proof.Machine Sys2Proof.BayLine Sys2Proof.Stagger

/-! ## What a latched fault keeps through the rest of a servo sample (R156, R168) -/

/-- A station that a latched fault has stopped: the gate stands in FAULT_STOP and the claim is STILL. -/
structure Stopped (s : State) : Prop where
  running : s.cfs.out = false
  causes : s.fmn.causes ≠ noCauses
  motion : s.mtc.motion = .faultStop
  still : s.clu.state = .still

/-- The gate stands as it stood: MTC's state, outputs, movement and request, and drives that were 0. -/
structure SameGate (m n : Mtc) : Prop where
  motion : n.motion = m.motion
  pump : n.pump = m.pump
  valve : n.valve = m.valve
  movement : n.movement = m.movement
  limits : n.limits = m.limits
  request : n.closureRequest = m.closureRequest
  driveL : m.driveL = 0 → n.driveL = 0
  driveR : m.driveR = 0 → n.driveR = 0

/-- Causes other than ENCODER_L only join: those latched stay, and so do the line and the record but for the
recorded causes (R168). -/
structure CausesJoin (f g : Fmn) : Prop where
  has : ∀ c, f.causes.has c = true → g.causes.has c = true
  encoderL : g.causes.encoderL = f.causes.encoderL
  line : g.faultLine = f.faultLine
  record : ∀ x, f.record = some x → ∃ y, g.record = some y ∧ y = { x with recorded := y.recorded } ∧
    ∀ c, x.recorded.has c = true → y.recorded.has c = true

/-- What every later step of a sample keeps of a stopped station. -/
structure StaysStopped (s t : State) : Prop where
  stopped : Stopped t
  gate : SameGate s.mtc t.mtc
  causes : CausesJoin s.fmn t.fmn
  service : t.osl.service = s.osl.service
  act : ActKept s.act t.act

theorem SameGate.refl (m : Mtc) : SameGate m m := ⟨rfl, rfl, rfl, rfl, rfl, rfl, id, id⟩

theorem SameGate.trans {m n o : Mtc} (h : SameGate m n) (k : SameGate n o) : SameGate m o where
  motion := k.motion.trans h.motion
  pump := k.pump.trans h.pump
  valve := k.valve.trans h.valve
  movement := k.movement.trans h.movement
  limits := k.limits.trans h.limits
  request := k.request.trans h.request
  driveL := k.driveL ∘ h.driveL
  driveR := k.driveR ∘ h.driveR

theorem CausesJoin.refl (f : Fmn) : CausesJoin f f :=
  ⟨fun _ => id, rfl, rfl, fun x hx => ⟨x, hx, rfl, fun _ => id⟩⟩

theorem CausesJoin.trans {f g k : Fmn} (h : CausesJoin f g) (j : CausesJoin g k) : CausesJoin f k where
  has c := j.has c ∘ h.has c
  encoderL := j.encoderL.trans h.encoderL
  line := j.line.trans h.line
  record x hx := by
    obtain ⟨y, hy, same, joined⟩ := h.record x hx
    obtain ⟨z, hz, same', joined'⟩ := j.record y hy
    exact ⟨z, hz, by rw [same', same], fun c => joined' c ∘ joined c⟩

/-- A cause joins a set and leaves the others as they are. -/
theorem has_add_eq (x : CauseSet) (c d : Cause) : (x.add c).has d = (x.has d || c == d) := by
  cases c <;> cases d <;> simp [CauseSet.add, CauseSet.has]

theorem has_add {x : CauseSet} (c : Cause) {d : Cause} (h : x.has d = true) : (x.add c).has d = true := by
  simp [has_add_eq, h]

theorem has_add_self (x : CauseSet) (c : Cause) : (x.add c).has c = true := by simp [has_add_eq]

theorem add_encoderL {c : Cause} (h : c ≠ .encoderL) (x : CauseSet) : (x.add c).encoderL = x.encoderL := by
  cases c with
  | encoderL => exact absurd rfl h
  | _ => rfl

/-- A second fault of another cause joins the set and the record (R168). -/
theorem secondFault_causes {c : Cause} (hc : c ≠ .encoderL) (s : State) :
    CausesJoin s.fmn (secondFault c s).fmn := by
  rw [secondFault_fmn]
  exact {
    has := fun _ => has_add c
    encoderL := add_encoderL hc _
    line := rfl
    record := fun x hx => ⟨{ x with recorded := x.recorded.add c }, by simp [hx], rfl, fun _ => has_add c⟩ }

section
variable {s t u : State}

theorem StaysStopped.refl (h : Stopped s) : StaysStopped s s := ⟨h, .refl _, .refl _, rfl, .refl _⟩

theorem StaysStopped.andThen (h : StaysStopped s t) (k : Stopped t → StaysStopped t u) :
    StaysStopped s u where
  stopped := (k h.stopped).stopped
  gate := h.gate.trans (k h.stopped).gate
  causes := h.causes.trans (k h.stopped).causes
  service := (k h.stopped).service.trans h.service
  act := h.act.trans (k h.stopped).act

/-- A change that reaches neither the configuration, FMN, the claim's state, the service state nor ACT. -/
theorem StaysStopped.of_gate (h : Stopped s) (gate : SameGate s.mtc t.mtc) (cfs : t.cfs = s.cfs := by simp)
    (fmn : t.fmn = s.fmn := by simp) (still : t.clu.state = s.clu.state := by simp)
    (service : t.osl.service = s.osl.service := by simp) (act : ActKept s.act t.act := by exact .refl _) :
    StaysStopped s t where
  stopped := ⟨cfs ▸ h.running, fmn ▸ h.causes, gate.motion.trans h.motion, still.trans h.still⟩
  gate := gate
  causes := fmn ▸ .refl _
  service := service
  act := act

section
variable (h : Stopped s)
include h

theorem reportFault_stays {c : Cause} (hc : c ≠ .encoderL) : StaysStopped s (reportFault c s) := by
  cases has : s.fmn.causes.has c with
  | true =>
    rw [reportFault_latched has]
    exact .refl h
  | false =>
    have kept := (secondFault_inEvent c s).act
    have mtc : (secondFault c s).mtc = s.mtc := by simp [secondFault_mtc, h.motion]
    have causes : (secondFault c s).fmn.causes ≠ noCauses := by
      rw [secondFault_fmn]
      exact add_ne_noCauses _ _
    rw [reportFault_second h.running h.causes has]
    exact {
      stopped := ⟨by simpa using h.running, causes, by rw [mtc, h.motion], by simpa using h.still⟩
      gate := mtc ▸ .refl _
      causes := secondFault_causes hc s
      service := by simp
      act := kept }

theorem reportIf_stays {c : Cause} (hc : c ≠ .encoderL) (p : Bool) : StaysStopped s (reportIf p c s) := by
  unfold reportIf
  split
  · exact reportFault_stays h hc
  · exact .refl h

theorem loopsRun_of_stopped : loopsRun s.mtc.motion s.mtc.phase = false := by rw [h.motion]; rfl

theorem sampleTests_stays : StaysStopped s (sampleTests s) := by
  have evaluated {t : State} (ht : Stopped t) :
      StaysStopped t (t.setMtc (t.mtc.evalSkewHold t.cfs.working)) := by
    have same : t.mtc.evalSkewHold t.cfs.working = t.mtc := by
      simp [Mtc.evalSkewHold, Motion.bothLoops, ht.motion]
    exact .of_gate ht (by simp [same, SameGate.refl])
  exact (reportIf_stays h (by simp) _).andThen fun k => (reportIf_stays k (by simp) _).andThen evaluated

/-- In FAULT_STOP no setpoint moves and no hoist is driven (R139, R145). -/
theorem computeDrives_stays : StaysStopped s (computeDrives (advanceSetpoint s)) := by
  have stands : advanceSetpoint s = s := by
    simp [advanceSetpoint, Mtc.profileRuns, Mtc.trimMoves, h.motion]
  have still (k : Hoist) := driveFor_of_still s.cfs.working s.mtc k (loopsRun_of_stopped h)
  rw [stands]
  exact .of_gate h ⟨rfl, rfl, rfl, rfl, rfl, rfl, fun _ => by simp [computeDrives, still],
    fun _ => by simp [computeDrives, still]⟩

theorem updateStalls_stays : StaysStopped s (updateStalls s) := by
  have counted (l r : Stall) : StaysStopped s (s.setMtc { s.mtc with stallL := l, stallR := r }) :=
    .of_gate h ⟨rfl, rfl, rfl, rfl, rfl, rfl, id, id⟩
  exact (counted _ _).andThen fun k => (reportIf_stays k (c := .stallL) (by simp) _).andThen fun k =>
    reportIf_stays k (c := .stallR) (by simp) _

theorem sampleDrives_stays : StaysStopped s (sampleDrives s) :=
  (computeDrives_stays h).andThen updateStalls_stays

/-- Steps 8 to 10 leave FAULT_STOP alone while a cause is latched (R148, R157, R161). -/
theorem settleAndTrim_stopped (settling : Bool) : settleAndTrim settling s = s := by
  simp [settleAndTrim, State.trimEnds, Mtc.trimMoves, h.motion]

theorem leaveFaultStop_stopped : leaveFaultStop s = s := by
  simp [leaveFaultStop, State.faultLatched, CauseSet.isEmpty, h.causes]

theorem handOver_stays : StaysStopped s (handOver s) :=
  .of_gate h (by simp [SameGate.refl]) (act := handOverSamples_kept _ s)

theorem awaitRest_stays : StaysStopped s (awaitRest s) := by
  unfold awaitRest
  split
  · exact .of_gate h (.refl _) (service := by rfl)
  · exact .refl h

theorem firstStroke_stopped (before : Option Nat) : firstStroke before s = s := by
  simp [firstStroke, closureTest_of_fault h.causes]

/-- A latched fault leaves the claim STILL (R41). -/
theorem openingTest_stays : StaysStopped s (openingTest s) := by
  have unmet : s.claimConditions = false := by
    simp [State.claimConditions, State.faultLatched, CauseSet.isEmpty, h.causes]
  have still : (testClaim s).clu.state = s.clu.state := by simp [testClaim, h.running, h.still, unmet]
  unfold openingTest
  split
  · exact .refl h
  · exact .of_gate h (by simp [SameGate.refl]) (still := still) (act := by simp [ActKept.refl])

/-- What follows the drives in a sample. -/
theorem afterDrives_stays (settling : Bool) (before : Option Nat) :
    StaysStopped s (openingTest (firstStroke before (awaitRest (leaveFaultStop
      (handOver (settleAndTrim settling s)))))) := by
  rw [settleAndTrim_stopped h]
  refine (handOver_stays h).andThen fun k => ?_
  rw [leaveFaultStop_stopped k]
  refine (awaitRest_stays k).andThen fun k => ?_
  rw [firstStroke_stopped k]
  exact openingTest_stays k

/-- What follows the reads in a sample. -/
theorem afterReads_stays (before : Option Nat) :
    StaysStopped s (openingTest (firstStroke before (awaitRest (sampleSteps s)))) :=
  (sampleTests_stays h).andThen fun k => (sampleDrives_stays k).andThen fun k => afterDrives_stays k _ _

end

end

end Sys2Proof.OpeningGeometry

namespace Sys2Proof.OpeningGeometry

open Sys2Proof Sys2Proof.Machine Sys2Proof.BayLine Sys2Proof.Stagger

/-! ## A fault taken (R156, R167, R169) -/

/-- What a first fault of cause c makes of s, and the rest of its sample keeps: the record, the FAULT line and
attention cause, the gate in FAULT_STOP with its outputs off, the claim STILL and the service state FAULTED. -/
structure FaultTaken (c : Cause) (s t : State) : Prop where
  latched : t.fmn.causes.has c = true
  line : t.fmn.faultLine = true
  record : ∃ x, t.fmn.record = some x ∧ x.first = c ∧ x.motion = s.mtc.motion ∧
    x.number = s.clu.recordNumber
  motion : t.mtc.motion = .faultStop
  driveL : t.mtc.driveL = 0
  driveR : t.mtc.driveR = 0
  pump : t.mtc.pump = false
  valve : t.mtc.valve = false
  movement : t.mtc.movement = none
  limits : t.mtc.limits = none
  request : t.mtc.closureRequest = s.mtc.closureRequest
  still : t.clu.state = .still
  service : t.osl.service = .faulted
  attention : t.act.causes &&& 0x001 = 0x001

section
variable {s t u : State} {c : Cause}

theorem firstFault_taken (c : Cause) (out : s.cfs.out = false) : FaultTaken c s (firstFault c s) where
  latched := by rw [firstFault_fmn]; exact has_add_self _ c
  line := by rw [firstFault_fmn]
  record := by rw [firstFault_fmn]; exact ⟨_, rfl, rfl, rfl, rfl⟩
  motion := by rw [firstFault_mtc]; rfl
  driveL := by rw [firstFault_mtc]; rfl
  driveR := by rw [firstFault_mtc]; rfl
  pump := by rw [firstFault_mtc]; rfl
  valve := by rw [firstFault_mtc]; rfl
  movement := by rw [firstFault_mtc]; rfl
  limits := by rw [firstFault_mtc]; rfl
  request := by rw [firstFault_mtc]; rfl
  still := firstFault_state c s
  service := firstFault_service c out
  attention := setAttention_fault _

theorem firstFault_stopped (c : Cause) (out : s.cfs.out = false) : Stopped (firstFault c s) where
  running := by simpa using out
  causes := by rw [firstFault_fmn]; exact add_ne_noCauses _ c
  motion := (firstFault_taken c out).motion
  still := firstFault_state c s

theorem FaultTaken.stays (h : FaultTaken c s t) (k : StaysStopped t u) : FaultTaken c s u where
  latched := k.causes.has c h.latched
  line := k.causes.line.trans h.line
  record := by
    obtain ⟨x, hx, first, motion, number⟩ := h.record
    obtain ⟨y, hy, same, -⟩ := k.causes.record x hx
    rw [same] at hy
    exact ⟨_, hy, first, motion, number⟩
  motion := k.stopped.motion
  driveL := k.gate.driveL h.driveL
  driveR := k.gate.driveR h.driveR
  pump := k.gate.pump.trans h.pump
  valve := k.gate.valve.trans h.valve
  movement := k.gate.movement.trans h.movement
  limits := k.gate.limits.trans h.limits
  request := k.gate.request.trans h.request
  still := k.stopped.still
  service := k.service.trans h.service
  attention := k.act.keeps_fault h.attention

/-- Outside OUT a reported cause is latched, first, later or before (R166). -/
theorem reportFault_latches (c : Cause) (out : s.cfs.out = false) :
    (reportFault c s).fmn.causes.has c = true := by
  cases has : s.fmn.causes.has c with
  | true => rwa [reportFault_latched has]
  | false =>
    by_cases free : s.fmn.causes = noCauses
    · rw [reportFault_first out free]
      exact (firstFault_taken c out).latched
    · rw [reportFault_second out free has, secondFault_fmn]
      exact has_add_self _ c

end

/-! ## The reads of a servo sample (R130, R162) -/

/-- The state that the two reads leave before their faults are reported: both records, and the invalid reads
counted. -/
def readChannels (l r : EncoderRead) (s : State) : State :=
  countRead (s.mtc.right.take r) (countRead (s.mtc.left.take l)
    (s.setMtc { s.mtc with left := s.mtc.left.take l, right := s.mtc.right.take r }))

section
variable {l r : EncoderRead} {s u : State}

@[simp] theorem readChannels_mtc (l r : EncoderRead) (s : State) : (readChannels l r s).mtc =
    { s.mtc with left := s.mtc.left.take l, right := s.mtc.right.take r } := by
  simp [readChannels]

@[simp] theorem readChannels_frame (l r : EncoderRead) (s : State) : (readChannels l r s).cfs = s.cfs ∧
    (readChannels l r s).fmn = s.fmn ∧ (readChannels l r s).clu = s.clu ∧ (readChannels l r s).osl = s.osl ∧
    (readChannels l r s).pins = s.pins := by
  simp [readChannels]

theorem readEncoders_eq (l r : EncoderRead) (s : State) : readEncoders l r s =
    reportIf (s.mtc.right.reachesThree (s.mtc.right.take r)) .encoderR
      (reportIf (s.mtc.left.reachesThree (s.mtc.left.take l)) .encoderL (readChannels l r s)) := rfl

theorem sample_of_running (out : s.cfs.out = false) : sample l r s =
    openingTest (firstStroke s.mtc.gateStroke (awaitRest (sampleSteps (readEncoders l r s)))) := by
  simp [sample, out]

/-- A read brings the invalid run to 3 just where the run is 2 and the read is INVALID (R130). -/
theorem reachesThree_iff (c : Channel) (r : EncoderRead) :
    c.reachesThree (c.take r) = true ↔ c.invalidRun = 2 ∧ judgeRead c.value r = none := by
  simp only [Channel.reachesThree, Bool.and_eq_true, beq_iff_eq]
  refine and_congr_right fun two => ?_
  cases judged : judgeRead c.value r with
  | none => simp [take_of_invalid judged, two]
  | some v => simp [take_of_valid judged]

theorem exec_encoderFault {h : Hoist} (out : s.cfs.out = false) (three : s.readsThree h l r = true) :
    exec (.encoderFault h l r) s = .next (sample l r s) := by
  simp [exec, execEncoderFault, out, three]

/-- A station that the reads have stopped stays so through the sample. -/
theorem sample_stays (out : s.cfs.out = false) (reads : StaysStopped u (readEncoders l r s)) :
    StaysStopped u (sample l r s) := by
  rw [sample_of_running out]
  exact reads.andThen fun k => afterReads_stays k _

/-- ENCODER_L is reported before ENCODER_R (R166). -/
theorem readEncoders_left (three : s.mtc.left.reachesThree (s.mtc.left.take l) = true)
    (stopped : Stopped (reportFault .encoderL (readChannels l r s))) :
    StaysStopped (reportFault .encoderL (readChannels l r s)) (readEncoders l r s) := by
  rw [readEncoders_eq, three]
  exact reportIf_stays stopped (by simp) _

theorem readEncoders_right (three : s.mtc.right.reachesThree (s.mtc.right.take r) = true)
    (other : s.mtc.left.reachesThree (s.mtc.left.take l) = false) :
    readEncoders l r s = reportFault .encoderR (readChannels l r s) := by
  rw [readEncoders_eq, three, other]
  rfl

/-- A second fault finds the gate stopped, or stops its trim (R161, R168). -/
theorem secondFault_stopped {c : Cause} (out : s.cfs.out = false) (caught : s.fmn.causes ≠ noCauses)
    (motion : s.faultMotionOk = true) : Stopped (secondFault c s) := by
  have halted : s.clu.state = .still ∧ (s.mtc.motion = .faultStop ∨ s.mtc.motion = .trim) := by
    simp only [State.faultMotionOk, CauseSet.isEmpty, Bool.or_eq_true, Bool.and_eq_true, beq_iff_eq] at motion
    exact (motion.resolve_left caught).imp_right (Or.imp_right And.left)
  obtain ⟨still, gate⟩ := halted
  refine ⟨by simpa using out, ?_, ?_, by simpa using still⟩
  · rw [secondFault_fmn]
    exact add_ne_noCauses _ c
  · rw [secondFault_mtc]
    split
    · rfl
    · next moves => exact gate.resolve_right moves

end

section
variable {s : State} {l r : EncoderRead}

/-- A fault that the reads report first is the fault that the sample takes. -/
theorem sample_taken {c : Cause} (out : s.cfs.out = false)
    (reads : StaysStopped (firstFault c (readChannels l r s)) (readEncoders l r s)) :
    FaultTaken c s (sample l r s) := by
  have taken := (firstFault_taken c (by simpa using out)).stays (sample_stays out reads)
  exact { taken with
    record := by simpa using taken.record
    request := by simpa using taken.request }

/-- ENCODER_L as the first fault (R130, R167). -/
theorem encoderL_taken (out : s.cfs.out = false) (free : s.fmn.causes = noCauses)
    (three : s.mtc.left.reachesThree (s.mtc.left.take l) = true) :
    FaultTaken .encoderL s (sample l r s) := by
  have first : reportFault .encoderL (readChannels l r s) = firstFault .encoderL (readChannels l r s) :=
    reportFault_first (by simpa using out) (by simpa using free)
  have stopped := firstFault_stopped .encoderL (s := readChannels l r s) (by simpa using out)
  exact sample_taken out (first ▸ readEncoders_left three (first ▸ stopped))

/-- ENCODER_L as a later fault: the gate stays stopped, or its trim ends (R161, R168). -/
theorem encoderL_joins (out : s.cfs.out = false) (caught : s.fmn.causes ≠ noCauses)
    (new : s.fmn.causes.has .encoderL = false) (motion : s.faultMotionOk = true)
    (three : s.mtc.left.reachesThree (s.mtc.left.take l) = true) :
    StaysStopped (secondFault .encoderL (readChannels l r s)) (sample l r s) := by
  have second : reportFault .encoderL (readChannels l r s) = secondFault .encoderL (readChannels l r s) :=
    reportFault_second (by simpa using out) (by simpa using caught) (by simpa using new)
  have stopped : Stopped (secondFault .encoderL (readChannels l r s)) :=
    secondFault_stopped (by simpa using out) (by simpa using caught)
      (by simpa [State.faultMotionOk] using motion)
  exact sample_stays out (second ▸ readEncoders_left three (second ▸ stopped))

end

/-- Settles O26, as a first fault and as a later one. -/
theorem thirdInvalidReadLatchesTheFault : Obligations.ThirdInvalidReadLatchesTheFault := by
  intro s l r out run bad
  have three : s.mtc.left.reachesThree (s.mtc.left.take l) = true := (reachesThree_iff _ _).2 ⟨run, bad⟩
  have sampled : exec (.encoderFault .left l r) s = .next (sample l r s) := exec_encoderFault out three
  refine ⟨fun free => ⟨_, sampled, ?_⟩, fun caught new motion => ⟨_, sampled, ?_⟩⟩
  · have taken := encoderL_taken (r := r) out free three
    refine ⟨taken.latched, taken.line, taken.record, taken.motion, taken.driveL, taken.driveR, taken.pump,
      taken.valve, taken.movement, taken.limits, taken.still, taken.service, taken.attention, taken.request, ?_⟩
    simp
  · have stays := encoderL_joins (r := r) out caught new motion three
    have fmn : (readChannels l r s).fmn = s.fmn := by simp
    have joined := stays.causes
    rw [secondFault_fmn, fmn] at joined
    refine ⟨joined.has .encoderL (has_add_self s.fmn.causes .encoderL),
      fun c had => joined.has c (has_add _ had), joined.line,
      stays.act.keeps_fault (secondFault_attention _ _), stays.stopped.motion, stays.stopped.still,
      by simpa using stays.service, fun x hx => ?_, by simp⟩
    obtain ⟨y, hy, same, recorded⟩ := joined.record _ (by rw [hx]; rfl)
    exact ⟨y, hy, same, recorded .encoderL (has_add_self x.recorded .encoderL),
      fun c had => recorded c (has_add _ had)⟩

end Sys2Proof.OpeningGeometry

namespace Sys2Proof.OpeningGeometry

open Sys2Proof Sys2Proof.Machine Sys2Proof.BayLine Sys2Proof.Stagger

/-! ## ENCODER_R (R130) -/

section
variable {s : State} {l r : EncoderRead}

/-- ENCODER_R as the first fault: the left read reports nothing, and nothing later in the sample reports
ENCODER_L. -/
theorem encoderR_taken (out : s.cfs.out = false) (free : s.fmn.causes = noCauses)
    (three : s.mtc.right.reachesThree (s.mtc.right.take r) = true)
    (other : s.mtc.left.reachesThree (s.mtc.left.take l) = false) :
    FaultTaken .encoderR s (sample l r s) ∧ (sample l r s).fmn.causes.encoderL = false := by
  have out' : (readChannels l r s).cfs.out = false := by simpa using out
  have reads : readEncoders l r s = firstFault .encoderR (readChannels l r s) := by
    rw [readEncoders_right three other, reportFault_first out' (by simpa using free)]
  have stays : StaysStopped (firstFault .encoderR (readChannels l r s)) (readEncoders l r s) := by
    rw [reads]
    exact .refl (firstFault_stopped .encoderR out')
  refine ⟨sample_taken out stays, ?_⟩
  rw [(sample_stays out stays).causes.encoderL, firstFault_fmn]
  simp [free, CauseSet.add, noCauses]

end

/-! ## A sample that finds the gate level (R135, R152, R154, R155) -/

/-- Both strokes stand at x, inside the limits, and any skew would be noticed. -/
structure Level (x : Nat) (s : State) : Prop where
  left : s.mtc.left.value = some x
  right : s.mtc.right.value = some x
  low : Param.strokeMin s.cfs.working ≤ x
  high : x ≤ Param.strokeMax s.cfs.working
  warn : 1 ≤ Param.skewWarn s.cfs.working
  trip : 1 ≤ Param.skewTrip s.cfs.working

section
variable {s : State} {x : Nat}

/-- The tests of steps 2 to 4 find nothing on a level gate. -/
theorem sampleTests_of_level (h : Level x s) (hold : s.mtc.skewHold = false) : sampleTests s = s := by
  have skew : s.mtc.skew = some 0 := by simp [Mtc.skew, h.left, h.right]
  have inside : overtravelTest s = s := by
    have bounds : ¬ (x + 50 < Param.strokeMin s.cfs.working ∨ Param.strokeMax s.cfs.working + 50 < x) := by
      have low := h.low
      have high := h.high
      omega
    simp [overtravelTest, reportIf, outsideLimits, h.left, h.right, bounds]
  have untripped : skewTripTest s = s := by
    simp [skewTripTest, reportIf, State.skewTripped, skew, Nat.one_le_iff_ne_zero.1 h.trip]
  have unheld : s.mtc.evalSkewHold s.cfs.working = s.mtc := by
    simp [Mtc.evalSkewHold, Mtc.skewSize, skew, hold, Nat.one_le_iff_ne_zero.1 h.warn]
  rw [sampleTests, inside, untripped, unheld]
  rfl

/-- In SETTLING the profile stands (R145). -/
theorem advanceSetpoint_settling (settling : s.mtc.motion = .settling) : advanceSetpoint s = s := by
  simp [advanceSetpoint, Mtc.profileRuns, Mtc.trimMoves, settling]

/-- With no skew hold and no HOLD_IN a settling hoist is driven by its own loop (R150). -/
theorem driveR_settling {q : Nat} (settling : s.mtc.motion = .settling) (held : s.pins.holdIn = false)
    (hold : s.mtc.skewHold = false) (setpoint : s.mtc.setpoint = some q) (value : s.mtc.right.value = some x) :
    (computeDrives s).mtc.driveR = loopDrive s.cfs.working ((q / 256 : Nat) - (x : Int)) := by
  simp [computeDrives, Mtc.driveFor, Mtc.forcedZero, driveOf, errorOf, Mtc.profile, Motion.bothLoops,
    settling, held, hold, setpoint, value]

/-- A window that ends at this sample with the stroke at its reference (R155). -/
theorem stalled_of_window {h : Stall} {w ref : Nat} {drive : Int} (full : drive.natAbs = 1000)
    (window : h.run + 1 = w) (begun : 1 ≤ h.run) (hr : h.ref = some ref)
    (near : ((x : Int) - ref).natAbs < 2) :
    (h.count true drive (some x)).stalled w (some x) = true := by
  have counted : h.count true drive (some x) = { h with run := h.run + 1 } := by
    simp [Stall.count, full, Nat.one_le_iff_ne_zero.1 begun]
  simp [counted, Stall.stalled, window, hr, near]

/-- STALL_R is reported after STALL_L: whichever is taken first, both are latched (R155, R166). -/
theorem stallR_taken (out : s.cfs.out = false) (free : s.fmn.causes = noCauses) (p : Bool) :
    Stopped (reportFault .stallR (reportIf p .stallL s)) ∧
      ∃ c, FaultTaken c s (reportFault .stallR (reportIf p .stallL s)) := by
  cases p with
  | false =>
    have alone : reportFault .stallR (reportIf false .stallL s) = firstFault .stallR s :=
      reportFault_first out free
    rw [alone]
    exact ⟨firstFault_stopped _ out, _, firstFault_taken _ out⟩
  | true =>
    have first : reportIf true .stallL s = firstFault .stallL s := reportFault_first out free
    have stays := reportFault_stays (firstFault_stopped .stallL out) (c := .stallR) (by simp)
    rw [first]
    exact ⟨stays.stopped, _, (firstFault_taken _ out).stays stays⟩

/-- Step 7 with the right window ended at its reference: STALL_R is latched and the gate stopped (R155). -/
theorem updateStalls_stallR (out : s.cfs.out = false) (free : s.fmn.causes = noCauses)
    (stalled : (s.mtc.stallR.count (s.mtc.loopOf .right) s.mtc.driveR s.mtc.right.value).stalled
      (Param.stallWindow s.cfs.working) s.mtc.right.value = true) :
    Stopped (updateStalls s) ∧ (updateStalls s).fmn.causes.has .stallR = true ∧
      ∃ c u, FaultTaken c u (updateStalls s) := by
  have reported (p : Bool) (u : State) (hout : u.cfs.out = false) (hnone : u.fmn.causes = noCauses) :
      Stopped (reportFault .stallR (reportIf p .stallL u)) ∧
      (reportFault .stallR (reportIf p .stallL u)).fmn.causes.has .stallR = true ∧
      ∃ c v, FaultTaken c v (reportFault .stallR (reportIf p .stallL u)) := by
    obtain ⟨stopped, c, taken⟩ := stallR_taken hout hnone p
    exact ⟨stopped, reportFault_latches _ (by simpa using hout), c, u, taken⟩
  rw [updateStalls, stalled, reportIf, if_pos rfl]
  exact reported _ _ out free

/-- The right hoist at full drive in SETTLING on a level gate, with its stall window ending at this sample. -/
structure StallsAt (x ref q : Nat) (s : State) : Prop where
  level : Level x s
  running : s.cfs.out = false
  unlatched : s.fmn.causes = noCauses
  settling : s.mtc.motion = .settling
  holdIn : s.pins.holdIn = false
  skewHold : s.mtc.skewHold = false
  setpoint : s.mtc.setpoint = some q
  drive : (loopDrive s.cfs.working ((q / 256 : Nat) - (x : Int))).natAbs = 1000
  window : s.mtc.stallR.run + 1 = Param.stallWindow s.cfs.working
  begun : 1 ≤ s.mtc.stallR.run
  reference : s.mtc.stallR.ref = some ref
  near : ((x : Int) - ref).natAbs < 2

/-- Steps 5 to 7 latch STALL_R and stop the gate (R155). -/
theorem StallsAt.stops {ref q : Nat} (h : StallsAt x ref q s) : Stopped (sampleDrives s) ∧
    (sampleDrives s).fmn.causes.has .stallR = true ∧ ∃ c u, FaultTaken c u (sampleDrives s) := by
  have driveR := driveR_settling h.settling h.holdIn h.skewHold h.setpoint h.level.right
  have runs : (computeDrives s).mtc.loopOf .right = true := by
    simp [Mtc.loopOf, computeDrives, h.settling, Motion.bothLoops]
  have value : (computeDrives s).mtc.right.value = some x := by simpa using h.level.right
  have history : (computeDrives s).mtc.stallR = s.mtc.stallR := rfl
  rw [sampleDrives, advanceSetpoint_settling h.settling]
  refine updateStalls_stallR (by simpa using h.running) (by simpa using h.unlatched) ?_
  rw [runs, driveR, value, history]
  simpa using stalled_of_window h.drive h.window h.begun h.reference h.near

/-- The rest of the sample keeps what its drives have latched. -/
theorem StallsAt.sampled {ref q : Nat} {l r : EncoderRead} (out : s.cfs.out = false)
    (reads : readEncoders l r s = readChannels l r s) (h : StallsAt x ref q (readChannels l r s)) :
    (sample l r s).fmn.causes.has .stallR = true ∧ ∃ c u, FaultTaken c u (sample l r s) := by
  obtain ⟨stopped, latched, c, u, taken⟩ := h.stops
  rw [sample_of_running out, reads, sampleSteps, sampleTests_of_level h.level h.skewHold]
  have stays := afterDrives_stays stopped ((readChannels l r s).mtc.motion == .settling) s.mtc.gateStroke
  exact ⟨stays.causes.has _ latched, c, u, taken.stays stays⟩

end

section
variable {s : State} {l : EncoderRead} {x : BitVec 16} {check : Bool}

/-- A VALID right read and a left run below 2 report no encoder fault (R130). -/
theorem readEncoders_of_valid (valid : judgeRead s.mtc.right.value (.answer x check) = some x.toNat)
    (run : s.mtc.left.invalidRun < 2) :
    readEncoders l (.answer x check) s = readChannels l (.answer x check) s := by
  have left : s.mtc.left.reachesThree (s.mtc.left.take l) = false := by
    rw [Bool.eq_false_iff, Ne, reachesThree_iff]
    omega
  have right : s.mtc.right.reachesThree (s.mtc.right.take (.answer x check)) = false := by
    rw [Bool.eq_false_iff, Ne, reachesThree_iff, valid]
    simp
  rw [readEncoders_eq, left, right]
  rfl

end

/-- Settles O60: the reads' fault, and the stall that step 7 finds. -/
theorem rightHoistLatchesItsOwnFaults : Obligations.RightHoistLatchesItsOwnFaults := by
  intro s out free
  refine ⟨fun l r run bad other => ?_, fun x check l ref q settling holdIn skewHold right even range leftRun
    left low high warn trip setpoint drive window begun reference near => ?_⟩
  · have three : s.mtc.right.reachesThree (s.mtc.right.take r) = true := (reachesThree_iff _ _).2 ⟨run, bad⟩
    have quiet : s.mtc.left.reachesThree (s.mtc.left.take l) = false := by
      rw [Bool.eq_false_iff, Ne, reachesThree_iff]
      exact not_and_or.2 other
    obtain ⟨taken, unlatched⟩ := encoderR_taken out free three quiet
    refine ⟨_, exec_encoderFault out three, taken.latched, unlatched, taken.line, taken.record, taken.motion,
      taken.driveL, taken.driveR, taken.pump, taken.valve, taken.movement, taken.limits, taken.still,
      taken.service, taken.attention, taken.request, ?_⟩
    simp
  · have valid : judgeRead s.mtc.right.value (.answer x check) = some x.toNat :=
      judgeRead_of_valid even range (by simp [right])
    have reads := readEncoders_of_valid (l := l) valid leftRun
    have stalls : StallsAt x.toNat ref q (readChannels l (.answer x check) s) := {
      level := ⟨by simpa using left, by simp [take_of_valid valid], by simpa using low, by simpa using high,
        by simpa using warn, by simpa using trip⟩
      running := by simpa using out
      unlatched := by simpa using free
      settling := by simpa using settling
      holdIn := by simpa using holdIn
      skewHold := by simpa using skewHold
      setpoint := by simpa using setpoint
      drive := by simpa using drive
      window := by simpa using window
      begun := by simpa using begun
      reference := by simpa using reference
      near := near }
    obtain ⟨latched, c, u, taken⟩ := stalls.sampled out reads
    have sampled : exec (.stallWindowEnd .right l (.answer x check)) s =
        .next (sample l (.answer x check) s) := by
      simp [exec, execStallWindowEnd, stallCause, latched, free, has_noCauses]
    exact ⟨_, sampled, latched, taken.line, taken.motion, taken.driveL, taken.driveR, taken.pump, taken.valve,
      taken.service, taken.still⟩

end Sys2Proof.OpeningGeometry

namespace Sys2Proof.OpeningGeometry

open Sys2Proof Sys2Proof.Machine Sys2Proof.BayLine

/-! ## What leaves the configuration and the channels alone (R132, R190) -/

/-- The working copy, the OUT mark, START_REPORT and the store with its mark stand as they stood. -/
def ConfigKept (s t : State) : Prop :=
  t.cfs.working = s.cfs.working ∧ t.cfs.out = s.cfs.out ∧ t.cfs.startReport = s.cfs.startReport ∧
    t.cfs.store = s.cfs.store ∧ t.cfs.writeMark = s.cfs.writeMark

/-- So do the two channels. -/
def ReadingsKept (s t : State) : Prop :=
  ConfigKept s t ∧ t.mtc.left = s.mtc.left ∧ t.mtc.right = s.mtc.right

section
variable {s t u : State}

theorem ConfigKept.of_cfs (h : t.cfs = s.cfs) : ConfigKept s t := by simp [ConfigKept, h]

/-- Most operations leave the configuration block and the channels alone, as their frame lemmas have it. -/
theorem ReadingsKept.of_eq (cfs : t.cfs = s.cfs := by simp) (left : t.mtc.left = s.mtc.left := by simp)
    (right : t.mtc.right = s.mtc.right := by simp) : ReadingsKept s t := ⟨.of_cfs cfs, left, right⟩

theorem ReadingsKept.refl (s : State) : ReadingsKept s s := .of_eq rfl rfl rfl

theorem ReadingsKept.trans (h : ReadingsKept s t) (k : ReadingsKept t u) : ReadingsKept s u := by
  obtain ⟨⟨h1, h2, h3, h4, h5⟩, hl, hr⟩ := h
  obtain ⟨⟨k1, k2, k3, k4, k5⟩, kl, kr⟩ := k
  exact ⟨⟨k1.trans h1, k2.trans h2, k3.trans h3, k4.trans h4, k5.trans h5⟩, kl.trans hl, kr.trans hr⟩

/-- An owner's answer that turns on a test: refused, or one of its two answers. -/
theorem ReadingsKept.unless {p : Prop} [Decidable p] {a : Answer} {r : Reply} (h : ReadingsKept s r.state) :
    ReadingsKept s (if p then refuse a s else r).state := by
  split
  · exact .refl s
  · exact h

end

/-! ## The host's commands -/

@[simp] theorem done_state (s : State) : (done s).state = s := rfl

section
variable (s : State)

theorem ownSetLocal_readings : ReadingsKept s (ownSetLocal s).state := by
  refine .unless ?_
  split
  · exact .of_eq
  · exact .of_eq

theorem ownWithdrawLocal_readings : ReadingsKept s (ownWithdrawLocal s).state := .unless .of_eq

theorem ownIssue_readings : ReadingsKept s (ownIssue s).state := .unless <| .unless .of_eq

theorem ownSetFloor_readings (floor : Nat) : ReadingsKept s (ownSetFloor floor s).state :=
  .unless <| .unless .of_eq

theorem ownRaise_readings : ReadingsKept s (ownRaise s).state := .unless <| .unless .of_eq

theorem ownClear_readings : ReadingsKept s (ownClear s).state :=
  .unless <| .unless <| .unless <| .unless <| .unless <| .unless .of_eq

theorem ownDeclare_readings (bay : Nat) : ReadingsKept s (ownDeclare bay s).state := by
  refine .unless <| .unless <| .unless ?_
  split
  · exact .refl s
  · exact .unless .of_eq

theorem ownWithdraw_readings (bay : Nat) : ReadingsKept s (ownWithdraw bay s).state := by
  refine .unless <| .unless ?_
  split
  · exact .refl s
  · dsimp only
    split
    · exact .of_eq
    · exact .of_eq

theorem ownFaultReset_readings : ReadingsKept s (ownFaultReset s).state := .unless <| .unless <| .unless .of_eq

theorem ownTrim_readings (b : Byte) : ReadingsKept s (ownTrim b s).state := by
  refine .unless ?_
  split
  · exact .refl s
  · refine .unless <| .unless <| .unless ?_
    split
    · exact .unless .of_eq
    · exact .refl s

theorem ownSelect_readings (n : Nat) : ReadingsKept s (ownSelect n s).state := .unless <| .unless .of_eq

theorem ownCounterReset_readings (n : Nat) : ReadingsKept s (ownCounterReset n s).state := by
  refine .unless ?_
  split
  · exact .of_eq
  · exact .of_eq

theorem ownRelease_readings : ReadingsKept s (ownRelease s).state := by
  unfold ownRelease
  split
  · exact .of_eq
  · exact .refl s

theorem ownFreezeMode_readings : ReadingsKept s (ownFreezeMode s).state := .of_eq rfl rfl rfl

/-- Entering commissioning writes the image and its report (R191). -/
theorem enterCommissioning_readings (b : Byte) : ReadingsKept s (enterCommissioning b s) := by
  simp [ReadingsKept, ConfigKept, enterCommissioning]

theorem leaveCommissioning_readings : ReadingsKept s (leaveCommissioning s) := by
  simp [ReadingsKept, ConfigKept, leaveCommissioning]

theorem ownEnter_readings (b : Byte) : ReadingsKept s (ownEnter b s).state := by
  refine .unless <| .unless ?_
  split
  · exact enterCommissioning_readings s b
  · exact .unless <| .unless <| enterCommissioning_readings s b

theorem ownWrite_readings (b : Byte) : ReadingsKept s (ownWrite b s).state := by
  unfold ownWrite
  split
  · exact .refl s
  · exact .unless <| .unless ⟨⟨rfl, rfl, rfl, rfl, rfl⟩, rfl, rfl⟩

/-- A store shows nothing before it completes (log 41). -/
theorem ownStore_readings : ReadingsKept s (ownStore s).state := by
  unfold ownStore
  split
  · exact .refl s
  · dsimp only
    split
    · exact ⟨⟨rfl, rfl, rfl, rfl, rfl⟩, rfl, rfl⟩
    · exact ⟨⟨rfl, rfl, rfl, rfl, rfl⟩, rfl, rfl⟩

theorem ownLeave_readings : ReadingsKept s (ownLeave s).state := by
  unfold ownLeave
  split
  · exact leaveCommissioning_readings s
  · exact .refl s

/-- A COMMAND write keeps what its owner keeps (R187). -/
theorem command_readings {owner : State → Reply} (h : ∀ u, ReadingsKept u (owner u).state) (code b : Byte) :
    ReadingsKept s (command code b owner s) := by
  have latched : ReadingsKept s (latchCommand code b s) := .of_eq
  have answered (a : Answer) (clamped : Bool) (u : State) :
      ReadingsKept u (answerCommand code a clamped u) := .of_eq
  unfold command
  dsimp only
  split
  · exact latched.trans (answered _ _ _)
  · exact latched.trans <| (h _).trans (answered _ _ _)

/-! ## The rows that write neither -/

/-- The rows that take a servo sample (R162, log 2). -/
def isSample : Instr → Bool
  | .servoSample _ _ | .encoderFault _ _ _ | .stallWindowEnd _ _ _ | .settleCountFull _ _ => true
  | _ => false

/-- A row that sets a test before its operation. -/
theorem readings_ite {p : Prop} [Decidable p] {s t : State} (h : ReadingsKept s t) :
    ∃ u, (Host.Outcome.next (if p then t else s) : Host.Outcome State Fault Refusal) = .next u ∧
      ReadingsKept s u := by
  refine ⟨_, rfl, ?_⟩
  split
  · exact h
  · exact .refl s

/-- A row whose operation is ruled out by a test. -/
theorem readings_unless {p : Prop} [Decidable p] {s t : State} (h : ReadingsKept s t) :
    ∃ u, (Host.Outcome.next (if p then s else t) : Host.Outcome State Fault Refusal) = .next u ∧
      ReadingsKept s u := by
  refine ⟨_, rfl, ?_⟩
  split
  · exact .refl s
  · exact h

theorem supplyGoesLow_readings : ∃ t, execSupplyGoesLow s = .next t ∧ ReadingsKept s t := by
  refine readings_ite ?_
  dsimp only
  split
  · exact .of_eq
  · exact .of_eq

theorem supplyGoesGood_readings : ∃ t, execSupplyGoesGood s = .next t ∧ ReadingsKept s t := by
  refine readings_unless ?_
  dsimp only
  split
  · exact .of_eq
  · exact .of_eq

theorem surgeInActive_readings : ∃ t, execSurgeInActive s = .next t ∧ ReadingsKept s t := by
  refine readings_unless ?_
  dsimp only
  split
  · exact .of_eq
  · exact .of_eq

theorem attemptBegin_readings : ∃ t, execAttemptBegin s = .next t ∧ ReadingsKept s t := by
  refine readings_ite ?_
  split
  · exact .of_eq
  · exact .refl s

theorem attemptSuccess_readings : ∃ t, execAttemptSuccess s = .next t ∧ ReadingsKept s t := by
  refine ⟨_, rfl, ?_⟩
  split
  · exact .refl s
  · exact .of_eq

theorem statusAPeriod_readings : ∃ t, execStatusAPeriod s = .next t ∧ ReadingsKept s t := by
  refine ⟨_, rfl, ?_⟩
  split
  · exact .refl s
  · exact .of_eq

theorem statusBPeriod_readings : ∃ t, execStatusBPeriod s = .next t ∧ ReadingsKept s t := by
  refine ⟨_, rfl, ?_⟩
  split
  · exact .refl s
  · exact .of_eq

theorem orderRepeat_readings : ∃ t, execOrderRepeatTimer s = .next t ∧ ReadingsKept s t := by
  have repeated (p : Prop) [Decidable p] (c : OrderContent) : ReadingsKept s (if p then restartRepeat s
      else queueOrder c (s.setLif { s.lif with repeatTimer := none })) := by
    split
    · exact .of_eq
    · exact .of_eq
  refine readings_ite ?_
  cases s.shu.order with
  | none => exact .of_eq
  | some o => exact repeated _ _

theorem releaseTimer_readings : ∃ t, execReleaseTimer s = .next t ∧ ReadingsKept s t := by
  refine readings_ite ?_
  dsimp only
  split
  · exact .of_eq
  · exact .of_eq
  all_goals exact .refl s

theorem registerWrite_readings (addr : BitVec 7) (w : Word) :
    ∃ t, execRegisterWrite addr w s = .next t ∧ ReadingsKept s t := by
  refine ⟨_, rfl, ?_⟩
  split
  · exact .of_eq
  · split
    · exact .of_eq
    · exact .refl s

theorem exec_readings {c : Instr} (reset : isReset c = false) (sample : isSample c = false)
    (store : c ≠ .storeComplete) : ∃ t, exec c s = .next t ∧ ReadingsKept s t := by
  cases c with
  | powerOnReset l r | pinReset l r | restart b l r => cases reset
  | servoSample l r | encoderFault h l r | stallWindowEnd h l r | settleCountFull l r => cases sample
  | storeComplete => exact absurd rfl store
  | stageSample u d | surgeInInactive => exact ⟨_, rfl, .of_eq⟩
  | tidalStateChange u d | surgeRunComplete u d => exact readings_ite .of_eq
  | surgeInActive => exact surgeInActive_readings s
  | holdTaken => exact readings_unless .of_eq
  | holdReleased | goodTimer => exact readings_ite .of_eq
  | supplyGoesLow => exact supplyGoesLow_readings s
  | supplyGoesGood => exact supplyGoesGood_readings s
  | attemptBegin => exact attemptBegin_readings s
  | attemptSuccess => exact attemptSuccess_readings s
  | attemptLostContention _ | attemptFailure | lineOff | offTimer => exact readings_ite .of_eq
  | statusAPeriod => exact statusAPeriod_readings s
  | statusBPeriod => exact statusBPeriod_readings s
  | orderRepeatTimer => exact orderRepeat_readings s
  | frameDiscarded f => exact readings_unless .of_eq
  | statusAFrame bay data | statusBFrame bay data | surgeFrame bay data | verdictFrame bay data
  | claimFrame bay data | orderFrame bay data => exact ⟨_, rfl, .of_eq⟩
  | listenTimer | peerLapse b | askingTimer | claimWindow | backoffTimer | settleTimer =>
    exact readings_ite .of_eq
  | pumpSettle | settleTimeout | trimLimitTimeout => exact readings_ite .of_eq
  | releaseTimer => exact releaseTimer_readings s
  | runOn => exact ⟨_, rfl, .of_eq⟩
  | attnCauseWrite w | attnMaskWrite w | resetCauseWrite w | tableSelectWrite w | tableIndexWrite w =>
    exact ⟨_, rfl, .of_eq⟩
  | registerWrite addr w => exact registerWrite_readings s addr w
  | setLocalOrder b => exact ⟨_, rfl, command_readings s ownSetLocal_readings _ _⟩
  | withdrawLocalOrder b => exact ⟨_, rfl, command_readings s ownWithdrawLocal_readings _ _⟩
  | issueWeirOrder b => exact ⟨_, rfl, command_readings s ownIssue_readings _ _⟩
  | raiseSurge b => exact ⟨_, rfl, command_readings s ownRaise_readings _ _⟩
  | clearSurge b => exact ⟨_, rfl, command_readings s ownClear_readings _ _⟩
  | setFloor b => exact ⟨_, rfl, command_readings s (ownSetFloor_readings · _) _ _⟩
  | declareBound b => exact ⟨_, rfl, command_readings s (ownDeclare_readings · _) _ _⟩
  | withdrawDeclaration b => exact ⟨_, rfl, command_readings s (ownWithdraw_readings · _) _ _⟩
  | faultReset b => exact ⟨_, rfl, command_readings s ownFaultReset_readings _ _⟩
  | trim b => exact ⟨_, rfl, command_readings s (ownTrim_readings · b) _ _⟩
  | counterSelect n => exact ⟨_, rfl, command_readings s (ownSelect_readings · _) _ _⟩
  | counterReset n => exact ⟨_, rfl, command_readings s (ownCounterReset_readings · _) _ _⟩
  | counterRelease n => exact ⟨_, rfl, command_readings s ownRelease_readings _ _⟩
  | freezeMode n => exact ⟨_, rfl, command_readings s ownFreezeMode_readings _ _⟩
  | enterCommissioning b => exact ⟨_, rfl, command_readings s (ownEnter_readings · b) _ _⟩
  | commissionWrite b => exact ⟨_, rfl, command_readings s (ownWrite_readings · b) _ _⟩
  | commissionStore b => exact ⟨_, rfl, command_readings s ownStore_readings _ _⟩
  | leaveCommissioning b => exact ⟨_, rfl, command_readings s ownLeave_readings _ _⟩
  | unknownCommand code b =>
    exact readings_ite (command_readings s (owner := refuse .refusedRange) (fun u => .refl u) _ _)

/-! ## The rows that write one of them -/

/-- A servo sample leaves the configuration block alone (R190). -/
theorem exec_sample_config {c : Instr} (sample : isSample c = true) :
    ∃ t, exec c s = .next t ∧ ConfigKept s t := by
  have kept (l r : EncoderRead) : ConfigKept s (Machine.sample l r s) := .of_cfs (by simp)
  have tested (p : Prop) [Decidable p] (l r : EncoderRead) :
      ConfigKept s (if p then Machine.sample l r s else s) := by
    split
    · exact kept l r
    · exact .of_cfs rfl
  cases c with
  | servoSample l r => exact ⟨_, rfl, kept l r⟩
  | encoderFault h l r | stallWindowEnd h l r | settleCountFull l r => exact ⟨_, rfl, tested _ l r⟩
  | _ => cases sample

/-- The completion of a store writes the store and its mark, and of the rest nothing (R194). -/
theorem exec_storeComplete_readings : ∃ t, exec .storeComplete s = .next t ∧
    t.cfs.working = s.cfs.working ∧ t.cfs.out = s.cfs.out ∧ t.cfs.startReport = s.cfs.startReport ∧
    t.mtc.left = s.mtc.left ∧ t.mtc.right = s.mtc.right := by
  refine ⟨_, rfl, ?_⟩
  split
  · simp [completeStore]
  · exact ⟨rfl, rfl, rfl, rfl, rfl⟩

end

/-- Settles O27: a sample row keeps the configuration, a completed store all but the store and its mark, and
every other row but a reset the readings too. -/
theorem readingsAndConfigurationChangeOnlyAtTheirEvents :
    Obligations.ReadingsAndConfigurationChangeOnlyAtTheirEvents := by
  intro c s t run
  have sampled (hs : isSample c = true) : ConfigKept s t := by
    obtain ⟨u, hu, kept⟩ := exec_sample_config s hs
    obtain rfl : u = t := by simpa [hu] using run
    exact kept
  have other (hr : isReset c = false) (hs : isSample c = false) (hc : c ≠ .storeComplete) :
      ReadingsKept s t := by
    obtain ⟨u, hu, kept⟩ := exec_readings s hr hs hc
    obtain rfl : u = t := by simpa [hu] using run
    exact kept
  cases c with
  | powerOnReset l r | pinReset l r | restart b l r => trivial
  | servoSample l r | encoderFault h l r | stallWindowEnd h l r | settleCountFull l r =>
    obtain ⟨working, out, report, store⟩ := sampled rfl
    exact ⟨working, out, report, fun _ => store, trivial⟩
  | storeComplete =>
    obtain ⟨u, hu, working, out, report, channels⟩ := exec_storeComplete_readings s
    obtain rfl : u = t := by simpa [hu] using run
    exact ⟨working, out, report, fun h => absurd rfl h, channels⟩
  | _ =>
    obtain ⟨⟨working, out, report, store⟩, channels⟩ := other rfl rfl (by simp)
    exact ⟨working, out, report, fun _ => store, channels⟩

end Sys2Proof.OpeningGeometry

namespace Sys2Proof.HoistMotion

open Sys2Proof Sys2Proof.Machine

/-! ## One advance of the profile (R145) -/

section
variable {w : Words} {m : Mtc} {sp : Speed} {x e a v d vmax : Nat}

/-- The acceleration is at least 1 and otherwise a part of v_max. -/
theorem accel_le_vMax (h : 1 ≤ vMax w sp) : accel w sp ≤ vMax w sp :=
  Nat.max_le.2 ⟨h, Nat.div_le_self _ _⟩

/-- Braking stops at a, and accelerating at v_max. -/
theorem nextVelocity_bounds (h : v ≤ vmax) : nextVelocity vmax a v d ≤ max a vmax ∧
    (a ≤ vmax → a ≤ nextVelocity vmax a v d ∧ nextVelocity vmax a v d ≤ vmax) := by
  unfold nextVelocity
  split
  · omega
  · omega

theorem advance_v (hx : m.setpoint = some x) (he : m.goal = some e) : (m.advance w).v =
    nextVelocity (vMax w (m.speed.getD .normal)) (accel w (m.speed.getD .normal)) m.v
      ((e : Int) - x).natAbs := by
  simp [Mtc.advance, hx, he]

/-- The setpoint takes the step v, or what is left to the end. -/
theorem advance_setpoint (hx : m.setpoint = some x) (he : m.goal = some e) : (m.advance w).setpoint =
    some (if x ≤ e then x + min (m.advance w).v ((e : Int) - x).natAbs
      else x - min (m.advance w).v ((e : Int) - x).natAbs) := by
  simp [Mtc.advance, hx, he]

end

/-- Settles O30: the bounds of the velocity, and a step no longer than the way to the end. -/
theorem profileNeverPassesItsEnd : Obligations.ProfileNeverPassesItsEnd := by
  intro w m x e hx he hv
  obtain ⟨bounded, between⟩ :=
    nextVelocity_bounds (a := accel w (m.speed.getD .normal)) (d := ((e : Int) - x).natAbs) hv
  rw [← advance_v hx he] at bounded between
  refine ⟨_, advance_setpoint hx he, fun raising => ?_, fun lowering => ?_, bounded,
    fun pos => between (accel_le_vMax pos), he⟩
  · rw [if_pos raising]
    omega
  · split
    · omega
    · omega

/-! ## PUMP_SETTLE and the release timer (R141, R142, R160) -/

section
variable {s : State}

/-- In PRIMING and in TRIM PUMP_SETTLE releases the holding valve (R141, R160). -/
theorem pumpSettle_releases (running : s.mtc.pumpSettle.isSome = true)
    (h : s.mtc.motion = .priming ∨ s.mtc.motion = .trim) :
    exec .pumpSettle s = .next (s.setMtc (Stagger.releasing s.mtc)) := by
  simp [exec, execPumpSettle, running, h, Stagger.releasing]

/-- In phase RELEASE no hoist is driven yet (R139). -/
theorem releasing_eq {m : Mtc} (h : m.motion = .priming ∨ m.motion = .trim) : Stagger.releasing m =
    { m with phase := some .release, pump := true, valve := true, driveL := 0, driveR := 0,
             skewHold := false, pumpSettle := none, release := some 200 } := by
  rcases h with h | h
  · simp [Stagger.releasing, Mtc.enter, outputsOf, loopsRun, Motion.bothLoops, h]
  · simp [Stagger.releasing, Mtc.enter, outputsOf, loopsRun, Motion.bothLoops, h]

/-- The station as PRIMING is left, its release timer stopped. -/
def released (s : State) : State := s.setMtc { s.mtc with release := none }

theorem releaseTimer_priming (running : s.mtc.release.isSome = true) (priming : s.mtc.motion = .priming) :
    exec .releaseTimer s = .next (leavePriming (released s)) := by
  simp [exec, execReleaseTimer, running, priming, released]

theorem releaseTimer_trim (running : s.mtc.release.isSome = true) (trim : s.mtc.motion = .trim) :
    exec .releaseTimer s = .next (s.setMtc (Stagger.trimMoving s.mtc)) := by
  simp [exec, execReleaseTimer, running, trim, Stagger.trimMoving]

/-! The rows of R142, in their order. -/

/-- A target stop settles at the setpoint it has, without a report to CLU (R145, R147). -/
theorem leavePriming_of_target (stop : s.mtc.stopKind = some .target) : leavePriming s =
    Stagger.atSettling (s.setMtc { s.mtc with goal := s.mtc.setpoint }) := by
  simp [leavePriming, Stagger.enterSettling_eq, stop]

theorem leavePriming_of_movement (stop : s.mtc.stopKind = none) (served : s.mtc.movement.isSome = true) :
    leavePriming s = setMotion { s.mtc.enter .running none with v := 0, release := none } s := by
  simp [leavePriming, stop, served]

theorem leavePriming_of_closure {q : Nat} (stop : s.mtc.stopKind = none) (idle : s.mtc.movement = none)
    (wanted : s.mtc.closureRequest = true) (setpoint : s.mtc.setpoint = some q)
    (above : closedQ8 s.cfs.working < q) :
    leavePriming s = setMotion (s.mtc.closureFromSetpoint s.cfs.working) s := by
  simp [leavePriming, stop, idle, wanted, setpoint, above]

theorem leavePriming_of_rest (stop : s.mtc.stopKind = none) (idle : s.mtc.movement = none)
    (unwanted : s.mtc.closureRequest = false) : leavePriming s = enterHolding s := by
  simp [leavePriming, stop, idle, unwanted]

end

/-- Settles O31: the valve released, then PRIMING left by each row of R142, and the trim set moving. -/
theorem primingPumpsThenReleases : Obligations.PrimingPumpsThenReleases := by
  refine fun s => ⟨fun running starting => ?_, fun running => ⟨fun priming stop => ?_,
    fun priming stop served => ?_, fun priming stop idle wanted q setpoint above => ?_,
    fun priming stop idle unwanted lasts => ?_, fun r trim record => ?_⟩⟩
  · rw [pumpSettle_releases running starting, releasing_eq starting]
  · refine ⟨_, releaseTimer_priming running priming, ?_⟩
    rw [leavePriming_of_target (s := released s) stop]
    simp [Stagger.atSettling, released, Mtc.enter]
  · refine ⟨_, releaseTimer_priming running priming, ?_⟩
    rw [leavePriming_of_movement (s := released s) stop served]
    simp [released, Mtc.enter, outputsOf]
  · refine ⟨_, releaseTimer_priming running priming, ?_⟩
    rw [leavePriming_of_closure (s := released s) stop idle wanted setpoint above]
    simp [released, Mtc.closureFromSetpoint, closedQ8]
  · refine ⟨_, releaseTimer_priming running priming, ?_⟩
    rw [leavePriming_of_rest (s := released s) stop idle unwanted,
      (Stagger.enterHolding_held (s := released s) unwanted lasts).1]
    simp [Stagger.held_shows, released]
  · refine ⟨_, releaseTimer_trim running trim, ?_⟩
    simp [Stagger.trimMoving, record, Mtc.enter, outputsOf]

/-! ## The pump goes off (R149, R161) -/

section
variable {s : State}

theorem runOn_stops (holding : s.mtc.motion = .holding) (running : s.mtc.runOn.isSome = true) :
    exec .runOn s = .next (enterStopped s) := by
  simp [exec, execRunOn, runOnExpiry, holding, running]

theorem trimLimitTimeout_ends (trim : s.mtc.motion = .trim) (running : s.mtc.trimLimit.isSome = true) :
    exec .trimLimitTimeout s = .next (endTrim s) := by
  simp [exec, execTrimLimitTimeout, trim, running]

/-- With no closure wanted the tests at the entry to STOPPED leave MTC's record alone (R143). -/
theorem enterStopped_mtc (unwanted : s.mtc.closureRequest = false) :
    (enterStopped s).mtc = (Stagger.atStopped s).mtc := by
  have run : enterStopped s = Stagger.restTests (Stagger.atStopped s) := rfl
  rw [run, Stagger.restTests_of_unwanted (by simpa [Stagger.atStopped] using unwanted)]
  simp

end

/-- Settles O33, by the entry to STOPPED and the entry to FAULT_STOP. -/
theorem runOnAndTrimEndWithThePumpOff : Obligations.RunOnAndTrimEndWithThePumpOff := by
  refine fun s => ⟨fun holding running unwanted => ⟨_, runOn_stops holding running, ?_⟩,
    fun trim running => ⟨_, trimLimitTimeout_ends trim running, ?_⟩⟩
  · rw [enterStopped_mtc unwanted]
    simp [Stagger.atStopped, Mtc.enter, outputsOf]
  · simp [endTrim, enterFaultStop, Mtc.faultStop, Mtc.enter, outputsOf, loopsRun]

end Sys2Proof.HoistMotion

namespace Sys2Proof.HoistMotion

open Sys2Proof Sys2Proof.Machine Sys2Proof.BayLine Sys2Proof.OpeningGeometry

/-! ## The left hoist stalls (R155) -/

/-- At full drive toward the setpoint q a hoist's stall window ends at this sample, with the stroke x at the
reference of its history. -/
structure WindowEnds (w : Words) (q x : Nat) (h : Stall) : Prop where
  drive : (loopDrive w ((q / 256 : Nat) - (x : Int))).natAbs = 1000
  window : h.run + 1 = Param.stallWindow w
  begun : 1 ≤ h.run
  reference : ∃ ref, h.ref = some ref ∧ ((x : Int) - ref).natAbs < 2

theorem WindowEnds.stalled {w : Words} {q x : Nat} {h : Stall} (ends : WindowEnds w q x h) :
    (h.count true (loopDrive w ((q / 256 : Nat) - (x : Int))) (some x)).stalled (Param.stallWindow w)
      (some x) = true := by
  obtain ⟨ref, reference, near⟩ := ends.reference
  exact stalled_of_window ends.drive ends.window ends.begun reference near

section
variable {s : State} {x : Nat}

/-- With no skew hold and no HOLD_IN the settling left hoist is driven by its own loop (R150). -/
theorem driveL_settling {q : Nat} (settling : s.mtc.motion = .settling) (held : s.pins.holdIn = false)
    (hold : s.mtc.skewHold = false) (setpoint : s.mtc.setpoint = some q) (value : s.mtc.left.value = some x) :
    (computeDrives s).mtc.driveL = loopDrive s.cfs.working ((q / 256 : Nat) - (x : Int)) := by
  simp [computeDrives, Mtc.driveFor, Mtc.forcedZero, driveOf, errorOf, Mtc.profile, Motion.bothLoops,
    settling, held, hold, setpoint, value]

/-- Step 7 with the left window ended at its reference: STALL_L is the first fault, and STALL_R can only join
it (R155, R166). -/
theorem updateStalls_stallL (out : s.cfs.out = false) (free : s.fmn.causes = noCauses)
    (stalled : (s.mtc.stallL.count (s.mtc.loopOf .left) s.mtc.driveL s.mtc.left.value).stalled
      (Param.stallWindow s.cfs.working) s.mtc.left.value = true) :
    Stopped (updateStalls s) ∧ ∃ u, FaultTaken .stallL u (updateStalls s) := by
  have reported (p : Bool) (u : State) (hout : u.cfs.out = false) (hnone : u.fmn.causes = noCauses) :
      Stopped (reportIf p .stallR (reportFault .stallL u)) ∧
        ∃ v, FaultTaken .stallL v (reportIf p .stallR (reportFault .stallL u)) := by
    rw [reportFault_first hout hnone]
    have stays := reportIf_stays (firstFault_stopped .stallL hout) (c := .stallR) (by simp) p
    exact ⟨stays.stopped, _, (firstFault_taken _ hout).stays stays⟩
  have first (u : State) : reportIf true .stallL u = reportFault .stallL u := rfl
  rw [updateStalls, stalled, first]
  exact reported _ _ out free

/-- Steps 5 to 7 in SETTLING, as the left window ends (R155). -/
theorem sampleDrives_stallL {q : Nat} (out : s.cfs.out = false) (free : s.fmn.causes = noCauses)
    (settling : s.mtc.motion = .settling) (held : s.pins.holdIn = false) (hold : s.mtc.skewHold = false)
    (setpoint : s.mtc.setpoint = some q) (value : s.mtc.left.value = some x)
    (ends : WindowEnds s.cfs.working q x s.mtc.stallL) :
    Stopped (sampleDrives s) ∧ ∃ u, FaultTaken .stallL u (sampleDrives s) := by
  have driveL := driveL_settling settling held hold setpoint value
  have runs : (computeDrives s).mtc.loopOf .left = true := by
    simp [Mtc.loopOf, computeDrives, settling, Motion.bothLoops]
  have stroke : (computeDrives s).mtc.left.value = some x := by simpa using value
  have history : (computeDrives s).mtc.stallL = s.mtc.stallL := rfl
  rw [sampleDrives, advanceSetpoint_settling settling]
  refine updateStalls_stallL (by simpa using out) (by simpa using free) ?_
  rw [runs, driveL, stroke, history]
  simpa using ends.stalled

/-- A VALID left read and a right run below 2 report no encoder fault (R130). -/
theorem readEncoders_of_valid_left {l r : EncoderRead} (valid : judgeRead s.mtc.left.value l ≠ none)
    (run : s.mtc.right.invalidRun < 2) : readEncoders l r s = readChannels l r s := by
  have left : s.mtc.left.reachesThree (s.mtc.left.take l) = false := by
    rw [Bool.eq_false_iff, Ne, reachesThree_iff]
    exact fun three => valid three.2
  have right : s.mtc.right.reachesThree (s.mtc.right.take r) = false := by
    rw [Bool.eq_false_iff, Ne, reachesThree_iff]
    omega
  rw [readEncoders_eq, left, right]
  rfl

/-- What a level gate's drives take at a sample is what the sample takes. -/
theorem sample_of_drives {c : Cause} {l r : EncoderRead} (out : s.cfs.out = false)
    (reads : readEncoders l r s = readChannels l r s) (level : Level x (readChannels l r s))
    (hold : s.mtc.skewHold = false) (stopped : Stopped (sampleDrives (readChannels l r s)))
    (taken : ∃ u, FaultTaken c u (sampleDrives (readChannels l r s))) :
    ∃ u, FaultTaken c u (sample l r s) := by
  obtain ⟨u, taken⟩ := taken
  rw [sample_of_running out, reads, sampleSteps, sampleTests_of_level level (by simpa using hold)]
  exact ⟨u, taken.stays (afterDrives_stays stopped _ _)⟩

end

/-- Settles O34, by the stall that step 7 finds on a level gate. -/
theorem stalledHoistIsLatched : Obligations.StalledHoistIsLatched := by
  intro s x check r ref q out free settling holdIn skewHold left even range rightRun right low high warn trip
    setpoint drive window begun reference near
  have valid : judgeRead s.mtc.left.value (.answer x check) = some x.toNat :=
    judgeRead_of_valid even range (by simp [left])
  have level : Level x.toNat (readChannels (.answer x check) r s) :=
    ⟨by simp [take_of_valid valid], by simpa using right, by simpa using low, by simpa using high,
      by simpa using warn, by simpa using trip⟩
  have reads : readEncoders (.answer x check) r s = readChannels (.answer x check) r s :=
    readEncoders_of_valid_left (by simp [valid]) rightRun
  obtain ⟨stopped, stalls⟩ := sampleDrives_stallL (s := readChannels (.answer x check) r s)
    (by simpa using out) (by simpa using free) (by simpa using settling) (by simpa using holdIn)
    (by simpa using skewHold) (by simpa using setpoint) level.left
    (by simpa using WindowEnds.mk drive window begun ⟨ref, reference, near⟩)
  obtain ⟨u, taken⟩ := sample_of_drives out reads level skewHold stopped stalls
  have sampled : exec (.stallWindowEnd .left (.answer x check) r) s =
      .next (sample (.answer x check) r s) := by
    simp [exec, execStallWindowEnd, stallCause, taken.latched, free, has_noCauses]
  exact ⟨_, sampled, taken.latched, taken.line, taken.motion, taken.driveL, taken.driveR, taken.pump,
    taken.valve, taken.service, taken.still⟩

end Sys2Proof.HoistMotion

namespace Sys2Proof.HoistMotion

open Sys2Proof Sys2Proof.Machine Sys2Proof.PeerTable

/-! ## TRIM (R159) -/

/-- The conditions of R159 past its byte operand, with both strokes. -/
structure TrimReady (s : State) (l r : Nat) : Prop where
  causes : s.fmn.causes = onlySkewTrip
  motion : s.mtc.motion = .faultStop
  hold : s.fmn.hold = false
  supply : s.fmn.supplyLow = false
  left : s.mtc.left.value = some l
  right : s.mtc.right.value = some r
  skewed : Param.skewWarn s.cfs.working / 2 < ((l : Int) - r).natAbs

/-- The trim record of the hoist h with the strokes l and r. -/
def trimOf (w : Words) (h : Hoist) (l r : Nat) : Trim :=
  match h with
  | .left => trimRecord w .left l r
  | .right => trimRecord w .right r l

section
variable {s : State} {b : Byte} {h : Hoist} {l r : Nat}

/-- The byte operand names a hoist just where it is 0 or 1 (R187). -/
theorem trimHoist_eq (b : Byte) : trimHoist b =
    if b.toNat = 0 then some .left else if b.toNat = 1 then some .right else none := by
  simp [trimHoist, ← BitVec.toNat_inj]

theorem skewReleased_iff (left : s.mtc.left.value = some l) (right : s.mtc.right.value = some r) :
    s.mtc.skewReleased s.cfs.working = true ↔
      ((l : Int) - r).natAbs ≤ Param.skewWarn s.cfs.working / 2 := by
  simp [Mtc.skewReleased, Mtc.skewSize, Mtc.skew, left, right]

theorem ownTrim_of_unserved (unserved : s.cfs.out = true ∨ s.commissioning = true) :
    ownTrim b s = refuse .refusedState s := by
  simp [ownTrim, unserved]

section
variable (out : s.cfs.out = false) (outside : s.commissioning = false)
include out outside

theorem ownTrim_of_no_hoist (unnamed : trimHoist b = none) : ownTrim b s = refuse .refusedRange s := by
  simp [ownTrim, out, outside, unnamed]

theorem ownTrim_of_ready (named : trimHoist b = some h) (ready : TrimReady s l r) :
    ownTrim b s = done (beginTrim (trimOf s.cfs.working h l r) s) := by
  have held : s.mtc.skewReleased s.cfs.working = false := by
    rw [Bool.eq_false_iff, Ne, skewReleased_iff ready.left ready.right]
    exact ready.skewed.not_ge
  cases h <;>
    simp [ownTrim, trimOf, out, outside, named, ready.causes, ready.motion, ready.hold, ready.supply,
      ready.left, ready.right, held]

/-- With its hoist named TRIM is refused STATE unless every condition of R159 is met. -/
theorem ownTrim_of_unready (named : trimHoist b = some h) (unready : ∀ l r, ¬ TrimReady s l r) :
    ownTrim b s = refuse .refusedState s := by
  by_cases causes : s.fmn.causes = onlySkewTrip
  case neg => simp [ownTrim, out, outside, named, causes]
  by_cases motion : s.mtc.motion = .faultStop
  case neg => simp [ownTrim, out, outside, named, causes, motion]
  by_cases condition : s.fmn.hold = true ∨ s.fmn.supplyLow = true
  case pos => simp [ownTrim, out, outside, named, causes, motion, condition]
  obtain ⟨hold, supply⟩ : s.fmn.hold = false ∧ s.fmn.supplyLow = false := by simpa using condition
  cases left : s.mtc.left.value with
  | none => simp [ownTrim, out, outside, named, causes, motion, hold, supply, left]
  | some l =>
    cases right : s.mtc.right.value with
    | none => simp [ownTrim, out, outside, named, causes, motion, hold, supply, left, right]
    | some r =>
      have released : s.mtc.skewReleased s.cfs.working = true := by
        rw [skewReleased_iff left right]
        exact Nat.not_lt.1 fun skewed => unready l r ⟨causes, motion, hold, supply, left, right, skewed⟩
      simp [ownTrim, out, outside, named, causes, motion, hold, supply, left, right, released]

end

/-- A trim begins in phase SETTLE, the pump on and the valve engaged (R139, R159). -/
theorem beginTrim_mtc (t : Trim) (s : State) : (beginTrim t s).mtc =
    { s.mtc with
      motion := .trim, phase := some .settle, pump := true, valve := false, driveL := 0, driveR := 0,
      skewHold := false, trim := some t, pumpSettle := some (Param.pumpSettle s.cfs.working) } := by
  simp [beginTrim, Mtc.enter, outputsOf, loopsRun, Motion.bothLoops]

end

/-- Settles O55: the refusals in the order of R159, then the trim of the named hoist. -/
theorem trimBeginsTowardTheOtherHoist : Obligations.TrimBeginsTowardTheOtherHoist := by
  intro s b idle
  have refused {a : Answer} (h : ownTrim b (latchCommand 0x0A b s) = refuse a (latchCommand 0x0A b s)) :
      exec (.trim b) s = .next (answerCommand 0x0A a false (latchCommand 0x0A b s)) :=
    congrArg _ (command_refused idle h)
  have named (small : b.toNat ≤ 1) :
      trimHoist b = some (if b.toNat = 0 then Hoist.left else Hoist.right) := by
    rw [trimHoist_eq]
    split
    · rfl
    · rw [if_pos (by omega)]
  refine ⟨fun unserved => refused (ownTrim_of_unserved unserved),
    fun out outside large => refused (ownTrim_of_no_hoist out outside ?_),
    fun out outside small unready => refused (ownTrim_of_unready out outside (named small) ?_),
    fun l r out outside small causes motion hold supply left right skewed => ?_⟩
  · rw [trimHoist_eq, if_neg (by omega), if_neg (by omega)]
  · intro l r ready
    rcases unready with causes | motion | hold | supply | left | right | ⟨l', r', left, right, level⟩
    · exact causes ready.causes
    · exact motion ready.motion
    · exact Bool.false_ne_true (ready.hold.symm.trans hold)
    · exact Bool.false_ne_true (ready.supply.symm.trans supply)
    · cases ready.left.symm.trans left
    · cases ready.right.symm.trans right
    · obtain rfl : l = l' := Option.some.inj (ready.left.symm.trans left)
      obtain rfl : r = r' := Option.some.inj (ready.right.symm.trans right)
      exact level.not_gt ready.skewed
  · have ready : TrimReady (latchCommand 0x0A b s) l r :=
      ⟨causes, motion, hold, supply, left, right, skewed⟩
    have run := command_done idle (ownTrim_of_ready out outside (named small) ready)
    by_cases zero : b.toNat = 0
    · rw [if_pos zero] at run
      refine ⟨_, .left, l, r, congrArg Host.Outcome.next run, by rw [if_pos zero], ?_⟩
      simp [beginTrim_mtc, trimOf, trimRecord, answerCommand_done_lpt]
    · rw [if_neg zero] at run
      refine ⟨_, .right, r, l, congrArg Host.Outcome.next run, by rw [if_neg zero], ?_⟩
      simp [beginTrim_mtc, trimOf, trimRecord, answerCommand_done_lpt]

end Sys2Proof.HoistMotion

namespace Sys2Proof.HoistMotion

open Sys2Proof Sys2Proof.Machine Sys2Proof.BayLine Sys2Proof.OpeningGeometry

/-! ## Counters (R200 to R204) -/

section
variable {a : Act} {p : Counter → Bool} {k : Counters} {n : Nat} {c : Counter}

theorem get_map (f : Counter → Counter) (h : k.get n = some c) : (k.map f).get n = some (f c) := by
  match n, h with
  | 0, h | 1, h | 2, h | 3, h =>
    simp only [Counters.get, Option.some.injEq] at h
    simp [Counters.get, Counters.map, h]

theorem any_of_get (h : k.get n = some c) (hc : p c = true) : k.any p = true := by
  match n, h with
  | 0, h | 1, h | 2, h | 3, h =>
    simp only [Counters.get, Option.some.injEq] at h
    simp [Counters.any, h, hc]

/-- A counter increases by 1 and wraps at 2^32, and its flags follow (R203). -/
theorem increase_eq (range : c.value < 4294967296) : c.increase = { c with
    value := (c.value + 1) % 4294967296
    half := c.half || decide (c.value = 2147483647)
    full := c.full || decide (c.value = 4294967295) } := by
  unfold Counter.increase
  split
  · next half => simp [half]
  · next below =>
    split
    · next full => simp [full]
    · next short =>
      have unwrapped : (c.value + 1) % 4294967296 = c.value + 1 := Nat.mod_eq_of_lt (by omega)
      simp [below, short, unwrapped]

/-! What an event makes of each counter, and what of the causes and the freeze (R201, R203, R204). -/

theorem increaseWhere_of_frozen (frozen : a.frozen = true) : a.increaseWhere p = a := by
  simp [Act.increaseWhere, frozen]

theorem increaseWhere_get (hn : a.counters.get n = some c) : (a.increaseWhere p).counters.get n =
    some (if a.frozen = false ∧ p c = true then c.increase else c) := by
  cases frozen : a.frozen with
  | true => simp [increaseWhere_of_frozen frozen, hn]
  | false => simp [Act.increaseWhere, frozen, get_map _ hn]

/-- Bits that are set stand among all that are set. -/
theorem bits_set (x y m : BitVec 10) : (x ||| (m ||| y)) &&& m = m := by
  ext i
  simp only [BitVec.getElem_or, BitVec.getElem_and]
  grind

section
variable (unfrozen : a.frozen = false) (hn : a.counters.get n = some c) (hc : p c = true)
include unfrozen hn hc

theorem increaseWhere_half (half : c.value = 2147483647) :
    (a.increaseWhere p).causes &&& 0x080 = 0x080 := by
  have reached : (a.counters.any fun d => p d && d.reachesHalf) = true :=
    any_of_get hn (by simp [hc, Counter.reachesHalf, half])
  simp only [Act.increaseWhere, unfrozen, Bool.false_eq_true, if_false, Act.setCauses, reached, if_true]
  exact bits_set _ _ _

theorem increaseWhere_full (full : c.value = 4294967295) :
    (a.increaseWhere p).causes &&& 0x100 = 0x100 ∧ (a.increaseWhere p).frozen = a.freezeOnFull := by
  have wrapped : (a.counters.any fun d => p d && d.wraps) = true :=
    any_of_get hn (by simp [hc, Counter.wraps, full])
  simp only [Act.increaseWhere, unfrozen, Bool.false_eq_true, if_false, Act.setCauses, wrapped, if_true,
    Bool.true_and, and_true]
  rw [BitVec.or_comm (ite _ _ _)]
  exact bits_set _ _ _

end

end

/-! ## A hand-over (R151, R202) -/

section
variable {s : State} {v : SampleValues} {n x : Nat} {c : Counter}

/-- A counter after a hand-over: increased where it is counted, then with its condition remembered. -/
theorem handOverSamples_get (hn : s.act.counters.get n = some c) :
    (handOverSamples v s).act.counters.get n =
      some ((if s.act.frozen = false ∧ c.countedAt v = true then c.increase else c).remember v) :=
  get_map _ (increaseWhere_get hn)

/-- The events that a hand-over gives a value. -/
theorem value_of_sample (h : c.selected = some .skewMagnitude ∧ x = v.skew ∨
    c.selected = some .followingError ∧ x = v.following ∨ c.selected = some .staggerGap ∧ x = v.gap) :
    v.of c.selected = some x := by
  rcases h with ⟨h, rfl⟩ | ⟨h, rfl⟩ | ⟨h, rfl⟩
  all_goals rw [h]; rfl

theorem countedAt_of_value (hx : v.of c.selected = some x) :
    c.countedAt v = (c.condition x && (!c.edge || !c.last)) := by
  simp [Counter.countedAt, hx]

theorem remember_of_value (hx : v.of c.selected = some x) :
    c.remember v = { c with last := c.condition x } := by
  simp [Counter.remember, hx]

theorem remember_increase (range : c.value < 4294967296) (hx : v.of c.selected = some x) :
    c.increase.remember v = { c with
      value := (c.value + 1) % 4294967296
      half := c.half || decide (c.value = 2147483647)
      full := c.full || decide (c.value = 4294967295)
      last := c.condition x } := by
  rw [increase_eq range]
  exact remember_of_value hx

/-- The events that no hand-over gives a value. -/
theorem value_of_other (skew : c.selected ≠ some .skewMagnitude)
    (following : c.selected ≠ some .followingError) (gap : c.selected ≠ some .staggerGap) : v.of c.selected = none := by
  unfold SampleValues.of
  split
  · next h => exact absurd h skew
  · next h => exact absurd h following
  · next h => exact absurd h gap
  · rfl

end

/-! ## A servo sample in OUT (R138, R165) -/

section
variable {s : State} {l r : EncoderRead}

/-- In OUT the reads report no fault (R138). -/
theorem readEncoders_of_out (out : s.cfs.out = true) : readEncoders l r s = readChannels l r s := by
  rw [readEncoders_eq, reportIf_of_out _ _ (by simpa using out), reportIf_of_out _ _ (by simpa using out)]

theorem sample_of_out (out : s.cfs.out = true) :
    sample l r s = handOverSamples (readChannels l r s).sampleValues (readChannels l r s) := by
  rw [sample, if_pos out, readEncoders_of_out out, handOver]

/-- With no loop running and no opening known only the skew is handed over (R151, R202). -/
theorem sampleValues_of_out (out : s.cfs.out = true) (loops : s.mtc.motion.bothLoops = false)
    (trim : s.mtc.trimMoves = false) :
    s.sampleValues = { skew := s.mtc.skewSize, following := 0, gap := 0 } := by
  simp [State.sampleValues, Mtc.followingError, State.staggerGap, State.opening, out, loops, trim]

theorem skewSize_of_values {m : Mtc} {a b : Nat} (left : m.left.value = some a)
    (right : m.right.value = some b) : m.skewSize = ((a : Int) - b).natAbs := by
  simp [Mtc.skewSize, Mtc.skew, left, right]

theorem skewSize_of_none {m : Mtc} (h : m.left.value = none ∨ m.right.value = none) : m.skewSize = 0 := by
  rcases h with h | h
  · simp [Mtc.skewSize, Mtc.skew, h]
  · simp [Mtc.skewSize, Mtc.skew, h]

end

/-- Settles O57: count events, hand-overs to the counters of sample events and to the others, and the values
of a sample in OUT. -/
theorem countEventsIncreaseTheirCounters : Obligations.CountEventsIncreaseTheirCounters := by
  refine ⟨fun s e n c hn range => ⟨fun passed => ?_, increaseWhere_of_frozen, fun unfrozen selects => ?_⟩,
    fun s v n c x holds hn range selects condition => ?_,
    fun s v n c hn skew following gap => ?_, fun s l r out loops trim => ?_⟩
  · have uncounted : ¬ (s.act.frozen = false ∧ (c.selected == some e) = true) := by
      simpa [imp_iff_not_or] using passed
    exact (increaseWhere_get hn).trans (by rw [if_neg uncounted])
  · have counted : (c.selected == some e) = true := by simpa using selects
    refine ⟨?_, increaseWhere_half unfrozen hn counted, increaseWhere_full unfrozen hn counted⟩
    exact (increaseWhere_get hn).trans (by rw [if_pos ⟨unfrozen, counted⟩, increase_eq range])
  · have value := value_of_sample selects
    have condition : c.condition x = holds := condition.symm
    rw [handOverSamples_get hn, countedAt_of_value value, condition]
    refine ⟨fun unfrozen met fresh => ?_, fun passed => ?_⟩
    · have counted : s.act.frozen = false ∧ (holds && (!c.edge || !c.last)) = true := by
        simpa [unfrozen, met] using fresh
      rw [if_pos counted, remember_increase range value, condition, met]
    · have uncounted : ¬ (s.act.frozen = false ∧ (holds && (!c.edge || !c.last)) = true) := by
        rcases passed with frozen | unmet | ⟨edge, last⟩
        · simp [frozen]
        · simp [unmet]
        · simp [edge, last]
      rw [if_neg uncounted, remember_of_value value, condition]
  · have value := value_of_other (v := v) skew following gap
    rw [handOverSamples_get hn]
    simp [Counter.countedAt, Counter.remember, value]
  · refine ⟨readChannels l r s, _, ?_, by simp, by simp, fun a b => skewSize_of_values, skewSize_of_none⟩
    have run : exec (.servoSample l r) s = .next (sample l r s) := rfl
    rw [run, sample_of_out out, sampleValues_of_out (by simpa using out) (by simpa using loops)
      (by simpa [Mtc.trimMoves] using trim)]

end Sys2Proof.HoistMotion

namespace Sys2Proof.FaultsAndStops

open Sys2Proof Sys2Proof.Machine Sys2Proof.BayLine Sys2Proof.PeerTable

/-! ## A cause that persists (R172) -/

section
variable {s : State}

theorem outsideLimits_iff {w : Words} {c : Channel} : outsideLimits w c = true ↔
    ∃ x, c.value = some x ∧ (x + 50 < Param.strokeMin w ∨ Param.strokeMax w + 50 < x) := by
  cases h : c.value <;> simp [outsideLimits, h]

theorem persists_overtravel : s.persists .overtravel = true ↔
    ∃ x, (s.mtc.left.value = some x ∨ s.mtc.right.value = some x) ∧
      (x + 50 < Param.strokeMin s.cfs.working ∨ Param.strokeMax s.cfs.working + 50 < x) := by
  simp only [State.persists, Bool.or_eq_true, outsideLimits_iff, or_and_right, exists_or]

theorem persists_skewTrip : s.persists .skewTrip = true ↔
    ∃ k, s.mtc.skew = some k ∧ Param.skewTrip s.cfs.working ≤ k.natAbs := by
  cases h : s.mtc.skew <;> simp [State.persists, h]

theorem anyPersists_iff : s.anyPersists = true ↔
    ∃ c, s.fmn.causes.has c = true ∧ s.persists c = true := by
  have listed (c : Cause) : c ∈ allCauses := by cases c <;> decide
  simp [State.anyPersists, listed]

/-- Only a latched cause persists. -/
theorem causes_of_anyPersists (persist : s.anyPersists = true) : s.fmn.causes ≠ noCauses := by
  obtain ⟨c, latched, -⟩ := anyPersists_iff.1 persist
  intro empty
  rw [empty, has_noCauses] at latched
  exact Bool.false_ne_true latched

end

/-! ## The faults are cleared (R173) -/

section
variable {s : State}

/-- Step 1 of R173: the cause set is empty and FAULT released. -/
def unlatched (s : State) : State := s.setFmn { s.fmn with causes := noCauses, faultLine := false }

/-- Steps 1 and 2 of R173: MTC leaves FAULT_STOP or TRIM for STOPPED. -/
def unstopped (s : State) : State :=
  if s.mtc.motion = .faultStop || s.mtc.motion = .trim then enterStopped (unlatched s) else unlatched s

theorem clearFaults_eq (s : State) : clearFaults s = testClaim (evalService (unstopped s)) := rfl

theorem unstopped_fmn (s : State) :
    (unstopped s).fmn = { s.fmn with causes := noCauses, faultLine := false } := by
  unfold unstopped
  split <;> simp [unlatched]

theorem clearFaults_fmn (s : State) :
    (clearFaults s).fmn = { s.fmn with causes := noCauses, faultLine := false } := by
  simp [clearFaults_eq, unstopped_fmn]

theorem clearFaults_service (s : State) :
    (clearFaults s).osl.service = (clearFaults s).serviceNow := by
  rw [clearFaults_eq]
  exact Stagger.testClaim_service _

/-- From FAULT_STOP and from TRIM, with no closure wanted, MTC comes to rest in STOPPED with the outputs of
R139. -/
theorem clearFaults_stopped (stopped : s.mtc.motion = .faultStop ∨ s.mtc.motion = .trim)
    (unwanted : s.mtc.closureRequest = false) :
    (clearFaults s).mtc.motion = .stopped ∧ (clearFaults s).mtc.pump = false ∧
      (clearFaults s).mtc.valve = false ∧ (clearFaults s).mtc.driveL = 0 ∧
      (clearFaults s).mtc.driveR = 0 := by
  have entry : (enterStopped (unlatched s)).mtc = (Stagger.atStopped (unlatched s)).mtc :=
    HoistMotion.enterStopped_mtc unwanted
  have mtc : (clearFaults s).mtc = (Stagger.atStopped (unlatched s)).mtc := by
    rw [clearFaults_eq, unstopped, if_pos (by simpa using stopped)]
    simpa using entry
  simp [mtc, Stagger.atStopped, Mtc.enter, outputsOf, loopsRun]

/-! ## FAULT RESET (R171) -/

/-- No answer touches what the service state rests on (R95, R187). -/
theorem answerCommand_serviceNow (code : Byte) (a : Answer) (clamped : Bool) (s : State) :
    (answerCommand code a clamped s).serviceNow = s.serviceNow :=
  serviceNow_congr (by simp) (by simp) (by simp) (by simp)

theorem ownFaultReset_of_unserved (unserved : s.cfs.out = true ∨ s.fmn.causes = noCauses) :
    ownFaultReset s = refuse .refusedState s := by
  rcases unserved with out | empty
  · simp [ownFaultReset, out]
  · simp [ownFaultReset, BayLine.isEmpty_iff, empty]

theorem ownFaultReset_of_persisting (out : s.cfs.out = false) (persist : s.anyPersists = true) :
    ownFaultReset s = refuse .refusedCausePersists s := by
  simp [ownFaultReset, out, BayLine.isEmpty_iff, causes_of_anyPersists persist, persist]

theorem ownFaultReset_of_gone (out : s.cfs.out = false) (latched : s.fmn.causes ≠ noCauses)
    (gone : s.anyPersists = false) : ownFaultReset s = done (clearFaults s) := by
  simp [ownFaultReset, out, BayLine.isEmpty_iff, latched, gone]

/-- FAULT RESET taken: steps 1 to 4 of R173, and then the answer. -/
theorem faultReset_done {b : Byte} (idle : s.cfs.storeBusy = false) (out : s.cfs.out = false)
    (latched : s.fmn.causes ≠ noCauses) (gone : s.anyPersists = false) : exec (.faultReset b) s =
      .next (answerCommand 0x09 .done false (clearFaults (latchCommand 0x09 b s))) :=
  congrArg Host.Outcome.next <| command_done idle <|
    ownFaultReset_of_gone (s := latchCommand 0x09 b s) out latched gone

end

/-- Settles O54: the refusals in the order of R171, with the causes that R172 says persist, then the clearing
of R173. -/
theorem faultResetClearsAllOrNothing : Obligations.FaultResetClearsAllOrNothing := by
  intro s b idle
  have refused {a : Answer}
      (h : ownFaultReset (latchCommand 0x09 b s) = refuse a (latchCommand 0x09 b s)) :
      exec (.faultReset b) s = .next (answerCommand 0x09 a false (latchCommand 0x09 b s)) :=
    congrArg _ (command_refused idle h)
  refine ⟨fun unserved => refused (ownFaultReset_of_unserved unserved), fun out persisting => ?_,
    fun out latched gone => ⟨_, faultReset_done idle out latched gone, ?_⟩⟩
  · have persist : s.anyPersists = true := anyPersists_iff.2 <| by
      rcases persisting with duplicate | ⟨left, read⟩ | ⟨right, read⟩ | ⟨trip, skew⟩ | ⟨travel, limits⟩
      · exact ⟨.duplicateBay, duplicate, rfl⟩
      · exact ⟨.encoderL, left, by simp [State.persists, read]⟩
      · exact ⟨.encoderR, right, by simp [State.persists, read]⟩
      · exact ⟨.skewTrip, trip, persists_skewTrip.2 skew⟩
      · exact ⟨.overtravel, travel, persists_overtravel.2 limits⟩
    exact refused (ownFaultReset_of_persisting out persist)
  · refine ⟨by simp [clearFaults_fmn], by simp [answerCommand_serviceNow, clearFaults_service],
      by simp [answerCommand_done_lpt], by simp [answerCommand_done_lpt], fun stopped unwanted => ?_,
      setAttention_sets .commandDone _, by simp, by simp, by simp, by simp⟩
    simpa using clearFaults_stopped (s := latchCommand 0x09 b s) stopped unwanted

end Sys2Proof.FaultsAndStops

namespace Sys2Proof.LocalPort

open Sys2Proof Sys2Proof.Machine

/-! ## A word written to COMMAND (R187, R205) -/

/-- A write of COMMAND latches the whole word (R187, log 37). -/
theorem latchCommand_word (w : Word) (s : State) :
    latchCommand (commandCode w) (commandByte w) s = s.setLpt { s.lpt with command := w } := by
  rw [latchCommand, commandCode_append_commandByte]

theorem code_of_toNat {c : Byte} {n : Nat} (h : c.toNat = n) : c = BitVec.ofNat 8 n := by simp [← h]

/-- The action of COUNTER CONTROL, bits 7 to 4 of the byte operand (R205). -/
theorem counterAction_toNat (b : Byte) : (b.extractLsb' 4 4).toNat = b.toNat / 16 := by
  rw [BitVec.extractLsb'_toNat, Nat.shiftRight_eq_div_pow]
  omega

/-- The byte operand is its action over its low four bits (R205). -/
theorem counterByte_of_action {b : Byte} {a : Nat} (h : (b.extractLsb' 4 4).toNat = a) :
    counterByte (BitVec.ofNat 4 a) (b.extractLsb' 0 4) = b := by
  rw [← h, BitVec.ofNat_toNat, BitVec.setWidth_eq, counterByte]
  ext i hi
  simp only [BitVec.getElem_append, BitVec.getElem_extractLsb']
  split
  · simp [BitVec.getLsbD_eq_getElem hi]
  · rw [BitVec.getLsbD_eq_getElem (by omega)]
    congr 1
    omega

/-- A row whose meaning is that of a COMMAND write with this code and byte operand (R187). -/
def IsCommand (code b : Byte) (i : Instr) : Prop :=
  ∃ owner, ∀ s, exec i s = .next (command code b owner s)

/-- While a store is in progress such a row is answered REFUSED BUSY (R187). -/
theorem IsCommand.busy {code b : Byte} {i : Instr} {s : State} (h : IsCommand code b i)
    (busy : s.cfs.storeBusy = true) :
    exec i s = .next (answerCommand code .refusedBusy false (latchCommand code b s)) := by
  obtain ⟨owner, run⟩ := h
  rw [run, command_busy busy]

/-- A row of COUNTER CONTROL, from its action and the low four bits (R205). -/
theorem IsCommand.of_action {b : Byte} {a : Nat} {i : Instr} (action : (b.extractLsb' 4 4).toNat = a)
    (h : IsCommand 0x0B (counterByte (BitVec.ofNat 4 a) (b.extractLsb' 0 4)) i) : IsCommand 0x0B b i :=
  counterByte_of_action action ▸ h

theorem unknownCommand_isCommand {code b : Byte} (h : isUnknownCommand code b = true) :
    IsCommand code b (.unknownCommand code b) :=
  ⟨refuse .refusedRange, fun s => by simp [exec, execUnknownCommand, h]⟩

theorem counterSelect_isCommand (n : BitVec 4) :
    IsCommand 0x0B (counterByte 0 n) (.counterSelect n) := ⟨_, fun _ => rfl⟩

theorem counterReset_isCommand (n : BitVec 4) :
    IsCommand 0x0B (counterByte 1 n) (.counterReset n) := ⟨_, fun _ => rfl⟩

theorem counterRelease_isCommand (n : BitVec 4) :
    IsCommand 0x0B (counterByte 2 n) (.counterRelease n) := ⟨_, fun _ => rfl⟩

theorem freezeMode_isCommand (n : BitVec 4) :
    IsCommand 0x0B (counterByte 3 n) (.freezeMode n) := ⟨_, fun _ => rfl⟩

/-- COUNTER CONTROL is spelled by its action; above 3 it is the unknown command (R205, log 17). -/
theorem counterControl_cases (b : Byte) :
    isUnknownCommand 0x0B b = true ∧ counterControl b = .unknownCommand 0x0B b ∨
      isUnknownCommand 0x0B b = false ∧ IsCommand 0x0B b (counterControl b) := by
  have unknown : isUnknownCommand 0x0B b = decide (3 < (b.extractLsb' 4 4).toNat) := by
    simp [isUnknownCommand, commandCodes, counterAction_toNat b]
  rw [unknown]
  unfold counterControl
  dsimp only
  split
  case h_1 action =>
    exact .inr ⟨by simp [action], .of_action action (counterSelect_isCommand _)⟩
  case h_2 action =>
    exact .inr ⟨by simp [action], .of_action action (counterReset_isCommand _)⟩
  case h_3 action =>
    exact .inr ⟨by simp [action], .of_action action (counterRelease_isCommand _)⟩
  case h_4 action =>
    exact .inr ⟨by simp [action], .of_action action (freezeMode_isCommand _)⟩
  case h_5 =>
    refine .inl ⟨?_, rfl⟩
    simp only [imp_false, decide_eq_true_eq] at *
    omega

/-- Everything a word written to COMMAND can be (R187, R205): the unknown command, a command of the table,
or RESTART. -/
theorem instrOfCommand_cases (w : Word) (l r : EncoderRead) :
    isUnknownCommand (commandCode w) (commandByte w) = true ∧
        instrOfCommand w l r = .unknownCommand (commandCode w) (commandByte w) ∨
      isUnknownCommand (commandCode w) (commandByte w) = false ∧
        (IsCommand (commandCode w) (commandByte w) (instrOfCommand w l r) ∨
          commandCode w = 0x1F ∧ instrOfCommand w l r = .restart (commandByte w) l r) := by
  unfold instrOfCommand
  dsimp only
  generalize commandByte w = b, commandCode w = c
  split
  case h_11 code =>
    obtain rfl := code_of_toNat code
    exact (counterControl_cases b).imp_right (.imp_right .inl)
  case h_16 code =>
    obtain rfl := code_of_toNat code
    exact .inr ⟨rfl, .inr ⟨rfl, rfl⟩⟩
  case h_17 =>
    refine .inl ⟨?_, rfl⟩
    simp only [imp_false] at *
    simp [isUnknownCommand, commandCodes, ← BitVec.toNat_inj, *]
  all_goals
    next code =>
      obtain rfl := code_of_toNat code
      exact .inr ⟨rfl, .inl ⟨_, fun _ => rfl⟩⟩

/-! ## The statement -/

/-- Settles O52: a word of COMMAND is a command's, RESTART or unknown, and each is looked at. -/
theorem busyAndUnknownCommandsAreRefused : Obligations.BusyAndUnknownCommandsAreRefused := by
  intro s w l r
  rw [← latchCommand_word]
  refine ⟨fun busy => ?_, fun idle unknown => ?_⟩
  · rcases instrOfCommand_cases w l r with ⟨unknown, row⟩ | ⟨-, answered | ⟨code, row⟩⟩
    · rw [row]
      exact (unknownCommand_isCommand unknown).busy busy
    · exact answered.busy busy
    · rw [row, code]
      simp [exec, execRestart, busy]
  · rcases instrOfCommand_cases w l r with ⟨-, row⟩ | ⟨known, -⟩
    · have run : exec (.unknownCommand (commandCode w) (commandByte w)) s =
          .next (command (commandCode w) (commandByte w) (refuse .refusedRange) s) := by
        simp [exec, execUnknownCommand, unknown]
      exact ⟨row, by rw [run, PeerTable.command_refused idle rfl]⟩
    · cases known.symm.trans unknown

end Sys2Proof.LocalPort

namespace Sys2Proof.LocalPort

open Sys2Proof Sys2Proof.Machine Sys2Proof.BayLine

/-! ## What leaves the reset-cause set alone (R198) -/

/-- The reset-cause set stands as it stood. -/
def CausesKept (s t : State) : Prop := t.lpt.resetCause = s.lpt.resetCause

section
variable {s t : State}

/-- Most operations leave LPT alone, as their frame lemmas have it. -/
theorem CausesKept.of_lpt (h : t.lpt = s.lpt := by simp) : CausesKept s t :=
  congrArg Lpt.resetCause h

theorem CausesKept.refl (s : State) : CausesKept s s := rfl

/-- An operation behind a test. -/
theorem CausesKept.ite {u : State} {p : Prop} [Decidable p] (h : CausesKept s t) (k : CausesKept s u) :
    CausesKept s (if p then t else u) := by
  split
  · exact h
  · exact k

/-- An owner's answer that turns on a test: one of its two. -/
theorem CausesKept.reply {p : Prop} [Decidable p] {a b : Reply} (h : CausesKept s a.state)
    (k : CausesKept s b.state) : CausesKept s (if p then a else b).state := by
  split
  · exact h
  · exact k

/-- A refusal, or the owner's answer (R187). -/
theorem CausesKept.unless {p : Prop} [Decidable p] {a : Answer} {r : Reply} (h : CausesKept s r.state) :
    CausesKept s (if p then refuse a s else r).state := .reply (.refl s) h

end

/-! ### The host's commands (R187) -/

section
variable (s : State)

theorem ownSetLocal_causes : CausesKept s (ownSetLocal s).state := .unless <| .reply .of_lpt .of_lpt

theorem ownWithdrawLocal_causes : CausesKept s (ownWithdrawLocal s).state := .unless .of_lpt

theorem ownIssue_causes : CausesKept s (ownIssue s).state := .unless <| .unless .of_lpt

theorem ownSetFloor_causes (floor : Nat) : CausesKept s (ownSetFloor floor s).state :=
  .unless <| .unless .of_lpt

theorem ownRaise_causes : CausesKept s (ownRaise s).state := .unless <| .unless .of_lpt

theorem ownClear_causes : CausesKept s (ownClear s).state :=
  .unless <| .unless <| .unless <| .unless <| .unless <| .unless .of_lpt

theorem ownDeclare_causes (bay : Nat) : CausesKept s (ownDeclare bay s).state := by
  refine .unless <| .unless <| .unless ?_
  split
  · exact .refl s
  · exact .unless .of_lpt

theorem ownWithdraw_causes (bay : Nat) : CausesKept s (ownWithdraw bay s).state := by
  refine .unless <| .unless ?_
  split
  · exact .refl s
  · dsimp only
    split
    · exact .of_lpt
    · exact .of_lpt

theorem ownFaultReset_causes : CausesKept s (ownFaultReset s).state :=
  .unless <| .unless <| .unless .of_lpt

theorem ownTrim_causes (b : Byte) : CausesKept s (ownTrim b s).state := by
  refine .unless ?_
  split
  · exact .refl s
  · refine .unless <| .unless <| .unless ?_
    split
    · exact .unless .of_lpt
    · exact .refl s

theorem ownSelect_causes (n : Nat) : CausesKept s (ownSelect n s).state := .unless <| .unless .of_lpt

theorem ownCounterReset_causes (n : Nat) : CausesKept s (ownCounterReset n s).state :=
  .unless <| .reply .of_lpt .of_lpt

theorem ownRelease_causes : CausesKept s (ownRelease s).state := .reply .of_lpt (.refl s)

theorem ownEnter_causes (b : Byte) : CausesKept s (ownEnter b s).state :=
  .unless <| .unless <| .reply .of_lpt <| .unless <| .unless .of_lpt

theorem ownWrite_causes (b : Byte) : CausesKept s (ownWrite b s).state := by
  unfold ownWrite
  split
  · exact .refl s
  · exact .unless <| .unless .of_lpt

theorem ownStore_causes : CausesKept s (ownStore s).state := by
  unfold ownStore
  split
  · exact .refl s
  · exact .reply .of_lpt .of_lpt

theorem ownLeave_causes : CausesKept s (ownLeave s).state := .reply .of_lpt (.refl s)

/-- A write of COMMAND and its answer leave what its owner leaves (R187). -/
theorem command_causes {owner : State → Reply} (h : ∀ u, CausesKept u (owner u).state) (code b : Byte) :
    CausesKept s (command code b owner s) := by
  have latched : CausesKept s (latchCommand code b s) := by simp [CausesKept]
  have answered (a : Answer) (clamped : Bool) (u : State) :
      CausesKept u (answerCommand code a clamped u) := by simp [CausesKept]
  exact .ite ((answered _ _ _).trans latched) ((answered _ _ _).trans ((h _).trans latched))

/-! ### The other rows -/

/-- A row that leaves the set alone. -/
def RowKeepsCauses (s : State) (o : Host.Outcome State Fault Refusal) : Prop :=
  ∃ t, o = .next t ∧ CausesKept s t

variable {s}

theorem RowKeepsCauses.of_next {t : State} (h : CausesKept s t) : RowKeepsCauses s (.next t) := ⟨t, rfl, h⟩

/-- A row that sets a test before its operation. -/
theorem RowKeepsCauses.of_ite {t : State} {p : Prop} [Decidable p] (h : CausesKept s t) :
    RowKeepsCauses s (.next (if p then t else s)) := .of_next (.ite h (.refl s))

/-- A row whose operation is ruled out by a test. -/
theorem RowKeepsCauses.of_unless {t : State} {p : Prop} [Decidable p] (h : CausesKept s t) :
    RowKeepsCauses s (.next (if p then s else t)) := .of_next (.ite (.refl s) h)

variable (s)

theorem surgeInActive_causes : RowKeepsCauses s (execSurgeInActive s) :=
  .of_unless <| .ite .of_lpt .of_lpt

theorem supplyGoesLow_causes : RowKeepsCauses s (execSupplyGoesLow s) := .of_ite <| .ite .of_lpt .of_lpt

theorem supplyGoesGood_causes : RowKeepsCauses s (execSupplyGoesGood s) :=
  .of_unless <| .ite .of_lpt .of_lpt

theorem attemptBegin_causes : RowKeepsCauses s (execAttemptBegin s) := by
  refine .of_ite ?_
  split
  · exact .of_lpt
  · exact .refl s

theorem attemptSuccess_causes : RowKeepsCauses s (execAttemptSuccess s) := by
  refine .of_next ?_
  split
  · exact .refl s
  · exact .of_lpt

theorem statusAPeriod_causes : RowKeepsCauses s (execStatusAPeriod s) := by
  refine .of_next ?_
  split
  · exact .refl s
  · exact .of_lpt

theorem statusBPeriod_causes : RowKeepsCauses s (execStatusBPeriod s) := by
  refine .of_next ?_
  split
  · exact .refl s
  · exact .of_lpt

theorem orderRepeat_causes : RowKeepsCauses s (execOrderRepeatTimer s) := by
  refine .of_ite ?_
  cases s.shu.order with
  | none => exact .of_lpt
  | some o => exact .ite .of_lpt .of_lpt

theorem releaseTimer_causes : RowKeepsCauses s (execReleaseTimer s) := by
  refine .of_ite ?_
  dsimp only
  split
  · exact .of_lpt
  · exact .of_lpt
  all_goals exact .refl s

theorem tableIndexWrite_causes (w : Word) : RowKeepsCauses s (execTableIndexWrite w s) := by
  refine .of_next ?_
  dsimp only
  split
  · exact rfl
  · exact rfl

theorem exec_causes {c : Instr} (reset : isReset c = false) (write : ∀ w, c ≠ .resetCauseWrite w) :
    RowKeepsCauses s (exec c s) := by
  cases c with
  | powerOnReset l r | pinReset l r | restart b l r => cases reset
  | resetCauseWrite w => exact absurd rfl (write w)
  | servoSample l r | stageSample u d | surgeInInactive => exact .of_next .of_lpt
  | encoderFault h l r | stallWindowEnd h l r | settleCountFull l r => exact .of_ite .of_lpt
  | tidalStateChange u d | surgeRunComplete u d => exact .of_ite .of_lpt
  | surgeInActive => exact surgeInActive_causes s
  | holdTaken => exact .of_unless .of_lpt
  | holdReleased | goodTimer => exact .of_ite .of_lpt
  | supplyGoesLow => exact supplyGoesLow_causes s
  | supplyGoesGood => exact supplyGoesGood_causes s
  | attemptBegin => exact attemptBegin_causes s
  | attemptSuccess => exact attemptSuccess_causes s
  | attemptLostContention _ | attemptFailure | lineOff | offTimer => exact .of_ite .of_lpt
  | statusAPeriod => exact statusAPeriod_causes s
  | statusBPeriod => exact statusBPeriod_causes s
  | orderRepeatTimer => exact orderRepeat_causes s
  | frameDiscarded f => exact .of_unless .of_lpt
  | statusAFrame bay data | statusBFrame bay data | surgeFrame bay data | verdictFrame bay data
  | claimFrame bay data | orderFrame bay data => exact .of_next .of_lpt
  | listenTimer | peerLapse b | askingTimer | claimWindow | backoffTimer | settleTimer =>
    exact .of_ite .of_lpt
  | pumpSettle | settleTimeout | trimLimitTimeout => exact .of_ite .of_lpt
  | releaseTimer => exact releaseTimer_causes s
  | runOn => exact .of_next .of_lpt
  | storeComplete => exact .of_ite (by simp [CausesKept])
  | attnCauseWrite w | attnMaskWrite w => exact .of_next .of_lpt
  | tableSelectWrite w => exact .of_next rfl
  | tableIndexWrite w => exact tableIndexWrite_causes s w
  | registerWrite addr w => exact .of_next <| .ite rfl <| .ite rfl (.refl s)
  | setLocalOrder b => exact .of_next <| command_causes s ownSetLocal_causes _ _
  | withdrawLocalOrder b => exact .of_next <| command_causes s ownWithdrawLocal_causes _ _
  | issueWeirOrder b => exact .of_next <| command_causes s ownIssue_causes _ _
  | raiseSurge b => exact .of_next <| command_causes s ownRaise_causes _ _
  | clearSurge b => exact .of_next <| command_causes s ownClear_causes _ _
  | setFloor b => exact .of_next <| command_causes s (ownSetFloor_causes · _) _ _
  | declareBound b => exact .of_next <| command_causes s (ownDeclare_causes · _) _ _
  | withdrawDeclaration b => exact .of_next <| command_causes s (ownWithdraw_causes · _) _ _
  | faultReset b => exact .of_next <| command_causes s ownFaultReset_causes _ _
  | trim b => exact .of_next <| command_causes s (ownTrim_causes · b) _ _
  | counterSelect n => exact .of_next <| command_causes s (ownSelect_causes · _) _ _
  | counterReset n => exact .of_next <| command_causes s (ownCounterReset_causes · _) _ _
  | counterRelease n => exact .of_next <| command_causes s ownRelease_causes _ _
  | freezeMode n => exact .of_next <| command_causes s (owner := ownFreezeMode) (fun _ => rfl) _ _
  | enterCommissioning b => exact .of_next <| command_causes s (ownEnter_causes · b) _ _
  | commissionWrite b => exact .of_next <| command_causes s (ownWrite_causes · b) _ _
  | commissionStore b => exact .of_next <| command_causes s ownStore_causes _ _
  | leaveCommissioning b => exact .of_next <| command_causes s ownLeave_causes _ _
  | unknownCommand code b =>
    exact .of_ite <| command_causes s (owner := refuse .refusedRange) (fun u => .refl u) _ _

/-! ## A reset (R198, R199) -/

/-- Every reset leaves LPT in its reset state, with the reset-cause set that R198 gives. -/
theorem reset_lpt (k : ResetKind) (l r : EncoderRead) : (reset k l r s).lpt =
    lptReset (resetCauseAfter k s.lpt.resetCause) s.lpt.transaction.afterReset := by
  cases h : (blocksReset k s).cfs.out with
  | true => rw [reset_of_out h]; rfl
  | false => simp [reset_of_passed h, startPassed]

theorem reset_resetCause (k : ResetKind) (l r : EncoderRead) :
    (reset k l r s).lpt.resetCause = resetCauseAfter k s.lpt.resetCause := by rw [reset_lpt]; rfl

end

/-! ## The statement -/

/-- Settles O35: the three resets, the host's write, and every other row. -/
theorem resetsGatherTheirCauses : Obligations.ResetsGatherTheirCauses := by
  intro s l r b w
  refine ⟨⟨_, rfl, reset_resetCause s .powerOn l r⟩, ⟨_, rfl, reset_resetCause s .pin l r⟩,
    fun idle => ⟨_, ?_, reset_resetCause s .restart l r⟩, ⟨_, rfl, fun i => ?_⟩, fun c t run => ?_⟩
  · simp [exec, execRestart, idle]
  · by_cases hi : i < 3
    · simp [hi]
    · simp [BitVec.getLsbD_of_ge s.lpt.resetCause i (by omega)]
  · have kept (reset : isReset c = false) (write : ∀ w, c ≠ .resetCauseWrite w) :
        t.lpt.resetCause = s.lpt.resetCause := by
      obtain ⟨u, next, kept⟩ := exec_causes s reset write
      obtain rfl : u = t := by simpa [next] using run
      exact kept
    cases c with
    | powerOnReset _ _ | pinReset _ _ | restart _ _ _ | resetCauseWrite _ => trivial
    | _ => exact kept rfl nofun

end Sys2Proof.LocalPort

namespace Sys2Proof.LocalPort

open Sys2Proof Sys2Proof.Machine

/-! ## The bits of a word (R182) -/

theorem bitsToNat_concat (l : List Bool) (b : Bool) :
    bitsToNat (l ++ [b]) = 2 * bitsToNat l + b.toNat := by
  simp [bitsToNat]

/-- The first n bits of a word, the most significant first, are its high part. -/
theorem bitsToNat_highBits (w : Word) {n : Nat} (h : n ≤ 16) :
    bitsToNat ((List.range n).map fun i => w.getMsbD i) = w.toNat / 2 ^ (16 - n) := by
  induction n with
  | zero => exact (Nat.div_eq_of_lt w.isLt).symm
  | succ n ih =>
    have low : (w.getMsbD n).toNat = w.toNat / 2 ^ (16 - (n + 1)) % 2 := by
      rw [BitVec.getMsbD_eq_getLsbD, decide_eq_true (by omega), Bool.true_and, BitVec.getLsbD,
        Nat.toNat_testBit]
      congr 3
      omega
    have high : w.toNat / 2 ^ (16 - n) = w.toNat / 2 ^ (16 - (n + 1)) / 2 := by
      rw [Nat.div_div_eq_div_mul, ← Nat.pow_succ]
      congr 2
      omega
    rw [List.range_succ, List.map_append, List.map_singleton, bitsToNat_concat, ih (by omega), low, high]
    exact Nat.div_add_mod _ 2

/-- The sixteen bits of a word give it back (R182). -/
theorem word_of_wordBits (w : Word) : BitVec.ofNat 16 (bitsToNat (wordBits w)) = w := by
  rw [wordBits, bitsToNat_highBits w (Nat.le_refl 16)]
  simp

/-! ## A bit of a transaction (R182, R183) -/

section
variable {s : State} {a : BitVec 7} {bit : Bool} {l r : EncoderRead} {bits : List Bool}

/-- The sixteenth bit of a write: its word's command joins the queue (R182, log 29). -/
theorem portClock_write_last {w : Word} (writing : s.lpt.transaction = .write a bits)
    (spells : bits ++ [bit] = wordBits w) :
    State.portClock bit l r s = (some false, (s.setTransaction (.write (nextAddr a) [])).setPending
      (s.pending ++ [instrOfWrite a w l r])) := by
  have full : ¬ (wordBits w).length < 16 := by simp [wordBits]
  simp [State.portClock, writing, spells, full, word_of_wordBits]

/-- A bit of a write before the sixteenth. -/
theorem portClock_write_more (writing : s.lpt.transaction = .write a bits) (more : bits.length < 15) :
    State.portClock bit l r s = (some false, s.setTransaction (.write a (bits ++ [bit]))) := by
  simp [State.portClock, writing, more]

/-- The first bit of a read samples the register (R183). -/
theorem portClock_read_first (reading : s.lpt.transaction = .read a []) :
    State.portClock bit l r s = (some ((s.readRegister a).getLsbD 15),
      s.setTransaction (.read (nextAddr a) ((wordBits (s.readRegister a)).drop 1))) := by
  have first : (wordBits (s.readRegister a)).head? = some ((s.readRegister a).getLsbD 15) := rfl
  simp [State.portClock, reading, first]

end

/-! ## Register writes (R184, R186) -/

/-- ATTN is asserted exactly while a cause is set and unmasked (R207). -/
theorem attnOf_iff {causes mask : BitVec 10} :
    attnOf causes mask = true ↔ ∃ i, causes.getLsbD i = true ∧ mask.getLsbD i = false := by
  rw [attnOf, bne_iff_ne]
  constructor
  · intro asserted
    by_contra unmasked
    refine asserted (BitVec.eq_of_getLsbD_eq fun i hi => ?_)
    have masked (set : causes.getLsbD i = true) : mask.getLsbD i = true :=
      by_contra fun clear => unmasked ⟨i, set, by simpa using clear⟩
    simpa [hi] using masked
  · rintro ⟨i, set, clear⟩ zero
    have off : (causes &&& ~~~mask).getLsbD i = false := by simp [zero]
    rw [BitVec.getLsbD_and, BitVec.getLsbD_not, set, clear] at off
    simp [BitVec.lt_of_getLsbD set] at off

/-- The sixteen data words of an entry, word by word; those after its last field are 0 (R185). -/
theorem dataWords_eq (x : List Word) : dataWords x = (List.range 16).map fun k => x.getD k 0 := by
  refine List.ext_getElem (by simp [dataWords]) fun k hk _ => ?_
  have range : k < 16 := by simpa [dataWords] using hk
  by_cases field : k < x.length
  · simp [dataWords, List.getElem_append_left, field]
  · have padding : (x ++ List.replicate 16 (0 : Word))[k]'(by simp; omega) = 0 := by
      rw [List.getElem_append_right (by omega), List.getElem_replicate]
    simpa [dataWords, field] using padding

theorem tableIndexWrite_of_entry {s : State} {w : Word} {x : List Word}
    (entry : s.captureEntry s.lpt.tableSelect.toNat (w.toNat % 256) = some x) :
    exec (.tableIndexWrite w) s = .next (s.setLpt { s.lpt with
      tableIndex := w.setWidth 8, captureValid := true, data := dataWords x }) := by
  simp [exec, execTableIndexWrite, entry]

theorem tableIndexWrite_of_no_entry {s : State} {w : Word}
    (entry : s.captureEntry s.lpt.tableSelect.toNat (w.toNat % 256) = none) :
    exec (.tableIndexWrite w) s = .next (s.setLpt { s.lpt with
      tableIndex := w.setWidth 8, captureValid := false, data := List.replicate 16 0 }) := by
  simp [exec, execTableIndexWrite, entry]

/-! ## The statement -/

/-- Settles O59: the register writes by register, then a bit of a transaction by what it is. -/
theorem registerWritesTakeTheWord : Obligations.RegisterWritesTakeTheWord := by
  intro s w a
  refine ⟨⟨_, rfl, fun i hi => ?_, rfl, rfl, attnOf_iff, rfl, rfl⟩,
    ⟨_, rfl, fun i hi => ?_, rfl, rfl, attnOf_iff, rfl, rfl⟩, ⟨_, rfl, rfl, rfl, rfl⟩,
    fun x entry => dataWords_eq x ▸ tableIndexWrite_of_entry entry, tableIndexWrite_of_no_entry, ⟨rfl, rfl⟩,
    fun _ not0 not1 => ?_, fun bit l r => ⟨fun bits writing _ => portClock_write_last writing,
      fun bits => portClock_write_more, portClock_read_first, portClock_ended⟩⟩
  · simp [hi]
  · simp [hi]
  · rw [exec, execRegisterWrite, if_neg not0, if_neg not1]

end Sys2Proof.LocalPort

namespace Sys2Proof.LocalPort

open Sys2Proof Sys2Proof.Machine Sys2Proof.BayLine Sys2Proof.PeerTable

/-! ## The tests of a configuration and its check word (R189, R194) -/

/-- Words 0 to 51 of two configurations agree. -/
def SameWords (v w : Words) : Prop := ∀ k, k < 52 → v.getD k 0 = w.getD k 0

section
variable {v w : Words}

theorem SameWords.wordNat (h : SameWords v w) {k : Nat} (hk : k < 52) : wordNat v k = wordNat w k :=
  congrArg BitVec.toNat (h k hk)

theorem SameWords.wordInt (h : SameWords v w) {k : Nat} (hk : k < 52) : wordInt v k = wordInt w k :=
  congrArg BitVec.toInt (h k hk)

theorem SameWords.geometryStrokes (h : SameWords v w) : geometryStrokes v = geometryStrokes w :=
  List.map_congr_left fun i hi => h.wordNat (by have := List.mem_range.1 hi; omega)

theorem SameWords.geometryOpenings (h : SameWords v w) : geometryOpenings v = geometryOpenings w :=
  congrArg (0 :: ·) <| List.map_congr_left fun i hi => h.wordNat (by have := List.mem_range.1 hi; omega)

theorem SameWords.constraintResults (h : SameWords v w) : constraintResults v = constraintResults w := by
  simp only [Machine.constraintResults, Param.bayFirst, Param.bayLast, Param.ownBay, Param.scalingU,
    Param.scalingD, Param.skewWarn, Param.skewTrip, h.geometryStrokes, h.geometryOpenings, h.wordNat,
    h.wordInt, Nat.reduceLT]
  rfl

/-- Tests 2 and 3 read words 0 to 51 only (R189). -/
theorem SameWords.report (h : SameWords v w) : rangeAndConstraintReport v = rangeAndConstraintReport w := by
  have ranges : (List.range 52).find? (fun k => !wordInRange k (v.getD k 0)) =
      (List.range 52).find? fun k => !wordInRange k (w.getD k 0) :=
    List.find?_congr fun k hk => by rw [h k (List.mem_range.1 hk)]
  unfold rangeAndConstraintReport
  rw [ranges, h.constraintResults]

variable (length : w.length = 53)
include length

theorem storeWords_sameWords : SameWords (storeWords w) w := fun k hk => by
  rw [List.getD_eq_getElem?_getD, List.getD_eq_getElem?_getD, storeWords_getElem? hk length]

/-- Word 52 of a stored image is its check word (R194). -/
theorem storeWords_checks : checkWordMatches (storeWords w) = true := by
  have words : (storeWords w).take 52 = w.take 52 := by simp [storeWords, length]
  have last : (storeWords w).getD 52 0 = checkWord w := by simp [storeWords, length]
  rw [checkWordMatches, last, checkWord, checkWord, words, beq_self_eq_true]

/-- A stored image that passes tests 2 and 3 passes the check at the next start (R189, R194). -/
theorem startReportOf_storeWords (passes : rangeAndConstraintReport w = .passed) :
    startReportOf false (storeWords w) = .passed := by
  simp [startReportOf, configReport, storeWords_checks length, (storeWords_sameWords length).report, passes]

end

/-! ## What commissioning does (R191, R193, R194, R196) -/

section
variable {s : State} {b : Byte} {w : Words}

theorem loadedImage_eq (b : Byte) (s : State) :
    loadedImage b s = if b.toNat = 0 then s.cfs.store else defaultWords := by
  have zero : b = 0 ↔ b.toNat = 0 := by bv_omega
  rw [loadedImage, if_congr zero rfl rfl]

theorem enterCommissioning_cfs (b : Byte) (s : State) : (enterCommissioning b s).cfs =
    { s.cfs with image := some (loadedImage b s), imageReport := enterReport b s } := by
  simp [enterCommissioning]

theorem enterCommissioning_service (b : Byte) (s : State) :
    (enterCommissioning b s).osl.service = (enterCommissioning b s).serviceNow := by
  simp [enterCommissioning]

theorem leaveCommissioning_cfs (s : State) :
    (leaveCommissioning s).cfs = { s.cfs with image := none } := by
  simp [leaveCommissioning]

theorem leaveCommissioning_service (s : State) :
    (leaveCommissioning s).osl.service = (leaveCommissioning s).serviceNow := by
  rw [serviceNow_congr (s := evalService (s.setCfs { s.cfs with image := none }))]
  all_goals simp [leaveCommissioning]

theorem completeStore_of_image (image : s.cfs.image = some w) :
    completeStore s = answerCommand 0x12 .done false (s.setCfs { s.cfs with
      store := storeWords w, writeMark := false, image := some (storeWords w), storeBusy := false }) := by
  simp [completeStore, image]

/-! ### The owners -/

theorem ownEnter_of_ready (image : s.cfs.image = none) (operand : b.toNat ≤ 1)
    (ready : s.cfs.out = true ∨ s.pins.holdIn = true ∧ s.mtc.motion = .stopped) :
    ownEnter b s = done (enterCommissioning b s) := by
  have named : b = 0 ∨ b = 1 := by bv_omega
  have range : (b != 0 && b != 1) = false := by rcases named with rfl | rfl <;> rfl
  unfold ownEnter
  rw [State.commissioning, image, range]
  by_cases out : s.cfs.out = true
  · simp [out]
  · obtain ⟨hold, stopped⟩ := ready.resolve_left out
    simp [out, hold, stopped]

theorem ownEnter_again (image : s.cfs.image = some w) : ownEnter b s = refuse .refusedState s := by
  simp [ownEnter, State.commissioning, image]

theorem ownWrite_of_range (image : s.cfs.image = some w)
    (range : 51 < b.toNat ∨ wordInRange b.toNat s.lpt.operand0 = false) :
    ownWrite b s = refuse .refusedRange s := by
  rcases range with index | value
  · simp [ownWrite, image, index]
  · simp [ownWrite, image, value]

theorem ownWrite_done (image : s.cfs.image = some w) (index : b.toNat ≤ 51)
    (value : wordInRange b.toNat s.lpt.operand0 = true) :
    ownWrite b s = done (s.setCfs { s.cfs with
      image := some (w.set b.toNat s.lpt.operand0)
      imageReport := rangeAndConstraintReport (w.set b.toNat s.lpt.operand0) }) := by
  simp [ownWrite, image, Nat.not_lt.2 index, value, configReport]

theorem ownStore_passed (image : s.cfs.image = some w) (passes : rangeAndConstraintReport w = .passed) :
    ownStore s = { state := s.setCfs { s.cfs with storeBusy := true }, answer := .inProgress,
                   clamped := false } := by
  simp [ownStore, image, passes]

theorem ownStore_failed (image : s.cfs.image = some w) (fails : rangeAndConstraintReport w ≠ .passed) :
    ownStore s = { state := s.setCfs { s.cfs with imageReport := rangeAndConstraintReport w },
                   answer := .refusedRange, clamped := false } := by
  simp [ownStore, image, fails]

theorem ownLeave_done (image : s.cfs.image = some w) : ownLeave s = done (leaveCommissioning s) := by
  simp [ownLeave, State.commissioning, image]

theorem ownWrite_outside (image : s.cfs.image = none) : ownWrite b s = refuse .refusedState s := by
  simp [ownWrite, image]

theorem ownStore_outside (image : s.cfs.image = none) : ownStore s = refuse .refusedState s := by
  simp [ownStore, image]

theorem ownLeave_outside (image : s.cfs.image = none) : ownLeave s = refuse .refusedState s := by
  simp [ownLeave, State.commissioning, image]

/-! ### The commands -/

variable (idle : s.cfs.storeBusy = false)
include idle

/-- ENTER COMMISSIONING taken (R191). -/
theorem enterCommissioning_run (image : s.cfs.image = none) (operand : b.toNat ≤ 1)
    (ready : s.cfs.out = true ∨ s.pins.holdIn = true ∧ s.mtc.motion = .stopped) :
    exec (.enterCommissioning b) s =
      .next (answerCommand 0x10 .done false (enterCommissioning b (latchCommand 0x10 b s))) :=
  congrArg _ <| command_done idle <| ownEnter_of_ready (by exact image) operand (by exact ready)

/-- COMMISSION WRITE taken (R193). -/
theorem commissionWrite_run (image : s.cfs.image = some w) (index : b.toNat ≤ 51)
    (value : wordInRange b.toNat s.lpt.operand0 = true) :
    exec (.commissionWrite b) s =
      .next (answerCommand 0x11 .done false ((latchCommand 0x11 b s).setCfs { s.cfs with
        image := some (w.set b.toNat s.lpt.operand0)
        imageReport := rangeAndConstraintReport (w.set b.toNat s.lpt.operand0) })) :=
  congrArg _ <| command_done idle <| ownWrite_done (s := latchCommand 0x11 b s) image index value

/-- An accepted COMMISSION STORE: the store runs, and COMMAND_DONE is not set (R194, R206). -/
theorem commissionStore_accepted (image : s.cfs.image = some w)
    (passes : rangeAndConstraintReport w = .passed) :
    exec (.commissionStore b) s = .next ((s.setLpt { s.lpt with
      command := (0x12 : Byte) ++ b, resultCode := 0x12, clamped := false,
      answer := .inProgress }).setCfs { s.cfs with storeBusy := true }) := by
  have run : exec (.commissionStore b) s = .next (command 0x12 b ownStore s) := rfl
  rw [run, command_idle idle, ownStore_passed (by exact image) passes]
  rfl

/-- A COMMISSION STORE whose image fails: IMAGE_REPORT tells the test (R194). -/
theorem commissionStore_rejected (image : s.cfs.image = some w)
    (fails : rangeAndConstraintReport w ≠ .passed) :
    exec (.commissionStore b) s =
      .next (answerCommand 0x12 .refusedRange false ((latchCommand 0x12 b s).setCfs
        { s.cfs with imageReport := rangeAndConstraintReport w })) := by
  have run : exec (.commissionStore b) s = .next (command 0x12 b ownStore s) := rfl
  rw [run, command_idle idle, ownStore_failed (by exact image) fails]
  rfl

/-- LEAVE COMMISSIONING taken (R196). -/
theorem leaveCommissioning_run (image : s.cfs.image = some w) : exec (.leaveCommissioning b) s =
    .next (answerCommand 0x13 .done false (leaveCommissioning (latchCommand 0x13 b s))) :=
  congrArg _ <| command_done idle <| ownLeave_done (s := latchCommand 0x13 b s) image

omit idle in
/-- STORE_COMPLETE while a store is in progress (R194). -/
theorem storeComplete_run (image : s.cfs.image = some w) :
    exec .storeComplete (s.setCfs { s.cfs with storeBusy := true }) =
      .next (answerCommand 0x12 .done false (s.setCfs { s.cfs with
        store := storeWords w, writeMark := false, image := some (storeWords w), storeBusy := false })) :=
  congrArg _ (completeStore_of_image (s := s.setCfs { s.cfs with storeBusy := true }) image)

end

/-! ## The statement -/

/-- Settles O58: commissioning entered; then, in commissioning, the entry again, a write, a store and the
leaving; these three outside it; and the store's end. -/
theorem commissioningBuildsAndStoresAnImage : Obligations.CommissioningBuildsAndStoresAnImage := by
  intro s b idle
  refine ⟨fun image operand ready => ⟨_, enterCommissioning_run idle image operand ready, ?_⟩,
    fun w image => ⟨congrArg _ (command_refused idle (ownEnter_again (by exact image))),
      fun range => congrArg _ (command_refused idle (ownWrite_of_range (by exact image) (by exact range))),
      fun index value => ⟨_, commissionWrite_run idle image index value, ?_⟩,
      commissionStore_accepted idle image,
      fun fails => ⟨_, commissionStore_rejected idle image fails, ?_⟩,
      ⟨_, leaveCommissioning_run idle image, ?_⟩⟩,
    fun image c row => ?_, fun w image length => ⟨_, storeComplete_run image, ?_⟩⟩
  · simp [enterCommissioning_cfs, loadedImage_eq, enterCommissioning_service,
      FaultsAndStops.answerCommand_serviceNow, answerCommand_done_lpt]
  · simp [answerCommand_done_lpt]
  · simp [OrderSelection.answerCommand_lpt]
  · simp [leaveCommissioning_cfs, leaveCommissioning_service, FaultsAndStops.answerCommand_serviceNow,
      answerCommand_done_lpt]
  · simp only [List.mem_cons, List.not_mem_nil, or_false] at row
    rcases row with rfl | rfl | rfl
    · exact congrArg _ (command_refused idle (ownWrite_outside (by exact image)))
    · exact congrArg _ (command_refused idle (ownStore_outside (by exact image)))
    · exact congrArg _ (command_refused idle (ownLeave_outside (by exact image)))
  · exact ⟨rfl, rfl, rfl, rfl, rfl, rfl, rfl, setAttention_sets .commandDone _, startReportOf_storeWords length,
      rfl, rfl, rfl, rfl⟩

end Sys2Proof.LocalPort

namespace Sys2Proof.CountersAndAttention

open Sys2Proof Sys2Proof.Machine Sys2Proof.BayLine

/-! ## ATTN through an operation (R207) -/

/-- Where ATTN was asserted exactly while a set cause is unmasked, it still is. -/
structure AttnKept (s t : State) : Prop where
  attn : s.attnOk = true → t.attnOk = true

theorem attnOk_iff (s : State) : s.attnOk = true ↔ s.act.attn = attnOf s.act.causes s.act.mask := by
  simp [State.attnOk]

section
variable {s t u : State}

/-- What is reported to ACT leaves ATTN evaluated (R201 to R207). -/
theorem AttnKept.of_reports (h : ActKept s.act t.act) : AttnKept s t :=
  ⟨by simpa only [attnOk_iff] using h.attn⟩

theorem AttnKept.of_event (h : InEvent s t) : AttnKept s t := .of_reports h.act

/-- Many operations leave ACT alone, as their frame lemmas have it. -/
theorem AttnKept.of_act (h : t.act = s.act) : AttnKept s t :=
  .of_reports (h ▸ .refl _)

theorem AttnKept.of_evaluated (h : t.attnOk = true) : AttnKept s t := ⟨fun _ => h⟩

theorem AttnKept.refl (s : State) : AttnKept s s := ⟨id⟩

theorem AttnKept.trans (h : AttnKept s t) (k : AttnKept t u) : AttnKept s u := ⟨k.attn ∘ h.attn⟩

/-- An operation behind a test. -/
theorem AttnKept.ite {p : Prop} [Decidable p] (h : AttnKept s t) (k : AttnKept s u) :
    AttnKept s (if p then t else u) := by
  split
  · exact h
  · exact k

/-- An operation that a test may leave out. -/
theorem AttnKept.when {p : Prop} [Decidable p] (h : AttnKept s t) : AttnKept s (if p then t else s) :=
  .ite h (.refl s)

end

/-! ## The surge epoch -/

section
variable (s : State)

theorem raiseEpoch_attn : AttnKept s (raiseEpoch s) := .of_reports (StageTideSurge.raiseEpoch_act s)

theorem raiseTests_attn : AttnKept s (raiseTests s) :=
  .ite (.refl s) <| (AttnKept.when (raiseEpoch_attn s)).trans (AttnKept.when (raiseEpoch_attn _))

theorem changeEpoch_attn (e : Nat) : AttnKept s (changeEpoch e s) := .of_event (changeEpoch_inEvent e s)

theorem adoptEpoch_attn (e : Nat) : AttnKept s (adoptEpoch e s) :=
  .ite (.refl s) <| (changeEpoch_attn s e).trans (AttnKept.when (raiseTests_attn _))

/-- An unsettled STM settles, and takes the epoch it is handed (R121). -/
theorem adoptUnsettled_attn (e : Nat) : AttnKept s (adoptEpoch e (settleNow s)) :=
  (AttnKept.of_event (settleNow_inEvent s)).trans (adoptEpoch_attn _ e)

theorem surgeFromPeer_attn (e : Nat) : AttnKept s (surgeFromPeer e s) :=
  .ite (.when (adoptEpoch_attn s e)) (adoptUnsettled_attn s e)

theorem epochFromStatus_attn (e : Nat) (fresh : Bool) : AttnKept s (epochFromStatus e fresh s) :=
  .ite (.when (adoptEpoch_attn s e)) (adoptUnsettled_attn s e)

/-! ## Frames -/

theorem setLif_attn (x : Lif) : AttnKept s (s.setLif x) := .of_act rfl

theorem restartRepeat_attn : AttnKept s (restartRepeat s) := .of_act rfl

theorem startStatuses_attn : AttnKept s (startStatuses s) := .of_act (by simp)

theorem listenStart_attn : AttnKept s (listenStart s) := .of_act (by simp)

theorem takeOrder_attn (sender : Nat) (c : OrderContent) : AttnKept s (takeOrder sender c s) := by
  unfold takeOrder
  split
  · exact .refl s
  · exact (AttnKept.of_event ((setShu_inEvent s _).trans (setAttention_inEvent .orderAdopted _))).trans <|
      (restartRepeat_attn _).trans (.of_event (runShares_inEvent _ _))

theorem listenEnd_attn : AttnKept s (listenEnd s) := by
  have ended : AttnKept s (evalService (s.setPtb { s.ptb with listen := none })) := .of_act (by simp)
  exact ended.trans <| .of_event ((reportUnknown_inEvent _).trans (testClaim_inEvent _))

theorem takeStatusA_attn (b : Nat) (c : StatusA) : AttnKept s (takeStatusA b c s) := by
  unfold takeStatusA
  split
  · exact .refl s
  · exact (AttnKept.of_event (updateEntry_inEvent s b _)).trans <|
      (AttnKept.of_event (shareReport_inEvent _)).when.trans <|
      (AttnKept.of_event (openingReport_inEvent _ _ _)).when.trans <|
      (AttnKept.of_event (testClaim_inEvent _)).when.trans (listenEnd_attn _).when

theorem takeStatusB_attn (b : Nat) (c : StatusB) : AttnKept s (takeStatusB b c s) := by
  unfold takeStatusB
  split
  · exact .refl s
  · have written := AttnKept.of_event (updateEntry_inEvent s b (Entry.writeStatusB c))
    exact .ite written <| written.trans <| (epochFromStatus_attn _ _ _).trans <|
      (AttnKept.of_event (weightReport_inEvent _ _)).when.trans
      (AttnKept.of_event (chooseSources_inEvent _)).when

theorem deliver_attn (b : Nat) (f : Frame) : AttnKept s (deliver b f s) := by
  cases f with
  | surge e => exact surgeFromPeer_attn s e
  | verdict c => exact .of_event (takeVerdict_inEvent b c s)
  | claim c => exact .of_act (by simp [deliver])
  | order c => exact takeOrder_attn s b c
  | statusA c => exact takeStatusA_attn s b c
  | statusB c => exact takeStatusB_attn s b c

/-- A frame is discarded, with DUPLICATE_BAY reported or not, or handed to its owner (R3, R4). -/
theorem receiveFrame_attn (f : RawFrame) : AttnKept s (receiveFrame f s) := by
  have discarded (u : State) : AttnKept u (discardFrame u) := .of_event (countEvent_inEvent _ u)
  refine .ite (discarded s) <| .ite ((AttnKept.of_event (reportFault_inEvent _ s)).trans (discarded _)) ?_
  split
  · exact discarded s
  · exact (AttnKept.of_event (WeirOrders.received_inEvent _ s)).trans (deliver_attn _ _ _)

theorem takeOwnFrame_attn (f : Frame) : AttnKept s (takeOwnFrame f s) := by
  cases f with
  | surge e => exact .when (adoptEpoch_attn s _)
  | verdict c => exact .of_event (countEvent_inEvent _ s)
  | claim c => exact .of_event (takeOwnClaim_inEvent c s)
  | order c => exact (takeOrder_attn s _ c).trans (restartRepeat_attn _)
  | statusA c => exact .of_act (by simp [takeOwnFrame])
  | statusB c => exact .of_act (by simp [takeOwnFrame])

/-! ## The stage sample -/

theorem countSample_attn (x : Sample) : AttnKept s (countSample x s) := .of_event (countSample_inEvent x s)

theorem stageSample_attn (u d : BitVec 12) : AttnKept s (stageSample u d s) := by
  have written : AttnKept s (writeRings u d s) :=
    (AttnKept.of_event (setStm_inEvent s _)).trans <| (countSample_attn _ _).trans (countSample_attn _ _)
  exact .ite (.refl s) <| written.trans <| (AttnKept.of_event (validityStep_inEvent _ _)).trans <|
    (AttnKept.of_reports (StageTideSurge.surgeStep_act _)).trans (.of_event (tidalStep_inEvent _))

/-! ## A reset (R208) -/

theorem blocksReset_attnOk (k : ResetKind) : (blocksReset k s).attnOk = true := by
  obtain ⟨-, mask, attn⟩ := actAfter_attention k s.act
  rw [attnOk_iff, blocksReset_act, mask, attn, attnOf_masked]

theorem startStage_attn : AttnKept s (startStage s) :=
  (AttnKept.of_event (setStm_inEvent s _)).trans (raiseEpoch_attn _).when

/-- Every reset masks every cause, and its start reports to ACT as an event does (R208). -/
theorem reset_attnOk (k : ResetKind) (l r : EncoderRead) : (reset k l r s).attnOk = true := by
  have conditions := AttnKept.of_event (startConditions_inEvent (blocksReset k s))
  have started : AttnKept (blocksReset k s) (reset k l r s) :=
    .ite (conditions.trans (startStage_attn _)) <| conditions.trans <| (listenStart_attn _).trans <|
      (startStage_attn _).trans <| (AttnKept.of_event (sample_inEvent l r _)).trans (startStatuses_attn _)
  exact started.attn (blocksReset_attnOk s k)

end

/-! ## The host's commands (R187, R206) -/

/-- The owner ends its command with this reply: the answer is not IN_PROGRESS. -/
def Ends (r : Reply) : Prop := (r.answer == .inProgress) = false

section
variable {s t : State} {a : Answer} {r q : Reply} {p : Prop} [Decidable p]

theorem done_ends : Ends (done t) := rfl

theorem refuse_ends (h : (a == .inProgress) = false) : Ends (refuse a s) := h

theorem Ends.ite (h : Ends r) (k : Ends q) : Ends (if p then r else q) := by
  split
  · exact h
  · exact k

/-- A refusal, or what the owner answers where the command is not refused. -/
theorem Ends.unless (h : (a == .inProgress) = false) (k : Ends r) :
    Ends (if p then refuse a s else r) := .ite h k

variable (s)

theorem ownSetLocal_ends : Ends (ownSetLocal s) := .unless rfl <| .ite rfl done_ends

theorem ownWithdrawLocal_ends : Ends (ownWithdrawLocal s) := .unless rfl done_ends

theorem ownIssue_ends : Ends (ownIssue s) := .unless rfl <| .unless rfl rfl

theorem ownSetFloor_ends (floor : Nat) : Ends (ownSetFloor floor s) := .unless rfl <| .unless rfl done_ends

theorem ownRaise_ends : Ends (ownRaise s) := .unless rfl <| .unless rfl done_ends

theorem ownClear_ends : Ends (ownClear s) :=
  .unless rfl <| .unless rfl <| .unless rfl <| .unless rfl <| .unless rfl <| .unless rfl done_ends

theorem ownDeclare_ends (bay : Nat) : Ends (ownDeclare bay s) := by
  refine .unless rfl <| .unless rfl <| .unless rfl ?_
  split
  · exact refuse_ends rfl
  · exact .unless rfl done_ends

theorem ownWithdraw_ends (bay : Nat) : Ends (ownWithdraw bay s) := by
  refine .unless rfl <| .unless rfl ?_
  split
  · exact refuse_ends rfl
  · exact done_ends

theorem ownFaultReset_ends : Ends (ownFaultReset s) := .unless rfl <| .unless rfl <| .unless rfl done_ends

theorem ownTrim_ends (b : Byte) : Ends (ownTrim b s) := by
  refine .unless rfl ?_
  split
  · exact refuse_ends rfl
  · refine .unless rfl <| .unless rfl <| .unless rfl ?_
    split
    · exact .unless rfl done_ends
    · exact refuse_ends rfl

theorem ownSelect_ends (n : Nat) : Ends (ownSelect n s) := .unless rfl <| .unless rfl done_ends

theorem ownCounterReset_ends (n : Nat) : Ends (ownCounterReset n s) := .unless rfl <| .ite done_ends done_ends

theorem ownRelease_ends : Ends (ownRelease s) := .ite done_ends (refuse_ends rfl)

theorem ownEnter_ends (b : Byte) : Ends (ownEnter b s) :=
  .unless rfl <| .unless rfl <| .ite done_ends <| .unless rfl <| .unless rfl done_ends

theorem ownWrite_ends (b : Byte) : Ends (ownWrite b s) := by
  unfold ownWrite
  split
  · exact refuse_ends rfl
  · exact .unless rfl <| .unless rfl done_ends

theorem ownLeave_ends : Ends (ownLeave s) := .ite done_ends (refuse_ends rfl)

variable (code b : Byte)

/-- An answer other than IN_PROGRESS sets COMMAND_DONE, and with it evaluates ATTN (R206, R207). -/
theorem answerCommand_attnOk (ends : (a == .inProgress) = false) (clamped : Bool) :
    (answerCommand code a clamped s).attnOk = true := by
  rw [attnOk_iff, answerCommand, if_neg (ne_of_beq_false ends)]
  rfl

theorem answerCommand_attn (a : Answer) (clamped : Bool) : AttnKept s (answerCommand code a clamped s) :=
  .ite (.of_act (by simp)) <| .of_event ((setLpt_inEvent s _).trans (setAttention_inEvent .commandDone _))

/-- A command that its owner ends evaluates ATTN, whatever its owner has done. -/
theorem command_attnOk {owner : State → Reply} (ends : ∀ u, Ends (owner u)) :
    (command code b owner s).attnOk = true := by
  unfold command
  dsimp only
  split
  · exact answerCommand_attnOk _ _ rfl _
  · exact answerCommand_attnOk _ _ (ends _) _

/-- COMMISSION STORE may answer IN_PROGRESS, and leaves ACT alone (R194). -/
theorem commissionStore_attn : AttnKept s (command 0x12 b ownStore s) := by
  have stored (u : State) : AttnKept u (ownStore u).state := by
    unfold ownStore
    split
    · exact .refl u
    · dsimp only
      split
      · exact .of_act (by simp)
      · exact .of_act (by simp)
  have latched : AttnKept s (latchCommand 0x12 b s) := .of_act (by simp)
  exact latched.trans (.ite (answerCommand_attn _ _ _ _) ((stored _).trans (answerCommand_attn _ _ _ _)))

end

/-! ## Every command -/

/-- A row that keeps ATTN as R207 has it. -/
def RowKeepsAttn (s : State) (o : Host.Outcome State Fault Refusal) : Prop :=
  ∀ t, o = .next t → AttnKept s t

section
variable {s t : State} {p : Prop} [Decidable p]

theorem RowKeepsAttn.of_next (h : AttnKept s t) : RowKeepsAttn s (.next t) := by
  rintro _ ⟨⟩
  exact h

/-- A row that sets a test before its operation. -/
theorem RowKeepsAttn.of_when (h : AttnKept s t) : RowKeepsAttn s (.next (if p then t else s)) :=
  .of_next (.when h)

/-- A row whose operation is ruled out by a test. -/
theorem RowKeepsAttn.of_unless (h : AttnKept s t) : RowKeepsAttn s (.next (if p then s else t)) :=
  .of_next (.ite (.refl s) h)

theorem RowKeepsAttn.of_command {owner : State → Reply} (ends : ∀ u, Ends (owner u)) {code b : Byte} :
    RowKeepsAttn s (.next (command code b owner s)) := .of_next (.of_evaluated (command_attnOk s code b ends))

variable (s)

theorem surgeInActive_attn : RowKeepsAttn s (execSurgeInActive s) :=
  have written := AttnKept.of_event (setPins_inEvent s { s.pins with surgeIn := true })
  .of_unless <| .ite written (written.trans (raiseEpoch_attn _))

theorem attemptBegin_attn : RowKeepsAttn s (execAttemptBegin s) := by
  refine .of_when ?_
  split
  · exact .of_act (by simp)
  · exact .refl s

theorem attemptSuccess_attn : RowKeepsAttn s (execAttemptSuccess s) := by
  have on (u : State) : AttnKept u (lineOn u) := .of_act (by simp)
  refine .of_next ?_
  split
  · exact .refl s
  · exact (setLif_attn s _).trans <| (AttnKept.of_event (countEvent_inEvent .frameSent _)).trans <|
      (takeOwnFrame_attn _ _).trans (on _)

theorem failAttempt_attn : AttnKept s (failAttempt s) := by
  have off (u : State) : AttnKept u (goOff u) := .of_act (by simp)
  exact (setLif_attn s _).trans <| (AttnKept.of_event (countEvent_inEvent .txRetry _)).trans (off _).when

theorem statusAPeriod_attn : RowKeepsAttn s (execStatusAPeriod s) := by
  refine .of_next ?_
  split
  · exact .refl s
  · exact .of_act (by simp)

theorem statusBPeriod_attn : RowKeepsAttn s (execStatusBPeriod s) := by
  refine .of_next ?_
  split
  · exact .refl s
  · exact .of_act (by simp)

theorem orderRepeat_attn : RowKeepsAttn s (execOrderRepeatTimer s) := by
  refine .of_when ?_
  cases s.shu.order with
  | none => exact .of_act (by simp)
  | some o => exact .ite (.of_act (by simp)) (.of_act (by simp))

/-- A lapse is counted, and PEER_LAPSE set (R21). -/
theorem peerLapse_attn (b : Nat) : RowKeepsAttn s (execPeerLapse b s) :=
  .of_when <| .of_event <| (updateEntry_inEvent s b _).trans <| (countEvent_inEvent .peerLapse _).trans <|
    (setAttention_inEvent .peerLapse _).trans <| (shareReport_inEvent _).trans (chooseSources_inEvent _)

/-- A lapsed claim is counted (R50). -/
theorem claimWindow_attn : RowKeepsAttn s (execClaimWindow s) := by
  have resolved : AttnKept s (resolveClaim .lapsed s) := .of_act (by simp)
  have waits (u : State) : AttnKept u (startBackoff u) := .of_act (by simp)
  exact .of_when <| resolved.trans <| (AttnKept.of_event (countEvent_inEvent .claimLapsed _)).trans (waits _)

theorem releaseTimer_attn : RowKeepsAttn s (execReleaseTimer s) := by
  refine .of_when ?_
  dsimp only
  split
  · exact .of_event ((setMtc_inEvent s _).trans (leavePriming_inEvent _))
  · exact .of_act (by simp)
  all_goals exact .refl s

theorem exec_attn (c : Instr) : RowKeepsAttn s (exec c s) := by
  cases c with
  | powerOnReset l r | pinReset l r => exact .of_next <| .of_evaluated (reset_attnOk s _ l r)
  | restart b l r =>
    exact .of_next <| .ite (.of_evaluated (answerCommand_attnOk _ _ rfl _))
      (.of_evaluated (reset_attnOk s _ l r))
  | servoSample l r => exact .of_next <| .of_event (sample_inEvent l r s)
  | encoderFault h l r | stallWindowEnd h l r | settleCountFull l r =>
    exact .of_when <| .of_event (sample_inEvent l r s)
  | stageSample u d => exact .of_next (stageSample_attn s u d)
  | tidalStateChange u d | surgeRunComplete u d => exact .of_when (stageSample_attn s u d)
  | surgeInActive => exact surgeInActive_attn s
  | surgeInInactive => exact .of_next (.of_act rfl)
  | holdTaken => exact .of_unless (.of_act (by simp))
  | holdReleased | goodTimer => exact .of_when (.of_act (by simp))
  | supplyGoesLow => exact .of_when <| .ite (.of_act (by simp)) (.of_act (by simp))
  | supplyGoesGood => exact .of_unless <| .ite (.of_act (by simp)) (.of_act (by simp))
  | attemptBegin => exact attemptBegin_attn s
  | attemptSuccess => exact attemptSuccess_attn s
  | attemptLostContention winner => exact .of_when <| (setLif_attn s _).trans (receiveFrame_attn _ winner)
  | attemptFailure | lineOff => exact .of_when (failAttempt_attn s)
  | offTimer => exact .of_when (.of_act (by simp))
  | statusAPeriod => exact statusAPeriod_attn s
  | statusBPeriod => exact statusBPeriod_attn s
  | orderRepeatTimer => exact orderRepeat_attn s
  | frameDiscarded f => exact .of_unless (receiveFrame_attn s f)
  | statusAFrame bay data | statusBFrame bay data | surgeFrame bay data | verdictFrame bay data
  | claimFrame bay data | orderFrame bay data => exact .of_next (receiveFrame_attn s _)
  | listenTimer => exact .of_when (listenEnd_attn s)
  | peerLapse b => exact peerLapse_attn s b
  | claimWindow => exact claimWindow_attn s
  | askingTimer | backoffTimer | settleTimer | pumpSettle => exact .of_when (.of_act (by simp))
  | releaseTimer => exact releaseTimer_attn s
  | settleTimeout => exact .of_when <| .of_event (enterHolding_inEvent s)
  | trimLimitTimeout => exact .of_when <| .of_event (enterFaultStop_inEvent s)
  | runOn => exact .of_next <| .of_event (runOnExpiry_inEvent s)
  | storeComplete => exact .of_when <| .of_evaluated (answerCommand_attnOk _ _ rfl _)
  | attnCauseWrite w | attnMaskWrite w => exact .of_next <| .of_evaluated ((attnOk_iff _).2 rfl)
  | resetCauseWrite w | tableSelectWrite w | tableIndexWrite w => exact .of_next (.of_act rfl)
  | registerWrite addr w => exact .of_next <| .ite (.of_act rfl) <| .when (.of_act rfl)
  | setLocalOrder b => exact .of_command ownSetLocal_ends
  | withdrawLocalOrder b => exact .of_command ownWithdrawLocal_ends
  | issueWeirOrder b => exact .of_command ownIssue_ends
  | raiseSurge b => exact .of_command ownRaise_ends
  | clearSurge b => exact .of_command ownClear_ends
  | setFloor b => exact .of_command (ownSetFloor_ends · _)
  | declareBound b => exact .of_command (ownDeclare_ends · _)
  | withdrawDeclaration b => exact .of_command (ownWithdraw_ends · _)
  | faultReset b => exact .of_command ownFaultReset_ends
  | trim b => exact .of_command (ownTrim_ends · b)
  | counterSelect n => exact .of_command (ownSelect_ends · _)
  | counterReset n => exact .of_command (ownCounterReset_ends · _)
  | counterRelease n => exact .of_command ownRelease_ends
  | freezeMode n => exact .of_command (owner := ownFreezeMode) fun _ => done_ends
  | enterCommissioning b => exact .of_command (ownEnter_ends · b)
  | commissionWrite b => exact .of_command (ownWrite_ends · b)
  | commissionStore b => exact .of_next (commissionStore_attn s b)
  | leaveCommissioning b => exact .of_command ownLeave_ends
  | unknownCommand code b =>
    exact .of_when <| .of_evaluated <|
      command_attnOk (owner := refuse .refusedRange) s code b fun _ => refuse_ends rfl

end

/-- Settles O38: a millisecond and the rest of the queue leave ACT alone, and every command keeps ATTN. -/
theorem everyStepKeepsAttn : Obligations.EveryStepKeepsAttn := by
  intro s t ok run
  cases queue : s.pending with
  | nil =>
    obtain rfl : tick s = t := by simpa [step, queue] using run
    exact (AttnKept.of_act (by simp [tick, advanceClocks])).attn ok
  | cons c rest =>
    have row : exec c (s.setPending rest) = .next t := by simpa [step, queue] using run
    exact (exec_attn (s.setPending rest) c t row).attn ok

end Sys2Proof.CountersAndAttention

namespace Sys2Proof.CountersAndAttention

open Sys2Proof Sys2Proof.Machine Sys2Proof.PeerTable

/-! ## Counters read back (R205) -/

theorem get_update (k : Counters) (n m : Nat) (f : Counter → Counter) :
    (k.update n f).get m = if m = n then (k.get m).map f else k.get m := by
  match n with
  | 0 | 1 | 2 | 3 =>
    match m with
    | 0 | 1 | 2 | 3 | _ + 4 => rfl
  | _ + 4 =>
    split
    · next absent => subst absent; rfl
    · rfl

theorem get_map_all (k : Counters) (m : Nat) (f : Counter → Counter) :
    (k.map f).get m = (k.get m).map f := by
  match m with
  | 0 | 1 | 2 | 3 | _ + 4 => rfl

/-- The four counters have the numbers 0 to 3. -/
theorem get_of_le (k : Counters) {n : Nat} (range : n ≤ 3) : ∃ c, k.get n = some c := by
  match n, range with
  | 0, _ | 1, _ | 2, _ | 3, _ => exact ⟨_, rfl⟩

/-! ## The owner of COUNTER CONTROL (R205) -/

section
variable {s : State} {n : Nat}

theorem ownSelect_refused (range : 3 < n ∨ 17 < s.op0 % 32) : ownSelect n s = refuse .refusedRange s := by
  rcases range with number | event
  · simp [ownSelect, number]
  · simp [ownSelect, event]

theorem ownSelect_selects (number : n ≤ 3) (event : s.op0 % 32 ≤ 17) : ownSelect n s =
    done (s.setAct { s.act with
      counters := s.act.counters.update n (Counter.select s.lpt.operand0 s.lpt.operand1) }) := by
  rw [ownSelect, if_neg (Nat.not_lt.2 number), if_neg (Nat.not_lt.2 event)]

/-- The counters after RESET: number 4 names all four (R205). -/
def zeroed (n : Nat) (k : Counters) : Counters :=
  if n = 4 then k.map Counter.zero else k.update n Counter.zero

theorem get_zeroed (k : Counters) (n m : Nat) : (zeroed n k).get m =
    (k.get m).map fun c => if m = n ∨ n = 4 then c.zero else c := by
  unfold zeroed
  by_cases all : n = 4
  · simp [all, get_map_all]
  · by_cases named : m = n
    · simp [all, named, get_update]
    · simp [all, named, get_update]

theorem ownCounterReset_refused (number : 4 < n) : ownCounterReset n s = refuse .refusedRange s :=
  if_pos number

theorem ownCounterReset_resets (number : n ≤ 4) : ownCounterReset n s =
    done (s.setAct { s.act with counters := zeroed n s.act.counters }) := by
  rw [ownCounterReset, if_neg (Nat.not_lt.2 number), zeroed]
  split
  · rfl
  · rfl

theorem ownRelease_refused (released : s.act.frozen = false) : ownRelease s = refuse .refusedState s := by
  simp [ownRelease, released]

theorem ownRelease_releases (frozen : s.act.frozen = true) :
    ownRelease s = done (s.setAct { s.act with frozen := false }) := if_pos frozen

end

/-! ## COUNTER CONTROL (R187, R205) -/

/-- The byte operand is the action over the low four bits. -/
theorem counterByte_eq (n : BitVec 4) : counterByte 0 n = n.setWidth 8 ∧
    counterByte 1 n = 0x10 + n.setWidth 8 ∧ counterByte 2 n = 0x20 + n.setWidth 8 := by
  revert n
  decide

section
variable {s : State} (n : BitVec 4) (idle : s.cfs.storeBusy = false)
include idle

theorem counterSelect_refused (range : 3 < n.toNat % 8 ∨ 17 < s.lpt.operand0.toNat % 32) :
    exec (.counterSelect n) s =
      .next (answerCommand 0x0B .refusedRange false (latchCommand 0x0B (n.setWidth 8) s)) := by
  obtain ⟨byte, -, -⟩ := counterByte_eq n
  rw [← byte]
  exact congrArg _ (command_refused idle (ownSelect_refused range))

theorem counterSelect_selects (number : n.toNat % 8 ≤ 3) (event : s.lpt.operand0.toNat % 32 ≤ 17) :
    exec (.counterSelect n) s = .next (answerCommand 0x0B .done false
      ((latchCommand 0x0B (counterByte 0 n) s).setAct { s.act with
        counters := s.act.counters.update (n.toNat % 8)
          (Counter.select s.lpt.operand0 s.lpt.operand1) })) :=
  congrArg _ (command_done idle (ownSelect_selects number event))

theorem counterReset_refused (number : 4 < n.toNat % 8) : exec (.counterReset n) s =
    .next (answerCommand 0x0B .refusedRange false (latchCommand 0x0B (0x10 + n.setWidth 8) s)) := by
  obtain ⟨-, byte, -⟩ := counterByte_eq n
  rw [← byte]
  exact congrArg _ (command_refused idle (ownCounterReset_refused number))

theorem counterReset_resets (number : n.toNat % 8 ≤ 4) :
    exec (.counterReset n) s = .next (answerCommand 0x0B .done false
      ((latchCommand 0x0B (counterByte 1 n) s).setAct
        { s.act with counters := zeroed (n.toNat % 8) s.act.counters })) :=
  congrArg _ (command_done idle (ownCounterReset_resets number))

theorem counterRelease_refused (released : s.act.frozen = false) : exec (.counterRelease n) s =
    .next (answerCommand 0x0B .refusedState false (latchCommand 0x0B (0x20 + n.setWidth 8) s)) := by
  obtain ⟨-, -, byte⟩ := counterByte_eq n
  rw [← byte]
  exact congrArg _ (command_refused idle (ownRelease_refused released))

theorem counterRelease_releases (frozen : s.act.frozen = true) :
    exec (.counterRelease n) s = .next (answerCommand 0x0B .done false
      ((latchCommand 0x0B (counterByte 2 n) s).setAct { s.act with frozen := false })) :=
  congrArg _ (command_done idle (ownRelease_releases frozen))

theorem freezeMode_sets : exec (.freezeMode n) s = .next (answerCommand 0x0B .done false
    ((latchCommand 0x0B (counterByte 3 n) s).setAct
      { s.act with freezeOnFull := s.lpt.operand0.getLsbD 0 })) :=
  congrArg _ (command_done (owner := ownFreezeMode) idle rfl)

end

/-- Settles O56: SELECT, RESET, RELEASE and FREEZE MODE, refused or done. -/
theorem counterControlWritesTheCounters : Obligations.CounterControlWritesTheCounters := by
  intro s n idle
  refine ⟨counterSelect_refused n idle, fun number event => ?_, counterReset_refused n idle,
    fun number => ⟨_, counterReset_resets n idle number, rfl, fun k => ?_, rfl, rfl, ?_, ?_⟩,
    counterRelease_refused n idle,
    fun frozen => ⟨_, counterRelease_releases n idle frozen, rfl, rfl, rfl, rfl⟩,
    ⟨_, freezeMode_sets n idle, rfl, rfl, rfl, rfl⟩⟩
  · obtain ⟨c, read⟩ := get_of_le s.act.counters number
    refine ⟨_, c, counterSelect_selects n idle number event, rfl, read, ?_, fun k other => ?_, rfl, rfl,
      ?_, ?_⟩
    · refine (get_update _ _ _ _).trans ?_
      rw [if_pos rfl, read]
      rfl
    · exact (get_update _ _ _ _).trans (if_neg other)
    · simp
    · simp
  · exact get_zeroed _ _ _
  · simp
  · simp

end Sys2Proof.CountersAndAttention

namespace Sys2Proof.CommandQueue

open Sys2Proof Sys2Proof.Machine Sys2Proof.BayLine Sys2Proof.OpeningGeometry

/-! ## The step and its queue (log 28) -/

/-- Settles O1: the queue that the step takes apart is the one it was given. -/
theorem stepRunsTheFrontCommand : Obligations.StepRunsTheFrontCommand := by
  intro c q s
  have queue : (s.setPending (c :: q)).pending = c :: q := State.setPending_pending _ _
  have rest : (s.setPending (c :: q)).setPending q = s.setPending q := rfl
  rw [step, queue]
  exact congrArg (exec c) rest

/-! ## What a row's shape leaves of the queue -/

section
variable {s t : State} {p : Prop} [Decidable p]

/-- A row that runs its operation whatever the state. -/
theorem next_pending (h : t.pending = s.pending := by simp) :
    ∃ u, (Host.Outcome.next t : Host.Outcome State Fault Refusal) = .next u ∧ u.pending = s.pending :=
  ⟨t, rfl, h⟩

/-- A row that sets a test before its operation. -/
theorem next_ite_pending (h : t.pending = s.pending := by simp) :
    ∃ u, (Host.Outcome.next (if p then t else s) : Host.Outcome State Fault Refusal) = .next u ∧
      u.pending = s.pending := by
  refine ⟨_, rfl, ?_⟩
  split
  · exact h
  · rfl

/-- A row whose operation is ruled out by a test. -/
theorem next_unless_pending (h : t.pending = s.pending := by simp) :
    ∃ u, (Host.Outcome.next (if p then s else t) : Host.Outcome State Fault Refusal) = .next u ∧
      u.pending = s.pending := by
  refine ⟨_, rfl, ?_⟩
  split
  · rfl
  · exact h

/-- An owner's answer that turns on a test: refused, or one of its other answers. -/
theorem refuse_unless_pending {a : Answer} {r : Reply} (h : r.state.pending = s.pending := by simp) :
    (if p then refuse a s else r).state.pending = s.pending := by
  split
  · rfl
  · exact h

end

/-! ## The host's commands -/

section
variable (s : State)

theorem ownSetLocal_pending : (ownSetLocal s).state.pending = s.pending := by
  refine refuse_unless_pending ?_
  split
  · simp
  · simp

theorem ownWithdrawLocal_pending : (ownWithdrawLocal s).state.pending = s.pending := refuse_unless_pending

theorem ownIssue_pending : (ownIssue s).state.pending = s.pending :=
  refuse_unless_pending refuse_unless_pending

theorem ownSetFloor_pending (floor : Nat) : (ownSetFloor floor s).state.pending = s.pending :=
  refuse_unless_pending refuse_unless_pending

theorem ownRaise_pending : (ownRaise s).state.pending = s.pending :=
  refuse_unless_pending refuse_unless_pending

theorem ownClear_pending : (ownClear s).state.pending = s.pending :=
  refuse_unless_pending <| refuse_unless_pending <| refuse_unless_pending <| refuse_unless_pending <|
    refuse_unless_pending refuse_unless_pending

theorem ownDeclare_pending (bay : Nat) : (ownDeclare bay s).state.pending = s.pending := by
  refine refuse_unless_pending <| refuse_unless_pending <| refuse_unless_pending ?_
  split
  · rfl
  · exact refuse_unless_pending

theorem ownWithdraw_pending (bay : Nat) : (ownWithdraw bay s).state.pending = s.pending := by
  refine refuse_unless_pending <| refuse_unless_pending ?_
  split
  · rfl
  · dsimp only
    split
    · simp
    · simp

theorem ownFaultReset_pending : (ownFaultReset s).state.pending = s.pending :=
  refuse_unless_pending <| refuse_unless_pending refuse_unless_pending

theorem ownTrim_pending (b : Byte) : (ownTrim b s).state.pending = s.pending := by
  refine refuse_unless_pending ?_
  split
  · rfl
  · refine refuse_unless_pending <| refuse_unless_pending <| refuse_unless_pending ?_
    split
    · exact refuse_unless_pending
    · rfl

theorem ownSelect_pending (n : Nat) : (ownSelect n s).state.pending = s.pending :=
  refuse_unless_pending refuse_unless_pending

theorem ownCounterReset_pending (n : Nat) : (ownCounterReset n s).state.pending = s.pending := by
  refine refuse_unless_pending ?_
  split
  · simp
  · simp

theorem ownRelease_pending : (ownRelease s).state.pending = s.pending := by
  unfold ownRelease
  split
  · simp
  · rfl

theorem ownEnter_pending (b : Byte) : (ownEnter b s).state.pending = s.pending := by
  refine refuse_unless_pending <| refuse_unless_pending ?_
  split
  · simp
  · exact refuse_unless_pending refuse_unless_pending

theorem ownWrite_pending (b : Byte) : (ownWrite b s).state.pending = s.pending := by
  unfold ownWrite
  split
  · rfl
  · exact refuse_unless_pending refuse_unless_pending

theorem ownStore_pending : (ownStore s).state.pending = s.pending := by
  unfold ownStore
  split
  · rfl
  · dsimp only
    split
    · simp
    · simp

theorem ownLeave_pending : (ownLeave s).state.pending = s.pending := by
  unfold ownLeave
  split
  · simp
  · rfl

/-- A COMMAND write leaves the queue alone if its owner does (R187): the word and the answer are LPT's. -/
theorem command_pending {owner : State → Reply} (h : ∀ u, (owner u).state.pending = u.pending) (code b : Byte) :
    (command code b owner s).pending = s.pending := by
  cases busy : s.cfs.storeBusy with
  | true => simp [command_busy busy]
  | false => simp [command_idle busy, h]

/-! ## Resets -/

/-- The queue is not the part's to reset (log 6). -/
@[simp] theorem blocksReset_pending (k : ResetKind) : (blocksReset k s).pending = s.pending := rfl

theorem reset_pending (k : ResetKind) (l r : EncoderRead) : (reset k l r s).pending = s.pending := by
  cases out : (blocksReset k s).cfs.out with
  | true => simp [reset, out, startOut]
  | false => simp [reset, out, startPassed]

/-! ## The rows with an operation that turns on more than one test -/

theorem supplyGoesLow_pending : ∃ t, execSupplyGoesLow s = .next t ∧ t.pending = s.pending := by
  refine next_ite_pending ?_
  dsimp only
  split
  · simp
  · simp

theorem supplyGoesGood_pending : ∃ t, execSupplyGoesGood s = .next t ∧ t.pending = s.pending := by
  refine next_unless_pending ?_
  dsimp only
  split
  · simp
  · simp

theorem surgeInActive_pending : ∃ t, execSurgeInActive s = .next t ∧ t.pending = s.pending := by
  refine next_unless_pending ?_
  dsimp only
  split
  · simp
  · simp

theorem attemptBegin_pending : ∃ t, execAttemptBegin s = .next t ∧ t.pending = s.pending := by
  refine next_ite_pending ?_
  split
  · simp
  · rfl

theorem attemptSuccess_pending : ∃ t, execAttemptSuccess s = .next t ∧ t.pending = s.pending := by
  refine next_pending ?_
  split
  · rfl
  · simp

theorem statusAPeriod_pending : ∃ t, execStatusAPeriod s = .next t ∧ t.pending = s.pending := by
  refine next_pending ?_
  split
  · rfl
  · simp

theorem statusBPeriod_pending : ∃ t, execStatusBPeriod s = .next t ∧ t.pending = s.pending := by
  refine next_pending ?_
  split
  · rfl
  · simp

theorem orderRepeat_pending : ∃ t, execOrderRepeatTimer s = .next t ∧ t.pending = s.pending := by
  have repeated (p : Prop) [Decidable p] (c : OrderContent) : (if p then restartRepeat s
      else queueOrder c (s.setLif { s.lif with repeatTimer := none })).pending = s.pending := by
    split
    · simp
    · simp
  refine next_ite_pending ?_
  cases s.shu.order with
  | none => simp
  | some o => exact repeated _ _

theorem releaseTimer_pending : ∃ t, execReleaseTimer s = .next t ∧ t.pending = s.pending := by
  refine next_ite_pending ?_
  dsimp only
  split
  · simp
  · simp
  all_goals rfl

theorem registerWrite_pending (addr : BitVec 7) (w : Word) :
    ∃ t, execRegisterWrite addr w s = .next t ∧ t.pending = s.pending := by
  refine next_pending ?_
  split
  · simp
  · split
    · simp
    · rfl

/-- RESTART is refused during a store, and otherwise resets the part (R197). -/
theorem restart_pending (b : Byte) (l r : EncoderRead) :
    ∃ t, exec (.restart b l r) s = .next t ∧ t.pending = s.pending := by
  rcases restart_cases b l r s with taken | busy
  · exact ⟨_, taken, reset_pending s _ l r⟩
  · exact ⟨_, busy, by simp⟩

end

/-! ## The statement -/

/-- Settles O2, row by row: each meaning answers a next state, and only the step writes the queue. -/
theorem everyCommandCompletesAndKeepsTheQueue : Obligations.EveryCommandCompletesAndKeepsTheQueue := by
  intro c s
  cases c with
  | powerOnReset l r | pinReset l r => exact next_pending (reset_pending s _ l r)
  | restart b l r => exact restart_pending s b l r
  | servoSample l r | stageSample u d => exact next_pending
  | encoderFault h l r | stallWindowEnd h l r | settleCountFull l r => exact next_ite_pending
  | tidalStateChange u d | surgeRunComplete u d => exact next_ite_pending
  | surgeInActive => exact surgeInActive_pending s
  | surgeInInactive => exact next_pending
  | holdTaken => exact next_unless_pending
  | holdReleased | goodTimer => exact next_ite_pending
  | supplyGoesLow => exact supplyGoesLow_pending s
  | supplyGoesGood => exact supplyGoesGood_pending s
  | attemptBegin => exact attemptBegin_pending s
  | attemptSuccess => exact attemptSuccess_pending s
  | attemptLostContention _ | attemptFailure | lineOff | offTimer => exact next_ite_pending
  | statusAPeriod => exact statusAPeriod_pending s
  | statusBPeriod => exact statusBPeriod_pending s
  | orderRepeatTimer => exact orderRepeat_pending s
  | frameDiscarded f => exact next_unless_pending
  | statusAFrame bay data | statusBFrame bay data | surgeFrame bay data | verdictFrame bay data
  | claimFrame bay data | orderFrame bay data => exact next_pending
  | listenTimer | peerLapse b | askingTimer | claimWindow | backoffTimer | settleTimer =>
    exact next_ite_pending
  | pumpSettle | settleTimeout | trimLimitTimeout | storeComplete => exact next_ite_pending
  | releaseTimer => exact releaseTimer_pending s
  | runOn => exact next_pending
  | attnCauseWrite w | attnMaskWrite w | resetCauseWrite w | tableSelectWrite w | tableIndexWrite w =>
    exact next_pending
  | registerWrite addr w => exact registerWrite_pending s addr w
  | setLocalOrder b => exact next_pending (command_pending s ownSetLocal_pending _ _)
  | withdrawLocalOrder b => exact next_pending (command_pending s ownWithdrawLocal_pending _ _)
  | issueWeirOrder b => exact next_pending (command_pending s ownIssue_pending _ _)
  | raiseSurge b => exact next_pending (command_pending s ownRaise_pending _ _)
  | clearSurge b => exact next_pending (command_pending s ownClear_pending _ _)
  | setFloor b => exact next_pending (command_pending s (ownSetFloor_pending · _) _ _)
  | declareBound b => exact next_pending (command_pending s (ownDeclare_pending · _) _ _)
  | withdrawDeclaration b => exact next_pending (command_pending s (ownWithdraw_pending · _) _ _)
  | faultReset b => exact next_pending (command_pending s ownFaultReset_pending _ _)
  | trim b => exact next_pending (command_pending s (ownTrim_pending · b) _ _)
  | counterSelect n => exact next_pending (command_pending s (ownSelect_pending · _) _ _)
  | counterReset n => exact next_pending (command_pending s (ownCounterReset_pending · _) _ _)
  | counterRelease n => exact next_pending (command_pending s ownRelease_pending _ _)
  | freezeMode n => exact next_pending (command_pending s (fun u => State.setAct_pending u _) _ _)
  | enterCommissioning b => exact next_pending (command_pending s (ownEnter_pending · b) _ _)
  | commissionWrite b => exact next_pending (command_pending s (ownWrite_pending · b) _ _)
  | commissionStore b => exact next_pending (command_pending s ownStore_pending _ _)
  | leaveCommissioning b => exact next_pending (command_pending s ownLeave_pending _ _)
  | unknownCommand code b =>
    exact next_ite_pending (command_pending s (owner := refuse .refusedRange) (fun _ => rfl) _ _)

end Sys2Proof.CommandQueue
